-- ==== Sys2Proof/Word.lean ====
section
/-! DEFINITION. The units of data the WT8's interfaces are made of: bytes, and the 64-bit register word. -/

namespace Sys2Proof

/-- A byte of a frame, a request slot, a segment entry, a record or the module window. -/
abbrev Byte := BitVec 8

/-- The word the host writes to one of the five registers (R138: all five are 64 bits wide). -/
abbrev RegWord := BitVec 64

end Sys2Proof
end

