-- ==== Sys2Proof/Syntax.lean ====
section
/-! DEFINITION. The commands of the WT8: one constructor per row of spec/opcode_table.json, with what the world supplies to it. -/

namespace Sys2Proof

/-- STRAP_REFKIND: whether a reference timing module is fitted (00_scope.md, Pins and straps). -/
inductive RefKind where
  | pulseAndModule
  | noReference
  deriving DecidableEq, Repr

/-- Bit rate of the two-wire bus (R27, R42; STRAPTEST gives the default). -/
inductive Speed where
  | kHz100
  | kHz400
  deriving DecidableEq, Repr

/-- The straps as latched at power-on and at each pin reset (00_scope.md, Pins and straps). -/
structure Straps where
  kind : RefKind
  speed : Speed
  deriving DecidableEq, Repr

/-- The two edges of RESET_N: the pin goes low and latches the straps, or it is released (R2, R43). -/
inductive PinEdge where
  | fall (straps : Straps)
  | rise
  deriving DecidableEq, Repr

/-- The three record streams. -/
inductive Stream where
  | arrival
  | auction
  | evidence
  deriving DecidableEq, Repr

/-- What is taken next at a tick at which the reports of one step, a due deadline, a due SUMMARY, a holdover second and the requests
of the tick meet: the rules leave the order open (R50, R53, R99, R119, R130), so the command says it. Log 9. -/
inductive Pick where
  /-- the next report of the step itself, in the order R21, R38 and R11 fix -/
  | report
  /-- the due head of the deadline list -/
  | deadline
  /-- the SUMMARY that has fallen due -/
  | summary
  /-- the holdover second that the step has made due, or that is due at its tick (R50) -/
  | second
  /-- the group request that is offered, taken among the reports of the step (R53, R99) -/
  | groupRequest
  /-- the requests of the tick: what remains of the cascade and the SUMMARY is left to the commands that follow them -/
  | request
  deriving DecidableEq, Repr

/-- The end of a slot write (R162, R163): which of those in flight, oldest first from 0, and whether it succeeded. Log 41. -/
structure SlotWrite where
  which : Nat
  ok : Bool
  deriving DecidableEq, Repr

/-- The steps of the part: one constructor per row of spec/opcode_table.json. The table gives no row a field, so the operands
are what the world supplies to the step. The parameters of a request are in the slot it was read from (log 13). -/
inductive Instr where
  | powerOnReset (straps : Straps)
  | lockWaitEnd
  | pinReset (edge : PinEdge)
  | lockEvent
  | lossOfLock
  | slewExpiry
  | pulseCapture
  | readStart
  /-- the sixteen bytes of the module window in the order received, and the order of the tick's reports -/
  | readComplete (window : List Byte) (order : List Pick)
  /-- which bit period of the transaction, from 0, read back wrong -/
  | readAbortMismatch (bit : Nat)
  /-- which bit period of the transaction, from 0, was not acknowledged -/
  | readAbortNack (bit : Nat)
  | clockHoldTimeout
  /-- whether the clock line is seen high at the tick of the timeout -/
  | readTimeout (clockHigh : Bool)
  /-- whether both lines are seen high when the recovery's STOP has ended -/
  | recoveryEnd (bothHigh : Bool)
  /-- whether both lines are seen high when the STOP has ended -/
  | busStopEnd (bothHigh : Bool)
  | lossTimeout
  | holdoverSecond
  | linkGain (port : Fin 8)
  | linkLoss (port : Fin 8)
  | startOfFrame (port : Fin 8)
  /-- the bytes of the frame, from the destination address to the last byte of the frame check sequence -/
  | endOfFrame (port : Fin 8) (frame : List Byte)
  | mergeRelease
  | startDeadline
  | endDeadline
  | cutoffDeadline
  | decideLimit
  | summaryDue
  | pendingReset
  | burstStart
  /-- whether every write of the burst succeeded -/
  | burstComplete (ok : Bool)
  | trailerComplete (stream : Stream) (ok : Bool)
  | statusWriteComplete (ok : Bool)
  /-- which of the entry writes in flight, oldest first from 0, and whether it succeeded -/
  | entryWriteComplete (which : Nat) (ok : Bool)
  | areaWrite (value : RegWord)
  | enableSet (value : RegWord)
  | enableClear (value : RegWord)
  | maskWrite (value : RegWord)
  | linkReset (value : RegWord)
  | linkHot
  | linkResetTakesEffect
  | handWrite (value : RegWord)
  /-- the 32 bytes of the entry as read, or none when the read ended in error -/
  | handFetchComplete (entry : Option (List Byte))
  | causeWrite (value : RegWord)
  | otherRegisterWrite (value : RegWord)
  | requestSegmentTake
  /-- the 64 bytes of the slot as read, or none when the read ended in error -/
  | slotReadComplete (slot : Option (List Byte))
  | slotWriteComplete (ended : SlotWrite)
  | stamp
  | mark
  /-- the order of the tick's reports -/
  | setTime (order : List Pick)
  | schedule
  | amend
  | cancel
  | decideClose
  | decideExtend
  | clear
  | queryGroup
  | queryPort
  | configPortConfigure
  | configPortEnable
  | configPortDisable
  | cut
  | configDiscipline
  | configReference
  | configTrace
  | tick
  deriving DecidableEq, Repr

end Sys2Proof
end

