-- ==== Sys2Proof/Decode.lean ====
section
/-! DEFINITION. The command a word spells by the bits of spec/opcode_table.json. -/

namespace Sys2Proof

/-- The table gives no row any bits (every row's field list is empty), so no word spells a command. Log 32. -/
def decodeTableWord (_nbits _w : Nat) : Option Instr := none

end Sys2Proof
end

