-- ==== Sys2Proof/Config.lean ====
section
/-! DEFINITION. The free values of the model: constants with no body, so nothing can be proved about which value they give. -/

namespace Sys2Proof.Config

/-- What the part's random source gives at its n-th draw (R102: which value comes is set by no state, request or timing).
A draw from 0 to W is this reduced to the range, so every value of the range remains possible. Log 5. -/
opaque randomDraw : Nat → Nat

/-- What a 64-bit unsigned quantity becomes when the exact sum it should hold does not fit in 64 bits, where the spec states
neither a wrap nor a limit (XT past 2^64 - 1, a tick count, an instant, a lost count). Log 6. -/
opaque beyond64 : Nat → BitVec 64

end Sys2Proof.Config
end

