-- ==== Sys2Proof/Machine/Params.lean ====
section
/-! DEFINITION. The fixed quantities of the spec and the host-configurable parameter sets, with their default values. -/

namespace Sys2Proof.Machine

/-- Ticks in one second of tick measure: 125 MHz (R3). -/
def ticksPerSecond : Nat := 125000000
/-- 500 ms in ticks: the EARLY interval of R25 and the read limit of R33. -/
def halfSecondTicks : Nat := 62500000
/-- ns in one second of XT measure. -/
def nsPerSecond : Nat := 1000000000
/-- BASE: 8 ns in units of 2^-32 ns (section 1.2). -/
def baseInc : Nat := 34359738368
/-- F_MAX in ppt (R7). -/
def fMax : Int := 200000000
/-- How long the P of a discipline update stays in force, in ticks (R8, R9). -/
def slewTicks : Nat := 125000000
/-- The largest divergence bound, 2^32 - 1 ns (R56). -/
def uMax : Nat := 4294967295
/-- Places in a port FIFO (section 4.4); ordinary entries may fill all but one. -/
def fifoPlaces : Nat := 512
/-- Slots of arrival staging (section 5.6); ordinary records may fill all but one. -/
def arrivalSlots : Nat := 16384
/-- Slots of auction staging (R86). -/
def auctionSlots : Nat := 512
/-- Slots of evidence staging, held and reserved together (R87). -/
def evidenceSlots : Nat := 256
/-- Places in the auction notice queue (R98). -/
def noticePlaces : Nat := 128
/-- Places in the evidence queue (R120). -/
def evidencePlaces : Nat := 128
/-- Records in a full burst (R147). -/
def burstRecords : Nat := 16
/-- Indexes a stream's lent list can hold (R144). -/
def lentPlaces : Nat := 16
/-- Indexes the request queue can hold (R144). -/
def requestPlaces : Nat := 8
/-- The largest random window in µs (R95). -/
def windowMax : Nat := 300000000
/-- The largest latency compensation in ns (section 4.1). -/
def compensationMax : Nat := 16383

/-- The nine parameters of the discipline set (R10). -/
structure DiscSet where
  kpAcq : Nat
  kiAcq : Nat
  kpTrk : Nat
  kiTrk : Nat
  lock : Nat
  step : Nat
  loss : Nat
  slewMax : Nat
  initialF : Int
  deriving DecidableEq, Repr

/-- The defaults of R10. -/
def DiscSet.default : DiscSet :=
  { kpAcq := 1, kiAcq := 3, kpTrk := 2, kiTrk := 6, lock := 1000, step := 50000, loss := 3, slewMax := 100000000, initialF := 0 }

/-- The six parameters of the reference set (R42). The reduction is in percent. -/
structure RefSet where
  address : Nat
  register : Nat
  speed : Speed
  reduction : Nat
  dRef : Nat
  tolerance : Nat
  deriving DecidableEq, Repr

/-- The defaults of R42, with the speed the strap gives (R43). -/
def RefSet.default (speed : Speed) : RefSet :=
  { address := 0x3A, register := 0, speed := speed, reduction := 0, dRef := 0, tolerance := 500000 }

/-- The seven parameters of the trace set (R54). The evidence interval is in seconds. -/
structure TraceSet where
  limitA : Nat
  limitB : Nat
  guardG : Nat
  rateH : Nat
  rateBackup : Nat
  upgradeHold : Nat
  interval : Nat
  deriving DecidableEq, Repr

/-- The defaults of R54. -/
def TraceSet.default : TraceSet :=
  { limitA := 100000, limitB := 1000000, guardG := 40, rateH := 20, rateBackup := 100000, upgradeHold := 4, interval := 10 }

/-- The kind class of a frame (R66). -/
inductive KindClass where
  | other
  | new
  | amend
  | cancel
  deriving DecidableEq, Repr

/-- One present entry of the kind map: a byte value and the class it maps to (section 4.1). -/
structure KindEntry where
  value : Byte
  kind : KindClass
  deriving DecidableEq, Repr

/-- The kind filter: for each class whether its frames are recorded (true, RECORD) or only counted (false, COUNT). -/
structure KindFilter where
  new : Bool
  amend : Bool
  cancel : Bool
  other : Bool
  deriving DecidableEq, Repr

/-- What the filter says of a class (R67). -/
def KindFilter.records (f : KindFilter) : KindClass → Bool
  | .new => f.new
  | .amend => f.amend
  | .cancel => f.cancel
  | .other => f.other

/-- A port's configuration (section 4.1): compensation in ns, the four key offsets, the four kind-map entries, the kind
filter and the default group, each optional item absent as none. -/
structure PortConfig where
  compensation : Nat
  sessionAt : Option Nat
  messageAt : Option Nat
  groupAt : Option Nat
  kindAt : Option Nat
  kindMap : List (Option KindEntry)
  filter : KindFilter
  defaultGroup : Option (Fin 64)
  deriving DecidableEq, Repr

/-- The defaults of section 4.1. -/
def PortConfig.default : PortConfig :=
  { compensation := 0, sessionAt := none, messageAt := none, groupAt := none, kindAt := none,
    kindMap := [none, none, none, none], filter := ⟨true, true, true, true⟩, defaultGroup := none }

end Sys2Proof.Machine
end

