-- ==== Sys2Proof/Machine/State.lean ====
section
/-! DEFINITION. The state of the WT8, block by block, as plain data, and the machine right after reset. -/

namespace Sys2Proof.Machine

/-- The WT8 has no fault that stops it: every error of the spec is a cause bit, an outcome code, a segment reason or an
evidence record. So no step raises one, and the type has no constructor. Log 27. -/
inductive Fault
  deriving DecidableEq, Repr

/-- Why a command has no meaning in this model. -/
inductive Refusal where
  /-- Raised by a dispatch arm of a command that has no meaning yet; no arm does. Safe: the machine stops. -/
  | notModelled (mnemonic : String)
  deriving DecidableEq, Repr

/-- What a command answers. -/
abbrev Out (σ : Type) := Host.Outcome σ Fault Refusal

/-! ### Oscillator supervisor -/

/-- R1. -/
inductive OscState where
  | locked
  | backup
  deriving DecidableEq, Repr

/-- Whether the part is out of reset (R2): in the lock wait of a power-on, with whether RESET_N is low now and whether it
has been low during the wait; or held by RESET_N, with whether the reset began with a power-on. -/
inductive ResetPhase where
  | running
  | lockWait (pinLow pinSeen : Bool)
  | held (power : Bool)
  deriving DecidableEq, Repr

/-- State of the OSC (R1 to R3). -/
structure Osc where
  phase : ResetPhase
  state : OscState
  tick : Nat
  deriving DecidableEq, Repr

/-! ### Timescale unit -/

/-- Section 1.5. -/
inductive TsState where
  | unset
  | acquiring
  | tracking
  | slewing
  | holdover
  deriving DecidableEq, Repr

/-- The slew remaining (R8). -/
inductive Slew where
  | ticks (n : Nat)
  | continuous
  deriving DecidableEq, Repr

/-- State of the TSU (chapter The Exchange Timescale). `xtRead` says that the XT integer of this tick has gone into an act that keeps
no reading a step could move, so no step of XT can follow at this tick (R6); the model's own (log 36). -/
structure Tsu where
  xt : Nat
  frac : Nat
  inc : Nat
  f : Int
  p : Int
  slew : Slew
  state : TsState
  leap : Nat
  good : Nat
  theta : Int
  set : DiscSet
  pendingSet : Option DiscSet
  xtRead : Bool
  deriving DecidableEq, Repr

/-! ### Reference reader -/

/-- The pending pulse (R26). -/
structure Pulse where
  capXt : Nat
  capTick : Nat
  deriving DecidableEq, Repr

/-- The last accepted pulse (R38); a loss timeout removes its capture XT (R41). -/
structure Accepted where
  label : Nat
  capXt : Option Nat
  capTick : Nat
  deriving DecidableEq, Repr

/-- Where the bus engine stands. `opening`, `transaction` and `stopping` are the read progress READING: the recovery that
opens a read (R26), its transaction (R28), and the STOP after the decision (R32). -/
inductive BusPhase where
  | idle
  | recovering
  | opening
  | transaction
  | stopping
  deriving DecidableEq, Repr

/-- The read progress as the chapter names it. -/
inductive ReadProgress where
  | idle
  | recovering
  | reading
  deriving DecidableEq, Repr

/-- The bus condition (R32). -/
inductive BusCondition where
  | clear
  | unsettled
  deriving DecidableEq, Repr

/-- The reference state (R40). -/
inductive RefState where
  | bad
  | good
  deriving DecidableEq, Repr

/-- State of the REF (chapter Reference Pulse and Module Reader). -/
structure Ref where
  kind : RefKind
  strapSpeed : Speed
  pending : Option Pulse
  phase : BusPhase
  bus : BusCondition
  last : Option Accepted
  state : RefState
  rejectRun : Nat
  lossTimer : Option Nat
  set : RefSet
  pendingSet : Option RefSet
  deriving DecidableEq, Repr

/-! ### Divergence monitor -/

/-- Traceability class. -/
inductive Cls where
  | none
  | b
  | a
  deriving DecidableEq, Repr

/-- The last-pulse terms (R46). -/
structure PulseTerms where
  uMod : Nat
  absTheta : Nat
  deriving DecidableEq, Repr

/-- State of the DIV (chapter Divergence Bound and Traceability Class). -/
structure Div where
  u : Nat
  terms : Option PulseTerms
  u0 : Nat
  base : Option Nat
  secs : Nat
  raw : Cls
  capped : Cls
  cls : Cls
  upCount : Nat
  upTarget : Option Cls
  trace : TraceSet
  deriving DecidableEq, Repr

/-! ### Readings and headers -/

/-- A reading of the current time with the class in force served with it (R6, R53). -/
structure Reading where
  xt : Nat
  leap : Nat
  ts : TsState
  cls : Cls
  tick : Nat
  deriving DecidableEq, Repr

/-- The common fields of a record that travel with its entry (R89). -/
structure Header where
  stamp : Nat
  leap : Nat
  cls : Cls
  ts : TsState
  deriving DecidableEq, Repr

/-! ### Tap ports -/

/-- R57. -/
inductive PortState where
  | disabled
  | down
  | up
  deriving DecidableEq, Repr

/-- The body of an arrival entry (R68). -/
structure Arrival where
  length : Nat
  fcsBad : Bool
  groupRange : Bool
  defaulted : Bool
  kindPresent : Bool
  kind : KindClass
  session : Option Nat
  message : Option Nat
  group : Option (Fin 64)
  deriving DecidableEq, Repr

/-- An entry of a port FIFO: an arrival (R68), or a GAP with its lost count, last-lost stamp and whether it is open (R69). -/
inductive PortBody where
  | arrival (a : Arrival)
  | gap (lost lastLost : Nat) (isOpen : Bool)
  deriving DecidableEq, Repr

/-- An entry of a port FIFO with its stamp, L, class, timescale state and capture tick. -/
structure PortEntry where
  hdr : Header
  capTick : Nat
  body : PortBody
  deriving DecidableEq, Repr

/-- The five counters of R71. -/
structure PortCounters where
  recorded : Nat
  filtered : Nat
  malformed : Nat
  lost : Nat
  arming : Nat
  deriving DecidableEq, Repr

/-- State of one tap port (chapter Tap Ports). -/
structure Port where
  state : PortState
  present : Bool
  armEnd : Option Nat
  frame : Option Reading
  config : PortConfig
  fifo : List PortEntry
  counters : PortCounters
  deriving DecidableEq, Repr

/-! ### Auctions -/

/-- R95. -/
inductive GroupState where
  | idle
  | scheduled
  | call
  | window
  | decide
  | closed
  deriving DecidableEq, Repr

/-- A decision (R106), and the default decision of a group (R95). -/
inductive Decision where
  | close
  | extend
  deriving DecidableEq, Repr

/-- One entry of the auction table (R95). W, r and default W are in µs, D and default E in s, the instants in ns. -/
structure Group where
  state : GroupState
  cycle : Nat
  start : Nat
  tEnd : Nat
  w : Nat
  r : Option Nat
  cutoff : Option Nat
  ext : Nat
  d : Nat
  dflt : Decision
  dfltE : Nat
  dfltW : Nat
  strict : Bool
  limit : Option Nat
  deriving DecidableEq, Repr

/-- The tag of a deadline (R96). -/
inductive Tag where
  | start
  | end_
  | cutoff
  | decideLimit
  deriving DecidableEq, Repr

/-- A deadline (R96). -/
structure Deadline where
  instant : Nat
  group : Fin 64
  tag : Tag
  deriving DecidableEq, Repr

/-- The notice kinds (R115). -/
inductive NoticeKind where
  | callOpen
  | windowOpen
  | cutoff
  | close
  | reopen
  | cancel
  | clear
  deriving DecidableEq, Repr

/-- The flags of a notice and of an AUCTION_DRAW record (R115, R125). -/
structure NoticeFlags where
  stepped : Bool
  timeout : Bool
  untraceable : Bool
  cancelled : Bool
  deriving DecidableEq, Repr

/-- The body of a notice (R115). -/
structure Notice where
  kind : NoticeKind
  group : Fin 64
  cycle : Nat
  flags : NoticeFlags
  tEnd : Nat
  w : Nat
  cutoff : Option Nat
  r : Option Nat
  ext : Nat
  limit : Option Nat
  deriving DecidableEq, Repr

/-- A notice waiting in the auction notice queue (R98). -/
structure QueuedNotice where
  hdr : Header
  capTick : Nat
  notice : Notice
  deriving DecidableEq, Repr

/-- The XT integer before and after a forward step whose cascade is not done (R99). The model's own. Log 21. -/
structure Span where
  before : Nat
  after : Nat
  deriving DecidableEq, Repr

/-- State of the AUC (chapter Closing Auctions); the comparator is the head of `deadlines`. `draws` counts the draws made and
is the model's own (log 5). -/
structure Auc where
  groups : Vector Group 64
  deadlines : List Deadline
  notices : List QueuedNotice
  spans : List Span
  draws : Nat
  deriving DecidableEq, Repr

/-! ### Evidence -/

/-- Reference reasons (R39, R40), as the REF_STATE record and the summary carry them. -/
inductive RefReason where
  | accepted
  | loss
  | early
  | unlabelled
  | badSum
  | noFix
  | stale
  | offGrid
  | backward
  deriving DecidableEq, Repr

/-- Sub-reasons (R39). -/
inductive SubReason where
  | none
  | mismatch
  | nack
  | stuck
  | timeout
  | antenna
  deriving DecidableEq, Repr

/-- The causes of a RESET record (R122). -/
structure ResetCauses where
  power : Bool
  pin : Bool
  linkHot : Bool
  linkSoft : Bool
  deriving DecidableEq, Repr

/-- The summary accumulator (R126). -/
structure Accum where
  accepted : Nat
  rejected : Nat
  lastReject : Option (RefReason × SubReason)
  thetaMin : Option Int
  thetaMax : Option Int
  uTop : Nat
  lowest : Cls
  arrivalsLost : Nat
  noticesLost : Nat
  suppressed : Nat
  freqLimit : Bool
  extended : Bool
  deriving DecidableEq, Repr

/-- The body of an evidence record, by kind (R122). -/
inductive EvBody where
  | reset (causes : ResetCauses) (osc : OscState)
  | summary (start : Nat) (acc : Accum) (uEnd : Nat) (fEnd : Int)
  | refState (state : RefState) (reason : RefReason) (sub : SubReason) (run : Option Nat)
  | timescaleState (old new : TsState) (step : Option Nat)
  | classChange (old new : Cls) (u : Nat)
  | oscState (new : OscState)
  | leapOffset (old new : Nat)
  | portState (port : Fin 8) (old new : PortState)
  /-- the request kind's code, the port and action for CONFIG_PORT, and the CRC-32 of the parameter block -/
  | config (kind : Nat) (portAction : Option (Fin 8 × Nat)) (crc : Nat)
  | auctionDraw (group : Fin 64) (flags : NoticeFlags) (cycle tEnd w r cutoff : Nat)
  | hostMark (tag : Nat) (text : List Byte)
  deriving DecidableEq, Repr

/-- A record waiting in the evidence queue (R119). `asked` says that the request processor waits for its release (R124);
the model's own (log 22). -/
structure QueuedEvidence where
  hdr : Header
  capTick : Nat
  body : EvBody
  asked : Bool
  deriving DecidableEq, Repr

/-- State of the EVU (chapter Evidence Journal). The evidence interval is the trace set's (R131). `boundaryTick` is the tick at
which the next boundary was last computed, none for the boundary of the reset; the model's own (log 36). -/
structure Evu where
  queue : List QueuedEvidence
  chain : Nat
  acc : Accum
  start : Nat
  boundary : Nat
  boundaryTick : Option Nat
  pendingReset : Option ResetCauses
  deriving DecidableEq, Repr

/-! ### Records, merge and staging -/

/-- R81. -/
inductive Verdict where
  | noAuction
  | inTime
  | late
  deriving DecidableEq, Repr

/-- Where a GAP record comes from (R92). -/
inductive Origin where
  | port (n : Fin 8)
  | staging
  deriving DecidableEq, Repr

/-- The body of a staged record (R90 to R92, R115, R122); evidence carries its chain value (R133). -/
inductive RecBody where
  | arrival (port : Fin 8) (verdict : Verdict) (cycle : Option Nat) (a : Arrival)
  | hostStamp (event tag : Nat)
  | gap (origin : Origin) (lost lastLost : Nat)
  | notice (n : Notice)
  | evidence (b : EvBody) (chain : Nat)
  deriving DecidableEq, Repr

/-- A staged record with its sequence number (R89). -/
structure Record where
  hdr : Header
  seq : Nat
  body : RecBody
  deriving DecidableEq, Repr

/-- R80. -/
inductive GateState where
  | none
  | opened
  | shut
  deriving DecidableEq, Repr

/-- An entry of the gate table (R80). -/
structure Gate where
  state : GateState
  cycle : Nat
  deriving DecidableEq, Repr

/-- The host stamp entry of the stamp slot (R76). -/
structure StampEntry where
  hdr : Header
  capTick : Nat
  event : Nat
  tag : Nat
  deriving DecidableEq, Repr

/-- State of the SEQ (chapter Sequencing and Staging). `released` says that a release has been made at this tick (R78 allows
one); the model's own (log 19). -/
structure Seq where
  counter : Nat
  settle : Nat
  comps : Vector (Option Nat) 8
  gates : Vector Gate 64
  stampSlot : Option StampEntry
  released : Bool
  deriving DecidableEq, Repr

/-- One value for each of the three streams. -/
structure PerStream (α : Type) where
  arrival : α
  auction : α
  evidence : α
  deriving DecidableEq, Repr

/-- The value of a stream. -/
def PerStream.get {α : Type} (t : PerStream α) : Stream → α
  | .arrival => t.arrival
  | .auction => t.auction
  | .evidence => t.evidence

/-- The triple with a stream's value replaced. -/
def PerStream.put {α : Type} (t : PerStream α) (st : Stream) (x : α) : PerStream α :=
  match st with
  | .arrival => { t with arrival := x }
  | .auction => { t with auction := x }
  | .evidence => { t with evidence := x }

/-- The same value for the three streams. -/
def PerStream.const {α : Type} (x : α) : PerStream α := ⟨x, x, x⟩

/-- State of the STG: the three staging buffers, whether the newest arrival record is an open staging GAP (R83), and the
reserved count of evidence staging (R87). -/
structure Stg where
  staged : PerStream (List Record)
  openGap : Bool
  reserved : Nat
  deriving DecidableEq, Repr

/-! ### Shared area, journal writer, requests -/

/-- A write to host memory: the bytes it covers, each with its address, in the order the link carries them. -/
abbrev LinkWrite := List Host.Cell

/-- Segment kinds (R142). -/
inductive SegKind where
  | request
  | journal (stream : Stream)
  deriving DecidableEq, Repr

/-- The part-held states (R142). -/
inductive HeldState where
  | lent
  | opened
  | closing
  | queued
  | running
  deriving DecidableEq, Repr

/-- The private copy of a segment entry (R142). -/
structure SegCopy where
  kind : SegKind
  base : Nat
  capacity : Nat
  count : Nat
  tag : Nat
  held : HeldState
  deriving DecidableEq, Repr

/-- The states the part writes to an entry (Formats, Codes). -/
inductive EntryState where
  | lent
  | opened
  | filled
  | queued
  | running
  | done
  | refused
  | faulted
  deriving DecidableEq, Repr

/-- Segment reasons (R142, R164). -/
inductive SegReason where
  | none
  | fetch
  | kind
  | capacity
  | align
  | count
  | full
  | cut
  | burst
  | trailer
  | slotRead
  | slotWrite
  deriving DecidableEq, Repr

/-- The open segment of a stream (R147). -/
structure OpenSeg where
  index : Fin 64
  fill : Nat
  first : Option Nat
  last : Option Nat
  deriving DecidableEq, Repr

/-- A segment in CLOSING with its trailer write in flight (R148). -/
structure ClosingSeg where
  index : Fin 64
  fill : Nat
  first : Option Nat
  last : Option Nat
  reason : SegReason
  write : LinkWrite
  deriving DecidableEq, Repr

/-- The fields of the status block (R140). -/
structure StatusBlock where
  ts : TsState
  osc : OscState
  cls : Cls
  ref : RefState
  leap : Nat
  u : Nat
  counter : Nat
  f : Int
  p : Int
  theta : Int
  seq : Nat
  deriving DecidableEq, Repr

/-- The status block image (R140): the block as last written (none before the first write, log 17), the update counter, the
write due flag, and the write in flight. -/
structure Status where
  image : Option StatusBlock
  counter : Nat
  due : Bool
  inFlight : Option LinkWrite
  deriving DecidableEq, Repr

/-- The causes of a link reset in progress (R157, R159). -/
structure LinkCauses where
  hot : Bool
  soft : Bool
  deriving DecidableEq, Repr

/-- State of the ARC (chapter Shared Area and Journal Segments). The CAUSE bits and the mask are numbered as Formats numbers
the causes. `messages` and `messaged` count the interrupt messages sent and say whether one went out at this tick (R156);
they are the model's own (log 18). `handRead` is the address of the entry read in flight, 32 bytes from it (R138, R143). -/
structure Arc where
  area : Nat
  enable : Bool
  mask : BitVec 11
  cause : BitVec 11
  lastRefused : Nat
  copies : Vector (Option SegCopy) 64
  lent : PerStream (List (Fin 64))
  openSeg : PerStream (Option OpenSeg)
  closing : PerStream (List ClosingSeg)
  requests : List (Fin 64)
  starved : PerStream Bool
  hand : Option (Fin 64)
  handRead : Option Nat
  handHeld : List Nat
  status : Status
  entryWrites : List LinkWrite
  linkReset : Option LinkCauses
  messages : Nat
  messaged : Bool
  deriving DecidableEq, Repr

/-- The state of the burst buffer (R147, R152). -/
inductive BurstPhase where
  | empty
  | inFlight (stream : Stream)
  | waiting (stream : Stream)
  deriving DecidableEq, Repr

/-- State of the JWR: the burst buffer and the writes of the burst in flight. -/
structure Jwr where
  phase : BurstPhase
  records : List Record
  writes : List LinkWrite
  deriving DecidableEq, Repr

/-- Outcome codes (R165). -/
inductive ReqOutcome where
  | ok
  | clamped
  | badKind
  | badParam
  | wrongState
  | busyGroup
  | past
  | notSet
  | backward
  | extLimit
  | tooLate
  | portActive
  | streamIdle
  | suppressed
  deriving DecidableEq, Repr

/-- What a slot in ANSWERING waits for (R162): the release of a host stamp entry or of a HOST_MARK record, the burst a CUT waits
for (R149), or the trailer of the segment a CUT closed. -/
inductive Wait where
  | stamp
  | mark
  | cutBurst (stream : Stream)
  | cutTrailer (stream : Stream) (index : Fin 64)
  deriving DecidableEq, Repr

/-- The slot phase (R162). WRITING holds the outcome and the slot writes still in flight, the result area ahead of the outcome
byte. -/
inductive SlotPhase where
  | idle
  | reading
  | offered
  | answering (wait : Wait)
  | writing (outcome : ReqOutcome) (writes : List LinkWrite)
  deriving DecidableEq, Repr

/-- A result that shows its owner's state after the tick its request was taken, where a later act of that tick can still change the
state: of a CONFIG_PORT ENABLE (R171) or of an AMEND that does not itself enter CALL (R170). -/
inductive TickResult where
  | port (n : Fin 8)
  | group (g : Fin 64)
  deriving DecidableEq, Repr

/-- State of the RQP (chapter Requests). `bytes` is the slot as read. `lateWrites` are the slot writes still in flight of a segment that
an error has ended (R157, R164; log 41). `tickResult` is the result taken at this tick that its end still forms (R170, R171; log 45). -/
structure Rqp where
  cur : Option (Fin 64)
  slot : Nat
  phase : SlotPhase
  bytes : List Byte
  done : Nat
  withdrawn : Bool
  lateWrites : List LinkWrite
  tickResult : Option TickResult
  deriving DecidableEq, Repr

/-! ### The whole part -/

/-- The state of the WT8, one field per block, and the queue of commands that wait (the model's own). -/
structure State where
  osc : Osc
  tsu : Tsu
  ref : Ref
  div : Div
  taps : Vector Port 8
  seq : Seq
  stg : Stg
  auc : Auc
  evu : Evu
  jwr : Jwr
  arc : Arc
  rqp : Rqp
  pending : List Instr
  deriving DecidableEq, Repr

/-! ### The reset tables -/

/-- R22. -/
def Tsu.cleared : Tsu :=
  { xt := 0, frac := 0, inc := baseInc, f := 0, p := 0, slew := .ticks 0, state := .unset, leap := 0, good := 0, theta := 0,
    set := DiscSet.default, pendingSet := none, xtRead := false }

/-- R43, with the straps as latched at the reset. -/
def Ref.cleared (straps : Straps) : Ref :=
  { kind := straps.kind, strapSpeed := straps.speed, pending := none, phase := .idle, bus := .unsettled, last := none,
    state := .bad, rejectRun := 0, lossTimer := none, set := RefSet.default straps.speed, pendingSet := none }

/-- R55. -/
def Div.cleared : Div :=
  { u := uMax, terms := none, u0 := 0, base := none, secs := 0, raw := .none, capped := .none, cls := .none, upCount := 0,
    upTarget := none, trace := TraceSet.default }

/-- R74. The link indication is the physical layer's. -/
def Port.cleared (present : Bool) : Port :=
  { state := .disabled, present := present, armEnd := none, frame := none, config := PortConfig.default, fifo := [],
    counters := ⟨0, 0, 0, 0, 0⟩ }

/-- R94. -/
def Seq.cleared : Seq :=
  { counter := 0, settle := 1250, comps := Vector.replicate 8 none, gates := Vector.replicate 64 ⟨.none, 0⟩, stampSlot := none,
    released := false }

/-- R94. -/
def Stg.cleared : Stg := { staged := PerStream.const [], openGap := false, reserved := 0 }

/-- R117. -/
def Group.cleared : Group :=
  { state := .idle, cycle := 0, start := 0, tEnd := 0, w := 0, r := none, cutoff := none, ext := 0, d := 0, dflt := .close,
    dfltE := 0, dfltW := 0, strict := false, limit := none }

/-- R117. The draw counter is the model's and goes on through a reset, so no draw is drawn twice. -/
def Auc.cleared (draws : Nat) : Auc :=
  { groups := Vector.replicate 64 Group.cleared, deadlines := [], notices := [], spans := [], draws := draws }

/-- The accumulator at the start of an interval, with the U and the class in force of that moment (R126). -/
def Accum.fresh (u : Nat) (cls : Cls) : Accum :=
  { accepted := 0, rejected := 0, lastReject := none, thetaMin := none, thetaMax := none, uTop := u, lowest := cls,
    arrivalsLost := 0, noticesLost := 0, suppressed := 0, freqLimit := false, extended := false }

/-- R136. -/
def Evu.cleared : Evu :=
  { queue := [], chain := 0, acc := Accum.fresh uMax .none, start := 0, boundary := 10000000000, boundaryTick := none,
    pendingReset := none }

/-- R160. -/
def Jwr.cleared : Jwr := { phase := .empty, records := [], writes := [] }

/-- R160. The count of interrupt messages is an output and is kept. -/
def Arc.cleared (messages : Nat) : Arc :=
  { area := 0, enable := false, mask := 0, cause := 0, lastRefused := 0, copies := Vector.replicate 64 none,
    lent := PerStream.const [], openSeg := PerStream.const none, closing := PerStream.const [], requests := [],
    starved := PerStream.const false, hand := none, handRead := none, handHeld := [],
    status := ⟨none, 0, false, none⟩, entryWrites := [], linkReset := none, messages := messages, messaged := false }

/-- R179. -/
def Rqp.cleared : Rqp :=
  { cur := none, slot := 0, phase := .idle, bytes := [], done := 0, withdrawn := false, lateWrites := [], tickResult := none }

/-- The RESET record of R134: stamp 0, L 0, class NONE, UNSET, made at tick 0. -/
def resetRecord (causes : ResetCauses) (osc : OscState) : QueuedEvidence :=
  { hdr := ⟨0, 0, .none, .unset⟩, capTick := 0, body := .reset causes osc, asked := false }

/-- The WT8 right after a power-on reset, at the tick it leaves reset: the reset tables of R22, R43, R55, R74, R94, R117, R136,
R160 and R179, and the RESET record of R134 with the reservation it holds. The oscillator locked within the lock wait, the
straps are PULSE_AND_MODULE and 100 kHz, and no tap link carries a signal: the world's choices, named in log 3. -/
def State.reset : State :=
  { osc := ⟨.running, .locked, 0⟩
    tsu := Tsu.cleared
    ref := Ref.cleared ⟨.pulseAndModule, .kHz100⟩
    div := Div.cleared
    taps := Vector.replicate 8 (Port.cleared false)
    seq := Seq.cleared
    stg := { Stg.cleared with reserved := 1 }
    auc := Auc.cleared 0
    evu := { Evu.cleared with queue := [resetRecord ⟨true, false, false, false⟩ .locked] }
    jwr := Jwr.cleared
    arc := Arc.cleared 0
    rqp := Rqp.cleared
    pending := [] }

end Sys2Proof.Machine
end

