-- ==== Sys2Proof/Machine/Operands.lean ====
section
/-! DEFINITION. Arithmetic of the conventions, byte order, the CRC-32, and every operand form: the fields of a request slot, a
segment entry, the module window and a frame. -/

namespace Sys2Proof.Machine

/-! ### Arithmetic (00_scope.md, Conventions) -/

/-- A natural number brought into lo..hi by the nearer end. -/
def clampNat (lo hi x : Nat) : Nat := if x < lo then lo else if hi < x then hi else x

/-- An integer brought into lo..hi by the nearer end. -/
def clampInt (lo hi x : Int) : Int := if x < lo then lo else if hi < x then hi else x

/-- n / d rounded to the nearest integer, halves away from zero. -/
def roundDiv (n : Int) (d : Nat) : Int :=
  if 0 ≤ n then ((2 * n + d) / (2 * d) : Int) else -((2 * (-n) + d) / (2 * d) : Int)

/-- x + n, stopping at top. -/
def satAdd (top x n : Nat) : Nat := min top (x + n)

/-- The top of the unsigned 64-bit counters that saturate (R71). -/
def top64 : Nat := 2 ^ 64 - 1

/-- A 64-bit unsigned quantity whose exact value is n. DESIGN CHOICE where n does not fit: a free value, log 6 (unsafe only
where a claim would need the hardware's value). -/
def fit64 (n : Nat) : Nat := if n < 2 ^ 64 then n else (Config.beyond64 n).toNat

/-- An exact integer as a signed 64-bit value, two's complement (00_scope.md, Arithmetic). DEDUCED for a θ that does not fit,
log 7 (unsafe there). -/
def wrapSigned64 (i : Int) : Int := Int.bmod i (2 ^ 64)

/-- ns in tick measure, rounded up to whole ticks of 8 ns. -/
def ticksOfNs (ns : Nat) : Nat := (7 + ns) / 8

/-! ### Byte order -/

/-- The value of bytes, least significant first. -/
def leNat : List Byte → Nat
  | [] => 0
  | b :: bs => b.toNat + 256 * leNat bs

/-- The value of bytes in network order, most significant first (R64). -/
def beNat (bs : List Byte) : Nat := leNat bs.reverse

/-- The n bytes from an offset. -/
def sliceAt (bs : List Byte) (off n : Nat) : List Byte := (bs.drop off).take n

/-- A little-endian field: its value at an offset and size. A byte beyond the list reads 0 (log 26). -/
def fieldAt (bs : List Byte) (off n : Nat) : Nat := leNat (sliceAt bs off n)

/-- One byte of a structure. -/
def byteAt (bs : List Byte) (off : Nat) : Nat := (bs.getD off 0).toNat

/-- A two's complement field of n bytes read as a number. -/
def signedOf (n v : Nat) : Int := if v < 2 ^ (8 * n - 1) then v else (v : Int) - 2 ^ (8 * n)

/-- A signed number as the unsigned content of n bytes, two's complement. -/
def unsignedOf (n : Nat) (i : Int) : Nat := (i % 2 ^ (8 * n)).toNat

/-- One field of a layout: first byte, size and value. -/
structure Field where
  off : Nat
  size : Nat
  val : Nat
  deriving DecidableEq, Repr

/-- The byte of a layout at an offset: a field's byte, little-endian, or 0 where no field lies (R180). -/
def layoutByte (fs : List Field) (i : Nat) : Byte :=
  match fs.find? (fun f => f.off ≤ i && i < f.off + f.size) with
  | some f => BitVec.ofNat 8 (f.val / 256 ^ (i - f.off))
  | none => 0

/-- The n bytes of a layout. -/
def layout (n : Nat) (fs : List Field) : List Byte := (List.range n).map (layoutByte fs)

/-- The cells of bytes written from an address. -/
def cellsFrom (addr : Nat) : List Byte → LinkWrite
  | [] => []
  | b :: bs => (addr, b) :: cellsFrom (addr + 1) bs

/-! ### CRC-32 (R132) -/

/-- One shift of the register toward its least significant end. -/
def crcShift (r : Nat) : Nat := if r % 2 = 1 then (r / 2) ^^^ 0xEDB88320 else r / 2

/-- One byte taken into the register. -/
def crcByte (r : Nat) (b : Byte) : Nat := Nat.repeat crcShift 8 (r ^^^ b.toNat)

/-- The CRC-32 of a string of bytes. -/
def crc32 (bs : List Byte) : Nat := bs.foldl crcByte 0xFFFFFFFF ^^^ 0xFFFFFFFF

/-! ### The module window (R34, R184, section 10.6) -/

/-- The fields of a module window. -/
structure Window where
  sum : Nat
  valid : Bool
  antenna : Bool
  label : Nat
  leap : Nat
  uMod : Nat
  deriving DecidableEq, Repr

/-- The window of sixteen bytes in the order received. -/
def readWindow (w : List Byte) : Window :=
  let bs := w.take 16
  { sum := (bs.foldl (fun acc b => acc + b.toNat) 0) % 256
    valid := (byteAt bs 0).testBit 0
    antenna := (byteAt bs 0).testBit 1
    label := fieldAt bs 1 5
    leap := byteAt bs 6
    uMod := fieldAt bs 7 4 }

/-! ### The two-wire transaction (R27, R28) -/

/-- Ticks of one bit period: the nominal period lengthened by the reduction, rounded up to ticks (R27). -/
def bitPeriod (set : RefSet) : Nat :=
  let nominalNs := match set.speed with
    | .kHz100 => 10000
    | .kHz400 => 2500
  (nominalNs * (100 + set.reduction) + 799) / 800

/-- Ticks of the low phase: half the period, rounded up (R27). -/
def lowPhase (set : RefSet) : Nat := (bitPeriod set + 1) / 2

/-- Ticks of the high phase: the rest of the period (R27). -/
def highPhase (set : RefSet) : Nat := bitPeriod set - lowPhase set

/-- The tick of a bit, from its first, at which the clock line is seen high and the high phase begins: the part releases the line at
the end of the low phase, and the module holds it low for `held` ticks (R27, R31). -/
def clockHigh (set : RefSet) (held : Nat) : Nat := lowPhase set + held

/-- Ticks of one bit whose clock the module holds low for `held` ticks (R27). -/
def bitTicks (set : RefSet) (held : Nat) : Nat := clockHigh set held + highPhase set

/-- Who acts in a bit period of the transaction (R28) or of a recovery (R31). -/
inductive BusBit where
  /-- START: the data line from high to low while the clock is high -/
  | start
  /-- RESTART: the same transition within the transaction -/
  | restart
  /-- STOP: the data line from low to high while the clock is high -/
  | stop
  /-- a bit the part drives, with its value -/
  | driven (bit : Bool)
  /-- an acknowledge the module owes -/
  | ackOwed
  /-- a data bit the module drives -/
  | moduleData
  /-- a clock pulse of a recovery: the data line released, and nothing sampled (R31) -/
  | pulse
  deriving DecidableEq, Repr

/-- What the part makes of the data line in a bit, at the start and at the end of the high phase: true is the line released, which
leaves it high unless the module pulls it low (R27 to R29, R31). -/
def BusBit.dataLine : BusBit → Bool × Bool
  | .start | .restart => (true, false)
  | .stop => (false, true)
  | .driven bit => (bit, bit)
  | .ackOwed | .moduleData | .pulse => (true, true)

/-- The tick of a bit, from its first, at which the data line is sampled: at the start of the high phase for a data or an acknowledge
bit (R27), at its end for the transitions of START, RESTART and STOP (R29), and at no tick of a recovery's clock pulse (R31). -/
def BusBit.sampledAt (set : RefSet) (held : Nat) : BusBit → Option Nat
  | .start | .restart | .stop => some (bitTicks set held)
  | .driven _ | .ackOwed | .moduleData => some (clockHigh set held)
  | .pulse => none

/-- A byte driven most significant bit first. -/
def drivenByte (v : Nat) : List BusBit := (List.range 8).map fun i => .driven (v.testBit (7 - i))

/-- The sixteen data bytes with what follows each: an acknowledge from the part, and a no-acknowledge after the last. -/
def dataBits : Nat → List BusBit
  | 0 => []
  | n + 1 => List.replicate 8 .moduleData ++ [.driven (n == 0)] ++ dataBits n

/-- The 174 bit periods of a read (R28). -/
def transaction (set : RefSet) : List BusBit :=
  [.start] ++ drivenByte (2 * set.address) ++ [.ackOwed] ++ drivenByte set.register ++ [.ackOwed] ++ [.restart]
    ++ drivenByte (2 * set.address + 1) ++ [.ackOwed] ++ dataBits 16 ++ [.stop]

/-- The recovery sequence: nine clock pulses with the data line released and nothing sampled, and then a STOP (R31). -/
def recovery : List BusBit := List.replicate 9 .pulse ++ [.stop]

/-- Ticks of a stretch of the bus: each bit takes one bit period of the set in force, and `held` is the time the module holds the
clock low in all (R27, R31). -/
def busTicks (set : RefSet) (bits : List BusBit) (held : Nat) : Nat := bits.length * bitPeriod set + held

/-- Whether a read can abort with MISMATCH at a bit period: one the part drives, before the read is complete (R29). The STOP
that ends the transaction follows the decision. -/
def canMismatch (set : RefSet) (i : Nat) : Bool :=
  match (transaction set)[i]? with
  | some .start | some .restart | some (.driven _) => true
  | some .stop | some .ackOwed | some .moduleData | some .pulse | none => false

/-- Whether a read can abort with NACK at a bit period: one of the three acknowledges the module owes (R30). -/
def canNack (set : RefSet) (i : Nat) : Bool := (transaction set)[i]? == some .ackOwed

/-! ### Frames (R63 to R66) -/

/-- Whether the frame check sequence disagrees: the CRC-32 over bytes 0 to length - 5 against the last four (R63). -/
def fcsBad (frame : List Byte) : Bool :=
  crc32 (frame.take (frame.length - 4)) != leNat (frame.drop (frame.length - 4))

/-- A key of a frame: absent when its offset is, or when it would reach past length - 4 (R64). -/
def keyAt (frame : List Byte) (size : Nat) : Option Nat → Option Nat
  | none => none
  | some off => if off + size > frame.length - 4 then none else some (beNat (sliceAt frame off size))

/-- The kind class of a frame's kind byte (R66). -/
def classify (kindMap : List (Option KindEntry)) (kindByte : Option Nat) : KindClass :=
  match kindByte with
  | none => .other
  | some v => match kindMap.filterMap id |>.find? (fun e => e.value.toNat == v) with
    | some e => e.kind
    | none => .other

/-- The arrival a frame of legal length makes under a configuration (R63 to R66). -/
def arrivalOf (c : PortConfig) (frame : List Byte) : Arrival :=
  let kindByte := keyAt frame 1 c.kindAt
  let groupRead := keyAt frame 1 c.groupAt
  let own : Option (Fin 64) := groupRead.bind fun g => if h : g < 64 then some ⟨g, h⟩ else none
  { length := frame.length
    fcsBad := fcsBad frame
    groupRange := groupRead.isSome && own.isNone
    defaulted := own.isNone && c.defaultGroup.isSome
    kindPresent := kindByte.isSome
    kind := classify c.kindMap kindByte
    session := keyAt frame 2 c.sessionAt
    message := keyAt frame 4 c.messageAt
    group := own.orElse fun _ => c.defaultGroup }

/-! ### Segment entries (section 10.3, R181) -/

/-- The host-written fields of a segment entry. -/
structure EntryFields where
  base : Nat
  kindCode : Nat
  tag : Nat
  capacityLess1 : Nat
  count : Nat
  deriving DecidableEq, Repr

/-- An entry as fetched. -/
def readEntry (e : List Byte) : EntryFields :=
  { base := fieldAt e 0 7, kindCode := byteAt e 7, tag := fieldAt e 8 8, capacityLess1 := fieldAt e 16 2, count := fieldAt e 18 2 }

/-- The kind a code names (Formats, Codes). -/
def segKindOf : Nat → Option SegKind
  | 1 => some .request
  | 2 => some (.journal .arrival)
  | 3 => some (.journal .auction)
  | 4 => some (.journal .evidence)
  | _ => none

/-! ### Request slots (section 10.4, R183) -/

/-- The request kinds and their codes (Formats, Codes). -/
def knownKinds : List Nat :=
  [0x01, 0x02, 0x03, 0x10, 0x11, 0x12, 0x13, 0x14, 0x15, 0x20, 0x21, 0x30, 0x40, 0x41, 0x42]

/-- A flag byte: 0 no, 1 yes, anything else outside the encodable set (R180). -/
def flagOf : Nat → Option Bool
  | 0 => some false
  | 1 => some true
  | _ => none

/-- A decision code (Formats, Codes). -/
def decisionOf : Nat → Option Decision
  | 0 => some .close
  | 1 => some .extend
  | _ => none

/-- A stream code (Formats, Codes; a CUT's stream is one of the three journal kinds, R174). -/
def streamOf : Nat → Option Stream
  | 2 => some .arrival
  | 3 => some .auction
  | 4 => some .evidence
  | _ => none

/-- The parameters of SCHEDULE. -/
structure ScheduleParams where
  group : Nat
  dflt : Nat
  strict : Nat
  w : Nat
  dfltW : Nat
  d : Nat
  dfltE : Nat
  start : Nat
  tEnd : Nat
  deriving DecidableEq, Repr

def readSchedule (b : List Byte) : ScheduleParams :=
  { group := byteAt b 16, dflt := byteAt b 17, strict := byteAt b 18, w := fieldAt b 20 4, dfltW := fieldAt b 24 4,
    d := fieldAt b 28 2, dfltE := fieldAt b 30 2, start := fieldAt b 32 8, tEnd := fieldAt b 40 8 }

/-- The parameters of AMEND. -/
structure AmendParams where
  group : Nat
  startFlag : Nat
  tEnd : Nat
  start : Nat
  deriving DecidableEq, Repr

def readAmend (b : List Byte) : AmendParams :=
  { group := byteAt b 16, startFlag := byteAt b 17, tEnd := fieldAt b 24 8, start := fieldAt b 32 8 }

/-- The parameters of DECIDE. -/
structure DecideParams where
  group : Nat
  decision : Nat
  e : Nat
  w : Nat
  deriving DecidableEq, Repr

def readDecide (b : List Byte) : DecideParams :=
  { group := byteAt b 16, decision := byteAt b 17, e := fieldAt b 18 2, w := fieldAt b 20 4 }

/-- A discipline set as its nine raw fields (section 10.4). -/
def readDiscipline (b : List Byte) : DiscSet :=
  { kpAcq := byteAt b 16, kiAcq := byteAt b 17, kpTrk := byteAt b 18, kiTrk := byteAt b 19, lock := fieldAt b 20 4,
    step := fieldAt b 24 4, loss := byteAt b 28, slewMax := fieldAt b 32 4, initialF := signedOf 4 (fieldAt b 36 4) }

/-- A trace set as its seven raw fields (section 10.4). -/
def readTrace (b : List Byte) : TraceSet :=
  { limitA := fieldAt b 16 4, limitB := fieldAt b 20 4, guardG := fieldAt b 24 4, rateH := fieldAt b 28 4,
    rateBackup := fieldAt b 32 4, upgradeHold := byteAt b 36, interval := byteAt b 37 }

/-- A reference set, none when a field is out of the range of R42. -/
def readReference (b : List Byte) : Option RefSet :=
  let speed : Option Speed := match byteAt b 18 with
    | 0 => some .kHz100
    | 1 => some .kHz400
    | _ => none
  match speed with
  | none => none
  | some sp =>
    let set : RefSet :=
      { address := byteAt b 16, register := byteAt b 17, speed := sp, reduction := byteAt b 19, dRef := fieldAt b 20 4,
        tolerance := fieldAt b 24 4 }
    if 0x08 ≤ set.address ∧ set.address ≤ 0x77 ∧ set.reduction ∈ [0, 10, 20, 30] ∧ set.dRef ≤ 1000000
        ∧ 1000 ≤ set.tolerance ∧ set.tolerance ≤ 5000000 then some set else none

/-- The outcome of R10's check of a discipline set: none when refused, else the set after clamps and whether one applied. -/
def checkDiscipline (s : DiscSet) : Option (DiscSet × Bool) :=
  if 10 ≤ s.lock ∧ s.lock ≤ 1000000 ∧ 1000 ≤ s.step ∧ s.step ≤ 100000000 ∧ 1 ≤ s.loss ∧ s.loss ≤ 60
      ∧ 1000000 ≤ s.slewMax ∧ s.slewMax ≤ 100000000 ∧ -fMax ≤ s.initialF ∧ s.initialF ≤ fMax ∧ s.lock < s.step then
    let c : DiscSet := { s with kpAcq := min 15 s.kpAcq, kiAcq := min 15 s.kiAcq, kpTrk := min 15 s.kpTrk, kiTrk := min 15 s.kiTrk }
    some (c, c != s)
  else none

/-- The outcome of R54's check of a trace set: none when refused, else the set after the clamp and whether it applied. -/
def checkTrace (s : TraceSet) : Option (TraceSet × Bool) :=
  if s.limitA ≤ 4294967294 ∧ s.limitB ≤ 4294967294 ∧ s.guardG ≤ 1000000 ∧ s.rateH ≤ 1000000 ∧ s.rateBackup ≤ 10000000
      ∧ 1 ≤ s.upgradeHold ∧ s.upgradeHold ≤ 60 ∧ s.limitA ≤ s.limitB then
    let c : TraceSet := { s with interval := clampNat 1 60 s.interval }
    some (c, c != s)
  else none

/-- A key offset of CONFIG_PORT: none when out of range, else absent (0xFFFF) or an offset (R183). -/
def readKeyOffset (v : Nat) : Option (Option Nat) :=
  if v = 0xFFFF then some none else if v ≤ 255 then some (some v) else none

/-- A kind-map entry of CONFIG_PORT from its byte value and class code: class 0 is absent (R183), an unlisted class is out of
range. -/
def readKindEntry (value cls : Nat) : Option (Option KindEntry) :=
  match cls with
  | 0 => some none
  | 1 => some (some ⟨BitVec.ofNat 8 value, .new⟩)
  | 2 => some (some ⟨BitVec.ofNat 8 value, .amend⟩)
  | 3 => some (some ⟨BitVec.ofNat 8 value, .cancel⟩)
  | _ => none

/-- A filter code: 0 RECORD, 1 COUNT. -/
def readFilter : Nat → Option Bool
  | 0 => some true
  | 1 => some false
  | _ => none

/-- A default group: 0xFF for none, 0..63, or out of range (R183). -/
def readDefaultGroup (v : Nat) : Option (Option (Fin 64)) :=
  if v = 0xFF then some none else if h : v < 64 then some (some ⟨v, h⟩) else none

/-- A port configuration from the bytes 18..40 of a CONFIG_PORT slot, and whether its compensation was clamped; none when an
item is refused (R61, R183). -/
def readPortConfig (b : List Byte) : Option (PortConfig × Bool) := do
  let sessionAt ← readKeyOffset (fieldAt b 20 2)
  let messageAt ← readKeyOffset (fieldAt b 22 2)
  let groupAt ← readKeyOffset (fieldAt b 24 2)
  let kindAt ← readKeyOffset (fieldAt b 26 2)
  let k0 ← readKindEntry (byteAt b 28) (byteAt b 29)
  let k1 ← readKindEntry (byteAt b 30) (byteAt b 31)
  let k2 ← readKindEntry (byteAt b 32) (byteAt b 33)
  let k3 ← readKindEntry (byteAt b 34) (byteAt b 35)
  let fNew ← readFilter (byteAt b 36)
  let fAmend ← readFilter (byteAt b 37)
  let fCancel ← readFilter (byteAt b 38)
  let fOther ← readFilter (byteAt b 39)
  let defaultGroup ← readDefaultGroup (byteAt b 40)
  let kindMap := [k0, k1, k2, k3]
  let comp := fieldAt b 18 2
  if ((kindMap.filterMap id).map KindEntry.value).Nodup then
    some ({ compensation := min compensationMax comp, sessionAt := sessionAt, messageAt := messageAt, groupAt := groupAt,
            kindAt := kindAt, kindMap := kindMap, filter := ⟨fNew, fAmend, fCancel, fOther⟩, defaultGroup := defaultGroup },
          decide (compensationMax < comp))
  else none

end Sys2Proof.Machine
end

