-- ==== Sys2Proof/Machine/Formats.lean ====
section
/-! DEFINITION. The codes and byte layouts of chapter Formats: records, status block, segment entries, parameter blocks. -/

namespace Sys2Proof.Machine

/-! ### Codes (R180) -/

def TsState.code : TsState → Nat
  | .unset => 0 | .acquiring => 1 | .tracking => 2 | .slewing => 3 | .holdover => 4

def OscState.code : OscState → Nat
  | .locked => 0 | .backup => 1

def Cls.code : Cls → Nat
  | .none => 0 | .b => 1 | .a => 2

def RefState.code : RefState → Nat
  | .bad => 0 | .good => 1

def PortState.code : PortState → Nat
  | .disabled => 0 | .down => 1 | .up => 2

def GroupState.code : GroupState → Nat
  | .idle => 0 | .scheduled => 1 | .call => 2 | .window => 3 | .decide => 4 | .closed => 5

def Verdict.code : Verdict → Nat
  | .noAuction => 0 | .inTime => 1 | .late => 2

def KindClass.code : KindClass → Nat
  | .other => 0 | .new => 1 | .amend => 2 | .cancel => 3

def Decision.code : Decision → Nat
  | .close => 0 | .extend => 1

def streamCode : Stream → Nat
  | .arrival => 2 | .auction => 3 | .evidence => 4

def EntryState.code : EntryState → Nat
  | .lent => 1 | .opened => 2 | .filled => 4 | .queued => 5 | .running => 6 | .done => 7 | .refused => 8 | .faulted => 9

def SegReason.code : SegReason → Nat
  | .none => 0 | .fetch => 1 | .kind => 2 | .capacity => 3 | .align => 4 | .count => 5 | .full => 6 | .cut => 7 | .burst => 8
  | .trailer => 9 | .slotRead => 10 | .slotWrite => 11

def RefReason.code : RefReason → Nat
  | .accepted => 1 | .loss => 2 | .early => 3 | .unlabelled => 4 | .badSum => 5 | .noFix => 6 | .stale => 7 | .offGrid => 8
  | .backward => 9

def SubReason.code : SubReason → Nat
  | .none => 0 | .mismatch => 1 | .nack => 2 | .stuck => 3 | .timeout => 4 | .antenna => 5

def ReqOutcome.code : ReqOutcome → Nat
  | .ok => 1 | .clamped => 2 | .badKind => 3 | .badParam => 4 | .wrongState => 5 | .busyGroup => 6 | .past => 7 | .notSet => 8
  | .backward => 9 | .extLimit => 10 | .tooLate => 11 | .portActive => 12 | .streamIdle => 13 | .suppressed => 14

def NoticeKind.code : NoticeKind → Nat
  | .callOpen => 0x11 | .windowOpen => 0x12 | .cutoff => 0x13 | .close => 0x14 | .reopen => 0x15 | .cancel => 0x16 | .clear => 0x17

def EvBody.code : EvBody → Nat
  | .reset _ _ => 0x21 | .summary _ _ _ _ => 0x22 | .refState _ _ _ _ => 0x23 | .timescaleState _ _ _ => 0x24
  | .classChange _ _ _ => 0x25 | .oscState _ => 0x26 | .leapOffset _ _ => 0x27 | .portState _ _ _ => 0x28
  | .config _ _ _ => 0x29 | .auctionDraw _ _ _ _ _ _ _ => 0x2A | .hostMark _ _ => 0x2B

def RecBody.code : RecBody → Nat
  | .arrival _ _ _ _ => 0x01 | .hostStamp _ _ => 0x02 | .gap _ _ _ => 0x03 | .notice n => n.kind.code | .evidence b _ => b.code

/-- A flag as a bit. -/
def bit (n : Nat) (b : Bool) : Nat := if b then 2 ^ n else 0

/-- The stream a record belongs to (R79). -/
def RecBody.stream : RecBody → Stream
  | .arrival _ _ _ _ | .hostStamp _ _ | .gap _ _ _ => .arrival
  | .notice _ => .auction
  | .evidence _ _ => .evidence

/-! ### Records (section 10.5) -/

/-- Bits 7..5 of header byte 1, as a number placed there. -/
def EvBody.headerBits : EvBody → Nat
  | .summary _ a _ _ => 32 * a.lowest.code + bit 7 a.freqLimit
  | _ => 0

/-- Header byte 3. -/
def EvBody.headerByte3 : EvBody → Nat
  | .summary _ a _ _ =>
    (match a.lastReject with
      | some (r, sub) => r.code + 16 * sub.code
      | none => 0) + bit 7 a.extended
  | _ => 0

/-- The flag byte of a notice body or, with no presence bits, of an AUCTION_DRAW record. -/
def NoticeFlags.byte (f : NoticeFlags) : Nat :=
  bit 0 f.stepped + bit 1 f.timeout + bit 2 f.untraceable + bit 3 f.cancelled

/-- The body fields of an evidence record. An absent optional field is written as zero bytes (R180). -/
def EvBody.fields : EvBody → List Field
  | .reset c o => [⟨20, 1, bit 0 c.power + bit 1 c.pin + bit 2 c.linkHot + bit 3 c.linkSoft⟩, ⟨21, 1, o.code⟩]
  | .summary start a uEnd fEnd =>
    [⟨20, 8, start⟩, ⟨28, 2, a.accepted⟩, ⟨30, 2, a.rejected⟩, ⟨32, 4, unsignedOf 4 (a.thetaMin.getD 0)⟩,
     ⟨36, 4, unsignedOf 4 (a.thetaMax.getD 0)⟩, ⟨40, 4, unsignedOf 4 fEnd⟩, ⟨44, 4, uEnd⟩, ⟨48, 4, a.uTop⟩,
     ⟨52, 4, a.arrivalsLost⟩, ⟨56, 2, a.noticesLost⟩, ⟨58, 2, a.suppressed⟩]
  | .refState st reason sub run =>
    [⟨20, 1, st.code⟩, ⟨21, 1, reason.code⟩, ⟨22, 1, sub.code⟩, ⟨23, 1, bit 0 run.isSome⟩, ⟨24, 2, run.getD 0⟩]
  | .timescaleState old new step => [⟨20, 1, old.code⟩, ⟨21, 1, new.code⟩, ⟨22, 1, bit 0 step.isSome⟩, ⟨24, 8, step.getD 0⟩]
  | .classChange old new u => [⟨20, 1, old.code⟩, ⟨21, 1, new.code⟩, ⟨24, 4, u⟩]
  | .oscState new => [⟨20, 1, new.code⟩]
  | .leapOffset old new => [⟨20, 1, old⟩, ⟨21, 1, new⟩]
  | .portState p old new => [⟨20, 1, p.val⟩, ⟨21, 1, old.code⟩, ⟨22, 1, new.code⟩]
  | .config kind pa crc =>
    [⟨20, 1, kind⟩,
     ⟨21, 1, match pa with | some (p, _) => p.val | none => 0xFF⟩,
     ⟨22, 1, match pa with | some (_, act) => act | none => 0xFF⟩,
     ⟨24, 4, crc⟩]
  | .auctionDraw g flags cycle tEnd w r cutoff =>
    [⟨20, 1, g.val⟩, ⟨21, 1, { flags with timeout := false }.byte⟩, ⟨22, 2, cycle⟩, ⟨24, 4, w⟩, ⟨28, 4, r⟩, ⟨32, 8, tEnd⟩,
     ⟨40, 8, cutoff⟩]
  | .hostMark tag text => [⟨20, 8, tag⟩, ⟨28, 32, leNat text⟩]

/-- The body fields of a notice. -/
def Notice.fields (n : Notice) : List Field :=
  [⟨20, 1, n.group.val⟩, ⟨21, 1, n.flags.byte + bit 4 n.r.isSome + bit 5 n.limit.isSome⟩, ⟨22, 2, n.cycle⟩, ⟨24, 1, n.ext⟩,
   ⟨28, 4, n.w⟩, ⟨32, 4, n.r.getD 0⟩, ⟨36, 8, n.tEnd⟩, ⟨44, 8, n.cutoff.getD 0⟩, ⟨52, 8, n.limit.getD 0⟩]

/-- The body fields of an ARRIVAL record. -/
def arrivalFields (port : Fin 8) (v : Verdict) (cycle : Option Nat) (a : Arrival) : List Field :=
  [⟨20, 1, port.val⟩, ⟨21, 1, v.code⟩, ⟨22, 2, cycle.getD 0⟩,
   ⟨24, 1, bit 0 a.fcsBad + bit 1 a.groupRange + bit 2 a.defaulted + bit 3 a.session.isSome + bit 4 a.message.isSome
      + bit 5 a.group.isSome + bit 6 a.kindPresent⟩,
   ⟨25, 1, a.kind.code⟩, ⟨26, 1, match a.group with | some g => g.val | none => 0⟩, ⟨28, 2, a.session.getD 0⟩,
   ⟨30, 2, a.length⟩, ⟨32, 4, a.message.getD 0⟩]

/-- The body fields of a record, without the chain value of evidence. -/
def RecBody.fields : RecBody → List Field
  | .arrival port v cycle a => arrivalFields port v cycle a
  | .hostStamp event tag => [⟨20, 2, event⟩, ⟨24, 8, tag⟩]
  | .gap origin lost lastLost =>
    [⟨20, 1, match origin with | .port p => p.val | .staging => 8⟩, ⟨24, 8, lost⟩, ⟨32, 8, lastLost⟩]
  | .notice n => n.fields
  | .evidence b _ => b.fields

/-- The chain field of an evidence record, bytes 60..63. -/
def RecBody.chainFields : RecBody → List Field
  | .evidence _ chain => [⟨60, 4, chain⟩]
  | _ => []

/-- The common header (section 10.5). -/
def headerFields (h : Header) (seq : Nat) (b : RecBody) : List Field :=
  let special : Nat × Nat := match b with
    | .evidence e _ => (e.headerBits, e.headerByte3)
    | _ => (0, 0)
  [⟨0, 1, b.code⟩, ⟨1, 1, h.cls.code + 4 * h.ts.code + special.1⟩, ⟨2, 1, h.leap⟩, ⟨3, 1, special.2⟩, ⟨4, 8, seq⟩, ⟨12, 8, h.stamp⟩]

/-- The 64 bytes of a record. -/
def Record.bytes (r : Record) : List Byte := layout 64 (headerFields r.hdr r.seq r.body ++ r.body.fields ++ r.body.chainFields)

/-- Bytes 0..59 of an evidence record as numbered, which the chain value covers (R133). -/
def chainedBytes (h : Header) (seq : Nat) (b : EvBody) : List Byte :=
  layout 60 (headerFields h seq (.evidence b 0) ++ b.fields)

/-- The chain value of an evidence record (R133, R185). -/
def chainValue (prev : Nat) (h : Header) (seq : Nat) (b : EvBody) : Nat :=
  crc32 (layout 4 [⟨0, 4, prev⟩] ++ chainedBytes h seq b)

/-! ### Shared area (section 10.3) -/

/-- The 64 bytes of the status block. -/
def StatusBlock.bytes (b : StatusBlock) : List Byte :=
  layout 64 [⟨0, 1, b.ts.code⟩, ⟨1, 1, b.osc.code⟩, ⟨2, 1, b.cls.code⟩, ⟨3, 1, b.ref.code⟩, ⟨4, 1, b.leap⟩, ⟨8, 4, b.u⟩,
    ⟨12, 4, b.counter⟩, ⟨16, 4, unsignedOf 4 b.f⟩, ⟨20, 4, unsignedOf 4 b.p⟩, ⟨24, 8, unsignedOf 8 b.theta⟩, ⟨32, 8, b.seq⟩]

/-- The part-written bytes 20..31 of a segment entry (R182). The sequences are given by their low 32 bits. -/
def entryBytes (st : EntryState) (reason : SegReason) (fill : Nat) (first last : Option Nat) : List Byte :=
  layout 12 [⟨0, 1, st.code + 16 * reason.code⟩, ⟨1, 3, fill⟩, ⟨4, 4, first.getD 0⟩, ⟨8, 4, last.getD 0⟩]

/-- Address of segment entry i, 32 bytes (R138). -/
def entryBase (area : Nat) (i : Fin 64) : Nat := area + 64 + 32 * i.val

/-- Address of the part-written bytes of entry i (R138, R182). -/
def entryAddr (area : Nat) (i : Fin 64) : Nat := entryBase area i + 20

/-! ### Parameter blocks (R185) -/

/-- The discipline parameter area as fields, bytes 16..39 moved to an offset. -/
def DiscSet.fields (s : DiscSet) (at_ : Nat) : List Field :=
  [⟨at_, 1, s.kpAcq⟩, ⟨at_ + 1, 1, s.kiAcq⟩, ⟨at_ + 2, 1, s.kpTrk⟩, ⟨at_ + 3, 1, s.kiTrk⟩, ⟨at_ + 4, 4, s.lock⟩,
   ⟨at_ + 8, 4, s.step⟩, ⟨at_ + 12, 1, s.loss⟩, ⟨at_ + 16, 4, s.slewMax⟩, ⟨at_ + 20, 4, unsignedOf 4 s.initialF⟩]

/-- The reference parameter area as fields, bytes 16..27 moved to an offset. -/
def RefSet.fields (s : RefSet) (at_ : Nat) : List Field :=
  [⟨at_, 1, s.address⟩, ⟨at_ + 1, 1, s.register⟩, ⟨at_ + 2, 1, match s.speed with | .kHz100 => 0 | .kHz400 => 1⟩,
   ⟨at_ + 3, 1, s.reduction⟩, ⟨at_ + 4, 4, s.dRef⟩, ⟨at_ + 8, 4, s.tolerance⟩]

/-- The trace parameter area as fields, bytes 16..37 moved to an offset. -/
def TraceSet.fields (s : TraceSet) (at_ : Nat) : List Field :=
  [⟨at_, 4, s.limitA⟩, ⟨at_ + 4, 4, s.limitB⟩, ⟨at_ + 8, 4, s.guardG⟩, ⟨at_ + 12, 4, s.rateH⟩, ⟨at_ + 16, 4, s.rateBackup⟩,
   ⟨at_ + 20, 1, s.upgradeHold⟩, ⟨at_ + 21, 1, s.interval⟩]

def DiscSet.crc (s : DiscSet) : Nat := crc32 (layout 24 (s.fields 0))
def RefSet.crc (s : RefSet) : Nat := crc32 (layout 12 (s.fields 0))
def TraceSet.crc (s : TraceSet) : Nat := crc32 (layout 22 (s.fields 0))

/-- A key offset as the CONFIG_PORT layout gives it. -/
def keyOffsetCode (o : Option Nat) : Nat := o.getD 0xFFFF

/-- A kind-map entry as the layout gives it: byte value, then class; an absent entry is 0 and 0. -/
def kindEntryCode : Option KindEntry → Nat
  | some e => e.value.toNat + 256 * e.kind.code
  | none => 0

/-- A filter code. -/
def filterCode (records : Bool) : Nat := if records then 0 else 1

/-- The port parameter block of R185: port number, enable state, configuration in force. -/
def portBlock (n : Fin 8) (p : Port) : List Byte :=
  let c := p.config
  layout 25
    ([⟨0, 1, n.val⟩, ⟨1, 1, if p.state = .disabled then 0 else 1⟩, ⟨2, 2, c.compensation⟩, ⟨4, 2, keyOffsetCode c.sessionAt⟩,
      ⟨6, 2, keyOffsetCode c.messageAt⟩, ⟨8, 2, keyOffsetCode c.groupAt⟩, ⟨10, 2, keyOffsetCode c.kindAt⟩,
      ⟨12, 2, kindEntryCode (c.kindMap.getD 0 none)⟩, ⟨14, 2, kindEntryCode (c.kindMap.getD 1 none)⟩,
      ⟨16, 2, kindEntryCode (c.kindMap.getD 2 none)⟩, ⟨18, 2, kindEntryCode (c.kindMap.getD 3 none)⟩,
      ⟨20, 1, filterCode c.filter.new⟩, ⟨21, 1, filterCode c.filter.amend⟩, ⟨22, 1, filterCode c.filter.cancel⟩,
      ⟨23, 1, filterCode c.filter.other⟩, ⟨24, 1, match c.defaultGroup with | some g => g.val | none => 0xFF⟩] : List Field)

def portCrc (n : Fin 8) (p : Port) : Nat := crc32 (portBlock n p)

end Sys2Proof.Machine
end

