-- ==== Sys2Proof/Machine/Flags.lean ====
section
/-! DEFINITION. The CAUSE bits, the mask and the interrupt message (R139, R155, R156), and the register reads. -/

namespace Sys2Proof.Machine

/-- The eleven causes (section 10.2). -/
inductive Cause where
  | newArrival
  | newAuction
  | newEvidence
  | filled
  | reqDone
  | starved
  | handRefused
  | writeFault
  | decidePending
  | classChange
  | timescaleState
  deriving DecidableEq, Repr

/-- The number of a cause, which is its bit in CAUSE and, from 16 on, in CONTROL. -/
def Cause.num : Cause → Nat
  | .newArrival => 0 | .newAuction => 1 | .newEvidence => 2 | .filled => 3 | .reqDone => 4 | .starved => 5
  | .handRefused => 6 | .writeFault => 7 | .decidePending => 8 | .classChange => 9 | .timescaleState => 10

/-- The NEW_x cause of a stream. -/
def newCause : Stream → Cause
  | .arrival => .newArrival
  | .auction => .newAuction
  | .evidence => .newEvidence

/-- The register value with only a cause's bit set. -/
def Cause.mask (c : Cause) : BitVec 11 := 1#11 <<< c.num

/-- Whether a cause bit is set. -/
def Arc.has (a : Arc) (c : Cause) : Bool := a.cause.getLsbD c.num

/-- Whether a cause's mask bit is set. -/
def Arc.unmasked (a : Arc) (c : Cause) : Bool := a.mask.getLsbD c.num

/-- A cause event (R155): the bit is set; if it was clear and its mask bit is set, the interrupt message of this tick is sent,
unless one went out at this tick already (R156). -/
def Arc.raise (a : Arc) (c : Cause) : Arc :=
  if a.has c then a
  else if a.unmasked c && !a.messaged then
    { a with cause := a.cause ||| c.mask, messages := a.messages + 1, messaged := true }
  else { a with cause := a.cause ||| c.mask }

/-- A cause event on the whole state. -/
def raise (c : Cause) (s : State) : State := { s with arc := s.arc.raise c }

/-- The mask bits of a value written to CONTROL, bits 16..26 (section 10.2). -/
def maskOf (value : RegWord) : BitVec 11 := value.extractLsb' 16 11

/-! ### Register reads (R138, R139) -/

/-- A read of AREA: the value held. -/
def readArea (s : State) : RegWord := BitVec.ofNat 64 s.arc.area

/-- A read of CONTROL: ENABLE and the mask bits, LINK_RESET as 0. -/
def readControl (s : State) : RegWord := (if s.arc.enable then 1#64 else 0#64) ||| (s.arc.mask.setWidth 64 <<< 16)

/-- A read of HAND returns 0. -/
def readHand (_ : State) : RegWord := 0

/-- A read of CAUSE: the cause bits, and the last refused index in bits 63..56. -/
def readCause (s : State) : RegWord := s.arc.cause.setWidth 64 ||| (BitVec.ofNat 64 s.arc.lastRefused <<< 56)

/-- A read of TIME: the XT integer of a reading taken at this tick. -/
def readTime (s : State) : RegWord := BitVec.ofNat 64 s.tsu.xt

end Sys2Proof.Machine
end

