-- ==== Sys2Proof/Machine/Ops.lean ====
section
/-! DEFINITION. The operations several blocks share: leaving reset, readings, making evidence records, the status block, entry
writes, answering a request slot. -/

namespace Sys2Proof.Machine

/-- A command of a part that is out of reset; a part held in reset takes none of them (R2, log 4). -/
def live (f : State → State) (s : State) : Out State := .next (if s.osc.phase = .running then f s else s)

/-! ### Readings (R6, R53) -/

/-- The reading of this tick, with the class in force served with it. -/
def State.reading (s : State) : Reading :=
  { xt := s.tsu.xt, leap := s.tsu.leap, ts := s.tsu.state, cls := s.div.cls, tick := s.osc.tick }

/-- The XT integer of this tick goes into an act that keeps no reading (R6; log 36). -/
def readXt (s : State) : State := { s with tsu := { s.tsu with xtRead := true } }

/-- The common fields of a record made of a reading with a given stamp. -/
def Reading.header (r : Reading) (stamp : Nat) : Header := { stamp := stamp, leap := r.leap, cls := r.cls, ts := r.ts }

/-! ### Evidence records (R119 to R121) -/

/-- Whether R120 gives room: a free place in the evidence queue and a slot evidence staging can reserve (R87). -/
def evidenceRoom (s : State) : Bool :=
  decide (s.evu.queue.length < evidencePlaces) && decide (s.stg.staged.evidence.length + s.stg.reserved < evidenceSlots)

/-- A record made with room: it joins the tail of the queue and holds a reservation (R119, R120). -/
def pushEvidence (b : EvBody) (asked : Bool) (s : State) : State :=
  { s with
    evu := { s.evu with
      queue := s.evu.queue ++ [{ hdr := s.reading.header s.tsu.xt, capTick := s.osc.tick, body := b, asked := asked }] }
    stg := { s.stg with reserved := s.stg.reserved + 1 } }

/-- The pending RESET takes room before any other record of the EVU (R135). -/
def flushReset (s : State) : State :=
  match s.evu.pendingReset with
  | none => s
  | some c =>
    if evidenceRoom s then
      pushEvidence (.reset c s.osc.state) false { s with evu := { s.evu with pendingReset := none } }
    else s

/-- A change of the summary accumulator. -/
def Evu.onAcc (e : Evu) (f : Accum → Accum) : Evu := { e with acc := f e.acc }

/-- A record that is suppressed is counted (R121). -/
def suppress (s : State) : State :=
  { s with evu := s.evu.onAcc fun a => { a with suppressed := satAdd 65535 a.suppressed 1 } }

/-- A report that calls for an evidence record: made with room, suppressed without (R119, R121). -/
def makeEvidence (b : EvBody) (s : State) : State :=
  if evidenceRoom (flushReset s) then pushEvidence b false (flushReset s) else suppress (flushReset s)

/-! ### Status block (R140) -/

/-- The fields of the block as of this tick, with a value of the update counter. -/
def State.statusBlock (s : State) (counter : Nat) : StatusBlock :=
  { ts := s.tsu.state, osc := s.osc.state, cls := s.div.cls, ref := s.ref.state, leap := s.tsu.leap, u := s.div.u,
    counter := counter, f := s.tsu.f, p := s.tsu.p, theta := s.tsu.theta, seq := s.seq.counter }

/-- A write of the block is issued: the update counter adds 1, wrapping from 2^32 - 1 to 0, and the 64 bytes go to AREA. -/
def issueStatus (s : State) : State :=
  let counter := (s.arc.status.counter + 1) % 2 ^ 32
  let block := s.statusBlock counter
  { s with arc := { s.arc with
      status := { image := some block, counter := counter, due := false, inFlight := some (cellsFrom s.arc.area block.bytes) } } }

/-- An event that owes a write of the block: nothing while ENABLE is clear or a link reset is in progress; else a write, or
the write due flag while one is in flight. -/
def statusEvent (s : State) : State :=
  if s.arc.enable && s.arc.linkReset.isNone then
    match s.arc.status.inFlight with
    | none => issueStatus s
    | some _ => { s with arc := { s.arc with status := { s.arc.status with due := true } } }
  else s

/-! ### Segment entry writes (R141, R182) -/

/-- A write of the part-written fields of entry i is issued. -/
def Arc.issueEntry (a : Arc) (i : Fin 64) (st : EntryState) (reason : SegReason) (fill : Nat) (first last : Option Nat) : Arc :=
  { a with entryWrites := a.entryWrites ++ [cellsFrom (entryAddr a.area i) (entryBytes st reason fill first last)] }

/-- The private copy of a segment replaced: none makes it host-owned (R142). -/
def Arc.putCopy (a : Arc) (i : Fin 64) (c : Option SegCopy) : Arc := { a with copies := a.copies.set i c }

/-- The held state of a private copy changed. -/
def Arc.hold (a : Arc) (i : Fin 64) (h : HeldState) : Arc :=
  a.putCopy i ((a.copies[i]).map fun c => { c with held := h })

/-! ### Request slots (R162, R182) -/

/-- The address of the slot being run: base + 64 × k of the private copy (R162). -/
def slotAddr (s : State) : Nat :=
  match s.rqp.cur with
  | some i => (match s.arc.copies[i] with | some c => c.base | none => 0) + 64 * s.rqp.slot
  | none => 0

/-- The answer to the slot being run: the result area as one write, bytes 2..7 and 16..63, and then the outcome byte, byte 1
(R162, R182). The fields give their place in the slot. -/
def answer (o : ReqOutcome) (fields : List Field) (s : State) : State :=
  let bytes := layout 64 fields
  let addr := slotAddr s
  let result := cellsFrom (addr + 2) (sliceAt bytes 2 6) ++ cellsFrom (addr + 16) (sliceAt bytes 16 48)
  { s with rqp := { s.rqp with phase := .writing o [result, cellsFrom (addr + 1) [BitVec.ofNat 8 o.code]] } }

/-- The answer OK with a result that shows the state after this tick, which the tick's end forms again (R170, R171; log 45). -/
def answerForTick (r : TickResult) (fields : List Field) (s : State) : State :=
  let t := answer .ok fields s
  { t with rqp := { t.rqp with tickResult := some r } }

/-- An answer that comes after the take: discarded once a link reset has withdrawn the request processor (R177). DESIGN CHOICE: the
slot phase is then IDLE (log 43). -/
def deliver (o : ReqOutcome) (fields : List Field) (s : State) : State :=
  if s.rqp.withdrawn then { s with rqp := { s.rqp with phase := .idle } } else answer o fields s

/-- The owner takes the offered request when the slot holds one of its kind; the slot's bytes are its parameters. With no such
offer nothing is taken (log 2). -/
def takeRequest (kind : Nat) (f : List Byte → State → State) (s : State) : State :=
  if s.rqp.phase = .offered ∧ byteAt s.rqp.bytes 0 = kind then f s.rqp.bytes s else s

/-- The slot goes to ANSWERING (R162). -/
def await (w : Wait) (s : State) : State := { s with rqp := { s.rqp with phase := .answering w } }

/-! ### Starvation (R150) -/

/-- Whether a stream is starved at this tick. -/
def isStarved (s : State) (st : Stream) : Bool :=
  s.arc.enable && (!(s.stg.staged.get st).isEmpty || s.jwr.phase == .waiting st) && (s.arc.openSeg.get st).isNone
    && (s.arc.lent.get st).isEmpty

/-- The first tick of a spell sets the stream's starvation flag and STARVED; further ticks set nothing. -/
def noteStarved (st : Stream) (s : State) : State :=
  if isStarved s st && !(s.arc.starved.get st) then
    raise .starved { s with arc := { s.arc with starved := s.arc.starved.put st true } }
  else s

/-- The starvation rule applied to the three streams. -/
def checkStarved (s : State) : State := noteStarved .arrival (noteStarved .evidence (noteStarved .auction s))

end Sys2Proof.Machine
end

