-- ==== Sys2Proof/Machine/Evidence.lean ====
section
/-! DEFINITION. The evidence unit: the summary accumulator, summaries and their boundaries, the pending RESET, MARK. -/

namespace Sys2Proof.Machine

/-! ### The accumulator (R126) -/

/-- An acceptance with its θ, saturated to ±2,147,483,647. -/
def Accum.noteAccepted (theta : Int) (a : Accum) : Accum :=
  let t := clampInt (-2147483647) 2147483647 theta
  { a with
    accepted := satAdd 65535 a.accepted 1
    thetaMin := some (match a.thetaMin with | none => t | some m => min m t)
    thetaMax := some (match a.thetaMax with | none => t | some m => max m t) }

/-- A rejection with its reason and sub-reason. -/
def Accum.noteRejected (reason : RefReason) (sub : SubReason) (a : Accum) : Accum :=
  { a with rejected := satAdd 65535 a.rejected 1, lastReject := some (reason, sub) }

/-- One arrival lost (R69, R83). -/
def Accum.noteLost (a : Accum) : Accum := { a with arrivalsLost := satAdd 4294967295 a.arrivalsLost 1 }

/-- One notice lost (R86). -/
def Accum.noteNoticeLost (a : Accum) : Accum := { a with noticesLost := satAdd 65535 a.noticesLost 1 }

/-- A change of the accumulator on the whole state. -/
def onAcc (f : Accum → Accum) (s : State) : State := { s with evu := s.evu.onAcc f }

/-! ### Summaries (R127 to R131) -/

/-- The least whole multiple of the interval above an XT integer (R127). DESIGN CHOICE: above 2^64 - 1 it is held exact, since the
spec gives it no width (log 6). -/
def nextBoundary (interval xt : Nat) : Nat :=
  nsPerSecond * interval * (xt / (nsPerSecond * interval) + 1)

/-- A SUMMARY is due when the XT integer is at or above the next boundary (R127). -/
def summaryIsDue (s : State) : Bool := decide (s.evu.boundary ≤ s.tsu.xt)

/-- The SUMMARY of the open interval (R128). -/
def summaryBody (s : State) : EvBody := .summary s.evu.start s.evu.acc s.div.u s.tsu.f

/-- One attempt to make a SUMMARY: made, and the next interval begun (R128), or deferred with EXTENDED (R129). -/
def attemptSummary (s : State) : State :=
  let s1 := flushReset s
  let boundary := nextBoundary s1.div.trace.interval s1.tsu.xt
  if evidenceRoom s1 then
    let s2 := pushEvidence (summaryBody s1) false s1
    { s2 with evu := { s2.evu with
        acc := Accum.fresh s2.div.u s2.div.cls, start := s2.tsu.xt, boundary := boundary, boundaryTick := some s2.osc.tick } }
  else
    { s1 with evu := { s1.evu with
        acc := { s1.evu.acc with extended := true }, boundary := boundary, boundaryTick := some s1.osc.tick } }

/-- The SUMMARY when one is due. -/
def summaryStep (s : State) : State := if summaryIsDue s then attemptSummary s else s

/-- SUMMARY_DUE (R128, R129). -/
def execSummaryDue (s : State) : Out State := live summaryStep s

/-- PENDING_RESET: the pending RESET is made at the first tick that gives room (R135). -/
def execPendingReset (s : State) : Out State := live flushReset s

/-! ### MARK (R124, R168) -/

/-- A MARK: a HOST_MARK record the request processor waits for, or SUPPRESSED at once with the XT integer of the tick. -/
def takeMark (b : List Byte) (s : State) : State :=
  let body : EvBody := .hostMark (fieldAt b 8 8) (sliceAt b 16 32)
  if evidenceRoom (flushReset s) then await .mark (pushEvidence body true (flushReset s))
  else answer .suppressed [⟨16, 8, s.tsu.xt⟩] (readXt (suppress (flushReset s)))

/-- MARK (R168). -/
def execMark (s : State) : Out State := live (takeRequest 0x02 takeMark) s

end Sys2Proof.Machine
end

