-- ==== Sys2Proof/Machine/Divergence.lean ====
section
/-! DEFINITION. The divergence monitor: the bound, the classes, evaluations, holdover seconds and CONFIG_TRACE. -/

namespace Sys2Proof.Machine

/-- NONE below B below A. -/
def Cls.rank : Cls → Nat
  | .none => 0 | .b => 1 | .a => 2

/-- The lower of two classes. -/
def Cls.low (x y : Cls) : Cls := if x.rank ≤ y.rank then x else y

/-- H_eff (R48). -/
def TraceSet.hEff (t : TraceSet) : OscState → Nat
  | .locked => t.rateH
  | .backup => t.rateBackup

/-- The bound a holdover spell has grown to (R48). -/
def Div.grown (d : Div) (o : OscState) : Nat := min uMax (d.u0 + d.trace.hEff o * d.secs)

/-- U for a timescale state and an oscillator state (R46 to R48, R56). A state that carries terms and has none cannot be reached
(R46); there the bound states no limit. DESIGN CHOICE, log 20. -/
def Div.bound (d : Div) (ts : TsState) (o : OscState) : Nat :=
  match ts with
  | .unset => uMax
  | .holdover => d.grown o
  | _ => match d.terms with
    | some t => min uMax (t.uMod + t.absTheta + d.trace.guardG)
    | none => uMax

/-- The raw class (R51). -/
def rawClass (t : TraceSet) (u : Nat) : Cls :=
  if u ≤ t.limitA then .a else if u ≤ t.limitB then .b else .none

/-- The caps of R51. -/
def capClass (ts : TsState) (o : OscState) (raw : Cls) : Cls :=
  match ts with
  | .unset => .none
  | .acquiring => .none
  | _ => match o with
    | .backup => raw.low .b
    | .locked => raw

/-- The upgrade target after a better evaluation (R52). -/
def Div.nextTarget (d : Div) (capped : Cls) : Cls :=
  match d.upTarget with
  | none => capped
  | some t => t.low capped

/-- The downgrade, or the upgrade hysteresis (R52). -/
def Div.hysteresis (d : Div) (capped : Cls) : Div :=
  if capped.rank < d.cls.rank then { d with cls := capped, upCount := 0, upTarget := none }
  else if capped = d.cls then { d with upCount := 0, upTarget := none }
  else if d.upCount + 1 < d.trace.upgradeHold then
    { d with upCount := d.upCount + 1, upTarget := some (d.nextTarget capped) }
  else { d with cls := d.nextTarget capped, upCount := 0, upTarget := none }

/-- Steps 1 to 3 of an evaluation (R45). -/
def Div.evaluate (d : Div) (ts : TsState) (o : OscState) : Div :=
  let u := d.bound ts o
  let raw := rawClass d.trace u
  let capped := capClass ts o raw
  { d with u := u, raw := raw, capped := capped }.hysteresis capped

/-- The part of an evaluation's report that a change of the class in force adds (R53). -/
def reportClass (old : Cls) (s : State) : State :=
  if s.div.cls = old then s else raise .classChange (makeEvidence (.classChange old s.div.cls s.div.u) s)

/-- The accumulator's part of an evaluation report (R126): U max raised, lowest class lowered. -/
def Accum.noteEvaluation (u : Nat) (cls : Cls) (a : Accum) : Accum :=
  { a with uTop := max a.uTop u, lowest := a.lowest.low cls }

/-- Step 4 of an evaluation: the reports, in the order of R53. -/
def reportEvaluation (old : Cls) (s : State) : State :=
  statusEvent (reportClass old (onAcc (Accum.noteEvaluation s.div.u s.div.cls) s))

/-- An evaluation made in a timescale state (R45). -/
def evaluateIn (ts : TsState) (s : State) : State :=
  reportEvaluation s.div.cls { s with div := s.div.evaluate ts s.osc.state }

/-- An evaluation in the timescale state in force (R45). -/
def evaluate (s : State) : State := evaluateIn s.tsu.state s

/-- The evaluation of an accepted pulse: the pulse's terms replace the old ones, and a holdover spell ends (R44, R46, R48). -/
def evaluatePulse (uMod : Nat) (theta : Int) (s : State) : State :=
  evaluate { s with div := { s.div with terms := some ⟨uMod, theta.natAbs⟩, base := none } }

/-- The evaluation of a change into HOLDOVER begins a spell from U0 at this tick's XT integer (R48). -/
def beginHoldover (u0 : Nat) (s : State) : State :=
  evaluate { s with div := { s.div with u0 := u0, base := some s.tsu.xt, secs := 0 } }

/-- The re-basing of a holdover spell, with the H_eff that applied before the event (R49). -/
def Div.rebase (d : Div) (old : OscState) (xt : Nat) : Div :=
  match d.base with
  | none => d
  | some _ => { d with u0 := d.grown old, base := some xt, secs := 0 }

/-- Whether a holdover second is due: XT has reached the base instant plus (s + 1) seconds (R48). DESIGN CHOICE: once s has
saturated the threshold moves no more, and a second stays due at every later tick (log 38). -/
def holdoverDue (s : State) : Bool :=
  match s.div.base with
  | some b => decide (b + nsPerSecond * (s.div.secs + 1) ≤ s.tsu.xt)
  | none => false

/-- A holdover second (R48): s becomes the whole seconds since the base instant, saturating, and an evaluation is made in the
timescale state given. -/
def secondIn (ts : TsState) (s : State) : State :=
  if holdoverDue s then
    evaluateIn ts
      (readXt { s with div := { s.div with secs := min 4294967295 ((s.tsu.xt - s.div.base.getD 0) / nsPerSecond) } })
  else s

/-- HOLDOVER_SECOND (R48). -/
def execHoldoverSecond (s : State) : Out State := live (fun s => secondIn s.tsu.state s) s

/-- The state after an accepted CONFIG_TRACE, in the six steps of R54. DESIGN CHOICE: a SUMMARY due at the tick and not yet
attempted is passed over, as the boundary moves above XT (R131; log 39), and no other record of the tick comes between its two reports
(R119; log 50). -/
def applyTrace (set : TraceSet) (s : State) : State :=
  let div := { s.div.rebase s.osc.state s.tsu.xt with trace := set, upCount := 0, upTarget := none }
  let s1 : State :=
    { s with div := div, evu := { s.evu with
        boundary := nextBoundary set.interval s.tsu.xt, boundaryTick := some s.osc.tick } }
  evaluate (makeEvidence (.config 0x42 none set.crc) s1)

/-- A CONFIG_TRACE taken (R54, R173). -/
def takeTrace (b : List Byte) (s : State) : State :=
  match checkTrace (readTrace b) with
  | none => answer .badParam [] s
  | some (set, clamped) =>
    answer (if clamped then .clamped else .ok) (set.fields 16 ++ [⟨40, 4, set.crc⟩]) (applyTrace set s)

/-- CONFIG_TRACE (R54). -/
def execConfigTrace (s : State) : Out State := live (takeRequest 0x42 takeTrace) s

end Sys2Proof.Machine
end

