-- ==== Sys2Proof/Machine/Oscillator.lean ====
section
/-! DEFINITION. The oscillator supervisor and the two whole resets: power-on and pin. -/

namespace Sys2Proof.Machine

/-- Every block but the OSC at its reset table, with the straps as latched. What the physical layers report, the draw counter
and the message count go on (R22, R43, R55, R74, R94, R117, R136, R160, R179; logs 3, 5, 18). -/
def clearBlocks (straps : Straps) (s : State) : State :=
  { s with
    tsu := Tsu.cleared
    ref := Ref.cleared straps
    div := Div.cleared
    taps := s.taps.map fun p => Port.cleared p.present
    seq := Seq.cleared
    stg := Stg.cleared
    auc := Auc.cleared s.auc.draws
    evu := Evu.cleared
    jwr := Jwr.cleared
    arc := Arc.cleared s.arc.messages
    rqp := Rqp.cleared }

/-- The reset phase changed. -/
def setPhase (p : ResetPhase) (s : State) : State := { s with osc := { s.osc with phase := p } }

/-- The oscillator state changed, without a report. -/
def setOsc (o : OscState) (s : State) : State := { s with osc := { s.osc with state := o } }

/-- The rest of the part leaves reset: the tick counter is 0, and the RESET record is made with its reservation (R3, R134). -/
def leaveReset (power pin : Bool) (s : State) : State :=
  { s with
    osc := { s.osc with phase := .running, tick := 0 }
    stg := { s.stg with reserved := 1 }
    evu := { s.evu with queue := [resetRecord ⟨power, pin, false, false⟩ s.osc.state] } }

/-- The lock wait of a power-on ends: the part leaves reset, or goes on waiting for the release of RESET_N (R2). -/
def endLockWait (s : State) : State :=
  match s.osc.phase with
  | .lockWait pinLow pinSeen => if pinLow then setPhase (.held true) s else leaveReset true pinSeen s
  | .running | .held _ => s

/-- Whether RESET_N is low (R2). -/
def ResetPhase.pinLow : ResetPhase → Bool
  | .running => false
  | .lockWait low _ => low
  | .held _ => true

/-- POWER_ON_RESET: every block at its reset values, and the lock wait begins with the oscillator not yet locked; a RESET_N that
is low stays low through it (R2, R134). -/
def execPowerOnReset (straps : Straps) (s : State) : Out State :=
  .next { clearBlocks straps s with
    osc := { phase := .lockWait s.osc.phase.pinLow s.osc.phase.pinLow, state := .backup, tick := 0 } }

/-- LOCK_WAIT_END: the 100 ms end without a lock event (R2). -/
def execLockWaitEnd (s : State) : Out State := .next (endLockWait s)

/-- Straps latched at a pin reset that comes during a lock wait (00_scope.md, Pins and straps). -/
def latchStraps (straps : Straps) (s : State) : State := { s with ref := Ref.cleared straps }

/-- RESET_N goes low (R2). -/
def pinFall (straps : Straps) (s : State) : State :=
  match s.osc.phase with
  | .running => { clearBlocks straps s with osc := { s.osc with phase := .held false, tick := 0 } }
  | .lockWait _ _ => setPhase (.lockWait true true) (latchStraps straps s)
  | .held _ => s

/-- RESET_N is released (R2). -/
def pinRise (s : State) : State :=
  match s.osc.phase with
  | .running => s
  | .lockWait _ pinSeen => setPhase (.lockWait false pinSeen) s
  | .held power => leaveReset power true s

/-- PIN_RESET (R2). -/
def execPinReset (edge : PinEdge) (s : State) : Out State :=
  .next (match edge with
    | .fall straps => pinFall straps s
    | .rise => pinRise s)

/-- A change of the oscillator state of a running part: the OSC_STATE record, the re-basing of a holdover spell at the old rate,
the evaluation, and the status block (R1, R49). DESIGN CHOICE: the evaluation's status block write is issued ahead of the one the
change itself owes, which no rule orders against it (R1, R53, R140; log 37), and no SUMMARY and no other record of the tick comes
between the reports (R119, R126; log 50). -/
def changeOsc (new : OscState) (s : State) : State :=
  let s1 := makeEvidence (.oscState new) (setOsc new s)
  let s2 := { s1 with div := s1.div.rebase s.osc.state s1.tsu.xt }
  statusEvent (evaluate s2)

/-- LOCK_EVENT (R1, R2). -/
def lockEvent (s : State) : State :=
  match s.osc.phase with
  | .running => if s.osc.state = .backup then changeOsc .locked s else s
  | .lockWait _ _ => endLockWait (setOsc .locked s)
  | .held _ => setOsc .locked s

/-- LOCK_EVENT (R1, R2). -/
def execLockEvent (s : State) : Out State := .next (lockEvent s)

/-- LOSS_OF_LOCK (R1, R2). -/
def lossOfLock (s : State) : State :=
  match s.osc.phase with
  | .running => if s.osc.state = .locked then changeOsc .backup s else s
  | .lockWait _ _ | .held _ => setOsc .backup s

/-- LOSS_OF_LOCK (R1, R2). -/
def execLossOfLock (s : State) : Out State := .next (lossOfLock s)

end Sys2Proof.Machine
end

