-- ==== Sys2Proof/Machine/Auctions.lean ====
section
/-! DEFINITION. The auction timer: the auction table, the deadline list, the handling of deadlines, the group requests. -/

namespace Sys2Proof.Machine

/-! ### The deadline list (R96) -/

/-- The order of the list: by instant, then by group. -/
def Deadline.before (a b : Deadline) : Bool :=
  decide (a.instant < b.instant) || (decide (a.instant = b.instant) && decide (a.group < b.group))

/-- A deadline inserted at its place in the order. -/
def insertDeadline (d : Deadline) : List Deadline → List Deadline
  | [] => [d]
  | e :: es => if d.before e then d :: e :: es else e :: insertDeadline d es

/-- A group's deadline removed. -/
def dropDeadline (g : Fin 64) (l : List Deadline) : List Deadline := l.filter fun e => e.group ≠ g

/-- The comparator: the head of the list (R96). -/
def comparator (s : State) : Option Deadline := s.auc.deadlines.head?

/-- The head of the list when it is due at this tick (R97). -/
def dueHead (s : State) : Option Deadline :=
  (comparator s).filter fun d => decide (d.instant ≤ s.tsu.xt)

/-- Whether the notice queue has a free place (R98). -/
def noticeRoom (s : State) : Bool := decide (s.auc.notices.length < noticePlaces)

/-- A group's entry. -/
def group (s : State) (g : Fin 64) : Group := s.auc.groups[g]

/-- A group's entry replaced, its old deadline removed and its new one, if any, inserted (R96). -/
def setGroup (g : Fin 64) (v : Group) (d : Option (Nat × Tag)) (s : State) : State :=
  let rest := dropDeadline g s.auc.deadlines
  let deadlines := match d with
    | none => rest
    | some (instant, tag) => insertDeadline ⟨instant, g, tag⟩ rest
  { s with auc := { s.auc with groups := s.auc.groups.set g v, deadlines := deadlines } }

/-! ### Notices (R115) -/

/-- Whether a notice kind can show r and the cutoff. -/
def NoticeKind.showsDraw : NoticeKind → Bool
  | .cutoff | .close | .cancel | .clear => true
  | .callOpen | .windowOpen | .reopen => false

/-- Whether a notice kind shows the decide deadline. -/
def NoticeKind.showsLimit : NoticeKind → Bool
  | .cutoff | .close | .clear => true
  | .callOpen | .windowOpen | .reopen | .cancel => false

/-- The body of a notice made of a group's entry. -/
def noticeOf (kind : NoticeKind) (g : Fin 64) (v : Group) (flags : NoticeFlags) : Notice :=
  { kind := kind, group := g, cycle := v.cycle, flags := flags, tEnd := v.tEnd, w := v.w,
    cutoff := if kind.showsDraw then v.cutoff else none, r := if kind.showsDraw then v.r else none, ext := v.ext,
    limit := if kind.showsLimit then v.limit else none }

/-- A notice joins the tail of the queue with its stamp, and L, class and timescale state of this tick (R98, R115). -/
def pushNotice (n : Notice) (stamp : Nat) (s : State) : State :=
  { s with auc := { s.auc with
      notices := s.auc.notices ++ [{ hdr := s.reading.header stamp, capTick := s.osc.tick, notice := n }] } }

def noFlags : NoticeFlags := ⟨false, false, false, false⟩

/-- STEPPED: the instant lies above the XT integer before a step and at or below the XT integer after it (R99). -/
def steppedOver (s : State) (instant : Nat) : Bool :=
  s.auc.spans.any fun sp => decide (sp.before < instant) && decide (instant ≤ sp.after)

/-! ### Handling a deadline (R97, R101 to R104, R109) -/

/-- START: the group enters CALL with a CALL_OPEN notice stamped with the deadline, and END is inserted (R101). -/
def handleStart (d : Deadline) (s : State) : State :=
  let v := { group s d.group with state := .call }
  pushNotice (noticeOf .callOpen d.group v { noFlags with stepped := steppedOver s d.instant }) d.instant
    (setGroup d.group v (some (v.tEnd, .end_)) s)

/-- The handling of a cutoff (R104): DECIDE, the CUTOFF notice, DECIDE_LIMIT, the AUCTION_DRAW report and DECIDE_PENDING. -/
def enterDecide (g : Fin 64) (v : Group) (r cutoff : Nat) (flags : NoticeFlags) (s : State) : State :=
  let limit := fit64 (cutoff + nsPerSecond * v.d)
  let v' := { v with state := .decide, r := some r, cutoff := some cutoff, limit := some limit }
  let s1 := pushNotice (noticeOf .cutoff g v' flags) cutoff (setGroup g v' (some (limit, .decideLimit)) s)
  raise .decidePending (makeEvidence (.auctionDraw g flags v.cycle v.tEnd v.w r cutoff) s1)

/-- The draw of R102: with W at 0, r is 0 without a draw; else a free value of 0..W, and the draw is counted. Log 5. -/
def drawOffset (w : Nat) (s : State) : Nat × State :=
  if w = 0 then (0, s)
  else (Config.randomDraw s.auc.draws % (w + 1), { s with auc := { s.auc with draws := s.auc.draws + 1 } })

/-- END (R102, R103): the STRICT rule, or a draw that opens the window or, at r = 0, makes the cutoff at once. -/
def handleEnd (d : Deadline) (s : State) : State :=
  let v := group s d.group
  let flags := { noFlags with stepped := steppedOver s d.instant }
  if v.strict && s.div.cls != .a then
    enterDecide d.group v 0 v.tEnd { flags with untraceable := true } s
  else
    let (r, s1) := drawOffset v.w s
    if r = 0 then enterDecide d.group v 0 v.tEnd flags s1
    else
      let cutoff := fit64 (v.tEnd + 1000 * r)
      let v' := { v with state := .window, r := some r, cutoff := some cutoff }
      pushNotice (noticeOf .windowOpen d.group v' flags) v.tEnd (setGroup d.group v' (some (cutoff, .cutoff)) s1)

/-- CUTOFF of a group in WINDOW (R104). -/
def handleCutoff (d : Deadline) (s : State) : State :=
  let v := group s d.group
  enterDecide d.group v (v.r.getD 0) (v.cutoff.getD d.instant) { noFlags with stepped := steppedOver s d.instant } s

/-- DECIDE_LIMIT (R109): the default decision as at the decide deadline, flagged TIMEOUT. -/
def handleLimit (d : Deadline) (s : State) : State :=
  let v := group s d.group
  let flags := { noFlags with stepped := steppedOver s d.instant, timeout := true }
  if v.dflt = .extend ∧ v.ext < 7 then
    let tEnd := fit64 (d.instant + nsPerSecond * v.dfltE)
    let v' := { v with state := .call, ext := v.ext + 1, tEnd := tEnd, w := v.dfltW, r := none, cutoff := none, limit := none }
    pushNotice (noticeOf .reopen d.group v' flags) d.instant (setGroup d.group v' (some (tEnd, .end_)) s)
  else
    let v' := { v with state := .closed }
    pushNotice (noticeOf .close d.group v' flags) d.instant (setGroup d.group v' none s)

/-- The handling of a deadline by its tag. -/
def handleDeadline (d : Deadline) (s : State) : State :=
  match d.tag with
  | .start => handleStart d s
  | .end_ => handleEnd d s
  | .cutoff => handleCutoff d s
  | .decideLimit => handleLimit d s

/-- The deadline that can be handled at this tick: the due head, when the notice queue has a free place (R97, R98). -/
def ready (s : State) : Option Deadline := if noticeRoom s then dueHead s else none

/-- The spans of steps are kept while a deadline is due, and forgotten when the cascade has ended (log 21). -/
def pruneSpans (s : State) : State :=
  if (dueHead s).isSome then s else { s with auc := { s.auc with spans := [] } }

/-- One deadline handled whole, if one is ready. -/
def handleReady (s : State) : State :=
  match ready s with
  | some d => pruneSpans (handleDeadline d s)
  | none => s

/-- The ready deadline handled only when it carries a tag. -/
def handleTagged (t : Tag) (s : State) : State :=
  match ready s with
  | some d => if d.tag = t then pruneSpans (handleDeadline d s) else s
  | none => s

/-- The cascade: ready deadlines handled one after another, in list order (R97, R99). Each makes one notice, so the free places
of the queue bound their number. -/
def cascade : Nat → State → State
  | 0, s => s
  | n + 1, s => if (ready s).isSome then cascade n (handleReady s) else s

/-- START_DEADLINE (R101). -/
def execStartDeadline (s : State) : Out State := live (handleTagged .start) s
/-- END_DEADLINE (R102, R103). -/
def execEndDeadline (s : State) : Out State := live (handleTagged .end_) s
/-- CUTOFF_DEADLINE (R104). -/
def execCutoffDeadline (s : State) : Out State := live (handleTagged .cutoff) s
/-- DECIDE_LIMIT (R109). -/
def execDecideLimit (s : State) : Out State := live (handleTagged .decideLimit) s

/-! ### Group requests (R98, R106 to R114, R169, R170) -/

/-- The result header of a group request: the group's state and cycle number as they stand (R170). -/
def groupHeader (s : State) (g : Fin 64) : List Field :=
  [⟨2, 1, (group s g).state.code⟩, ⟨3, 2, (group s g).cycle⟩]

/-- A group request refused: the state and cycle found, every other field absent (R170). -/
def refuseGroup (o : ReqOutcome) (g : Fin 64) (s : State) : State := answer o (groupHeader s g) s

/-- An answer that rests on the XT integer of this tick: every outcome but those of a check that comes ahead of the times, and a
refusal for a time that has passed, which a later XT would give as well (R6; log 36). -/
def answerNow (o : ReqOutcome) (fields : List Field) (s : State) : State := answer o fields (readXt s)

/-- A request that makes a notice is taken when the queue has a free place and no deadline is due; until then it stays offered
(R98). -/
def whenRoom (f : State → State) (s : State) : State :=
  if noticeRoom s && (dueHead s).isNone then f s else s

/-- W and default W brought into range (R100). -/
def clampW (w : Nat) : Nat := min windowMax w

/-- The outcome of an accepted request with clamps. -/
def clampedOr (clamped : Bool) : ReqOutcome := if clamped then .clamped else .ok

/-- A SCHEDULE accepted (R100): the group's entry before SCHEDULED or CALL is entered, and whether a clamp applied. -/
def scheduledEntry (v : Group) (p : ScheduleParams) (dflt : Decision) (strict : Bool) : Group × Bool :=
  let e := { v with
    cycle := (v.cycle + 1) % 65536, start := p.start, tEnd := p.tEnd, w := clampW p.w, d := clampNat 1 600 p.d, dflt := dflt,
    dfltE := clampNat 1 3600 p.dfltE, dfltW := clampW p.dfltW, strict := strict, ext := 0, r := none, cutoff := none, limit := none }
  (e, e.w != p.w || e.d != p.d || e.dfltE != p.dfltE || e.dfltW != p.dfltW)

/-- The result of an accepted SCHEDULE (R170, section 10.4). -/
def scheduleResult (s : State) (g : Fin 64) : List Field :=
  let v := group s g
  groupHeader s g ++ [⟨16, 8, v.start⟩, ⟨24, 4, v.w⟩, ⟨28, 4, v.dfltW⟩, ⟨32, 2, v.d⟩, ⟨34, 2, v.dfltE⟩]

/-- A group enters CALL at once, with a CALL_OPEN notice stamped now and an END deadline at T_end (R100, R111). -/
def openCall (g : Fin 64) (v : Group) (s : State) : State :=
  let v' := { v with state := .call, start := s.tsu.xt }
  pushNotice (noticeOf .callOpen g v' noFlags) s.tsu.xt (setGroup g v' (some (v'.tEnd, .end_)) s)

/-- An accepted SCHEDULE. With a start above now the group enters SCHEDULED, which makes no notice, so it is taken at once
(R169; log 15); else it enters CALL and waits for room by R98. -/
def acceptSchedule (g : Fin 64) (p : ScheduleParams) (dflt : Decision) (strict : Bool) (s : State) : State :=
  let e := scheduledEntry (group s g) p dflt strict
  if s.tsu.xt < p.start then
    let s1 := setGroup g { e.1 with state := .scheduled } (some (p.start, .start)) s
    answerNow (clampedOr e.2) (scheduleResult s1 g) s1
  else
    whenRoom (fun s =>
      let s1 := openCall g e.1 s
      answerNow (clampedOr e.2) (scheduleResult s1 g) s1) s

/-- The checks of R100 and what follows. DESIGN CHOICE: a STRICT byte other than 0 or 1 gives BAD_PARAM with the first checks, ahead
of BUSY_GROUP, NOT_SET and PAST (R180; log 42). -/
def takeSchedule (b : List Byte) (s : State) : State :=
  let p := readSchedule b
  if h : p.group < 64 then
    let g : Fin 64 := ⟨p.group, h⟩
    match decisionOf p.dflt, flagOf p.strict with
    | some dflt, some strict =>
      if 2 ^ 63 ≤ p.start ∨ 2 ^ 63 ≤ p.tEnd then answer .badParam [] s
      else if (group s g).state ≠ .idle then refuseGroup .busyGroup g s
      else if s.tsu.state = .unset then refuseGroup .notSet g s
      else if p.tEnd ≤ s.tsu.xt ∨ p.tEnd ≤ p.start then refuseGroup .past g s
      else acceptSchedule g p dflt strict s
    | _, _ => answer .badParam [] s
  else answer .badParam [] s

/-- SCHEDULE (R100). -/
def execSchedule (s : State) : Out State := live (takeRequest 0x10 takeSchedule) s

/-- The result of an accepted AMEND (R170). -/
def amendResult (s : State) (g : Fin 64) : List Field :=
  groupHeader s g ++ [⟨16, 8, (group s g).start⟩, ⟨24, 8, (group s g).tEnd⟩]

/-- AMEND without a move into CALL: the entry and its deadline are replaced and the answer is OK. The result carries the group as it
stands after the tick, at which a due START can still be handled (R101, R170). -/
def amendTo (g : Fin 64) (v : Group) (instant : Nat) (t : Tag) (s : State) : State :=
  let s1 := setGroup g v (some (instant, t)) s
  answerForTick (.group g) (amendResult s1 g) (readXt s1)

/-- The four accepted cases of R111. -/
def acceptAmend (g : Fin 64) (tEnd : Nat) (start : Option Nat) (s : State) : State :=
  let v := { group s g with tEnd := tEnd }
  if v.state = .call then amendTo g v tEnd .end_ s
  else match start with
    | none => amendTo g v v.start .start s
    | some st =>
      if s.tsu.xt < st then amendTo g { v with start := st } st .start s
      else whenRoom (fun s => let s1 := openCall g v s; answerNow .ok (amendResult s1 g) s1) s

/-- The checks of R111 and what follows. DESIGN CHOICE: a new-start flag other than 0 or 1 gives BAD_PARAM with the first checks,
ahead of WRONG_STATE and PAST (R180; log 42). -/
def takeAmend (b : List Byte) (s : State) : State :=
  let p := readAmend b
  if h : p.group < 64 then
    let g : Fin 64 := ⟨p.group, h⟩
    match flagOf p.startFlag with
    | none => answer .badParam [] s
    | some given =>
      let start : Option Nat := if given then some p.start else none
      let v := group s g
      if 2 ^ 63 ≤ p.tEnd ∨ start.any (fun x => decide (2 ^ 63 ≤ x)) then answer .badParam [] s
      else if v.state ≠ .scheduled ∧ v.state ≠ .call then refuseGroup .wrongState g s
      else if v.state = .call ∧ given then refuseGroup .wrongState g s
      else if p.tEnd < v.tEnd ∨ p.tEnd ≤ s.tsu.xt then refuseGroup .past g s
      else if start.any (fun x => decide (p.tEnd ≤ x)) then refuseGroup .past g s
      else acceptAmend g p.tEnd start s
  else answer .badParam [] s

/-- AMEND (R111). -/
def execAmend (s : State) : Out State := live (takeRequest 0x11 takeAmend) s

/-- On entry to IDLE, r, the cutoff and the decide deadline become absent (R95). -/
def Group.idled (v : Group) : Group := { v with state := .idle, r := none, cutoff := none, limit := none }

/-- An accepted CANCEL (R112). From WINDOW the draw appears, in the notice, the AUCTION_DRAW record and the result. -/
def acceptCancel (g : Fin 64) (s : State) : State :=
  let v := group s g
  let fromWindow := decide (v.state = .window)
  let flags := { noFlags with cancelled := fromWindow }
  let s1 := pushNotice (noticeOf .cancel g v flags) s.tsu.xt (setGroup g v.idled none s)
  let s2 := if fromWindow then
      makeEvidence (.auctionDraw g flags v.cycle v.tEnd v.w (v.r.getD 0) (v.cutoff.getD 0)) s1
    else s1
  answerNow .ok (groupHeader s2 g ++
    (if fromWindow then [⟨5, 1, 1⟩, ⟨16, 8, v.cutoff.getD 0⟩, ⟨24, 4, v.r.getD 0⟩] else [])) s2

/-- The checks of R112 and what follows. -/
def takeCancel (b : List Byte) (s : State) : State :=
  if h : byteAt b 16 < 64 then
    let g : Fin 64 := ⟨byteAt b 16, h⟩
    match (group s g).state with
    | .idle | .decide | .closed => refuseGroup .wrongState g s
    | .scheduled | .call | .window => whenRoom (acceptCancel g) s
  else answer .badParam [] s

/-- CANCEL (R112). -/
def execCancel (s : State) : Out State := live (takeRequest 0x12 takeCancel) s

/-- The result of an accepted DECIDE (R170). -/
def decideResult (s : State) (g : Fin 64) : List Field :=
  let v := group s g
  groupHeader s g ++ [⟨5, 1, bit 1 v.limit.isSome⟩, ⟨6, 1, v.ext⟩, ⟨16, 8, v.tEnd⟩, ⟨24, 4, v.w⟩, ⟨28, 8, v.limit.getD 0⟩]

/-- An accepted DECIDE CLOSE (R107). -/
def acceptClose (g : Fin 64) (s : State) : State :=
  let v := { group s g with state := .closed }
  let s1 := pushNotice (noticeOf .close g v noFlags) s.tsu.xt (setGroup g v none s)
  answerNow .ok (decideResult s1 g) s1

/-- An accepted DECIDE EXTEND (R108). -/
def acceptExtend (g : Fin 64) (e w : Nat) (s : State) : State :=
  let v := group s g
  let e' := clampNat 1 3600 e
  let tEnd := fit64 (s.tsu.xt + nsPerSecond * e')
  let v' := { v with
    state := .call, ext := v.ext + 1, tEnd := tEnd, w := clampW w, r := none, cutoff := none, limit := none }
  let s1 := pushNotice (noticeOf .reopen g v' noFlags) s.tsu.xt (setGroup g v' (some (tEnd, .end_)) s)
  answerNow (clampedOr (e' != e || clampW w != w)) (decideResult s1 g) s1

/-- The checks of R106 and what follows. -/
def takeDecide (b : List Byte) (s : State) : State :=
  let p := readDecide b
  if h : p.group < 64 then
    let g : Fin 64 := ⟨p.group, h⟩
    let v := group s g
    match decisionOf p.decision with
    | none => answer .badParam [] s
    | some decision =>
      if v.state ≠ .decide then refuseGroup .wrongState g s
      else if v.limit.any (fun l => decide (l ≤ s.tsu.xt)) then refuseGroup .tooLate g s
      else match decision with
        | .close => whenRoom (acceptClose g) s
        | .extend => if 7 ≤ v.ext then answerNow .extLimit (groupHeader s g) s else whenRoom (acceptExtend g p.e p.w) s
  else answer .badParam [] s

/-- DECIDE_CLOSE: an offered DECIDE that does not name EXTEND is taken (R106, R107; a code that names nothing, log 14). -/
def execDecideClose (s : State) : Out State :=
  live (takeRequest 0x13 fun b s => if (readDecide b).decision = 1 then s else takeDecide b s) s

/-- DECIDE_EXTEND: an offered DECIDE that does not name CLOSE is taken (R106, R108; a code that names nothing, log 14). -/
def execDecideExtend (s : State) : Out State :=
  live (takeRequest 0x13 fun b s => if (readDecide b).decision = 0 then s else takeDecide b s) s

/-- An accepted CLEAR (R113). The notice carries the closed cycle's values. -/
def acceptClear (g : Fin 64) (s : State) : State :=
  let v := group s g
  let s1 := pushNotice (noticeOf .clear g v noFlags) s.tsu.xt (setGroup g v.idled none s)
  answerNow .ok (groupHeader s1 g) s1

/-- The checks of R113 and what follows. -/
def takeClear (b : List Byte) (s : State) : State :=
  if h : byteAt b 16 < 64 then
    let g : Fin 64 := ⟨byteAt b 16, h⟩
    if (group s g).state ≠ .closed then refuseGroup .wrongState g s else whenRoom (acceptClear g) s
  else answer .badParam [] s

/-- CLEAR (R113). -/
def execClear (s : State) : Out State := live (takeRequest 0x14 takeClear) s

/-- The result of QUERY_GROUP (R114): r and the cutoff are absent in WINDOW (R105). -/
def queryResult (s : State) (g : Fin 64) : List Field :=
  let v := group s g
  let shown := decide (v.state ≠ .window)
  let r := if shown then v.r else none
  let cutoff := if shown then v.cutoff else none
  groupHeader s g ++
    [⟨5, 1, bit 0 r.isSome + bit 1 v.limit.isSome + bit 2 (decide (v.dflt = .extend)) + bit 3 v.strict⟩, ⟨6, 1, v.ext⟩,
     ⟨16, 8, s.tsu.xt⟩, ⟨24, 8, v.start⟩, ⟨32, 8, v.tEnd⟩, ⟨40, 8, cutoff.getD 0⟩, ⟨48, 4, v.w⟩, ⟨52, 4, r.getD 0⟩,
     ⟨56, 4, v.dfltW⟩, ⟨60, 2, v.d⟩, ⟨62, 2, v.dfltE⟩]

/-- QUERY_GROUP taken (R114). DESIGN CHOICE: the state and the cycle it shows are those of its take, as are the fields beside them (R105,
R170; log 45). -/
def takeQueryGroup (b : List Byte) (s : State) : State :=
  if h : byteAt b 16 < 64 then answerNow .ok (queryResult s ⟨byteAt b 16, h⟩) s else answer .badParam [] s

/-- QUERY_GROUP (R114). -/
def execQueryGroup (s : State) : Out State := live (takeRequest 0x15 takeQueryGroup) s

/-- The group request that is offered taken, whatever its kind; without one nothing is taken (R98, R99). -/
def takeGroupRequest (s : State) : State :=
  takeRequest 0x15 takeQueryGroup (takeRequest 0x14 takeClear (takeRequest 0x13 takeDecide
    (takeRequest 0x12 takeCancel (takeRequest 0x11 takeAmend (takeRequest 0x10 takeSchedule s)))))

end Sys2Proof.Machine
end

