-- ==== Sys2Proof/Machine/Taps.lean ====
section
/-! DEFINITION. The tap ports: link events, frames, the port FIFO, QUERY_PORT and the three actions of CONFIG_PORT. -/

namespace Sys2Proof.Machine

/-! ### Ports -/

/-- A port of the part. -/
def port (s : State) (n : Fin 8) : Port := s.taps[n]

/-- A port replaced. -/
def setPort (n : Fin 8) (p : Port) (s : State) : State := { s with taps := s.taps.set n p }

/-- One more recorded, filtered, malformed, lost, or discarded in arming (R71). -/
def PortCounters.addRecorded (c : PortCounters) : PortCounters := { c with recorded := satAdd top64 c.recorded 1 }
def PortCounters.addFiltered (c : PortCounters) : PortCounters := { c with filtered := satAdd top64 c.filtered 1 }
def PortCounters.addMalformed (c : PortCounters) : PortCounters := { c with malformed := satAdd top64 c.malformed 1 }
def PortCounters.addLost (c : PortCounters) : PortCounters := { c with lost := satAdd top64 c.lost 1 }
def PortCounters.addArming (c : PortCounters) : PortCounters := { c with arming := satAdd top64 c.arming 1 }

/-- A frame in progress abandoned and counted as malformed (R62). -/
def Port.abandon (p : Port) : Port :=
  if p.frame.isSome then { p with frame := none, counters := p.counters.addMalformed } else p

/-- A port changed, with the PORT_STATE record of the change (R57). -/
def movePort (n : Fin 8) (p : Port) (s : State) : State :=
  makeEvidence (.portState n (port s n).state p.state) (setPort n p s)

/-! ### Link events (R57) -/

/-- A link-gain event: the indication in every state, and DOWN to UP. -/
def linkGain (n : Fin 8) (s : State) : State :=
  let p := { port s n with present := true }
  match p.state with
  | .down => movePort n { p with state := .up } s
  | .disabled | .up => setPort n p s

/-- LINK_GAIN (R57). A port in reset is DISABLED and updates the indication alone (R74; log 29). -/
def execLinkGain (n : Fin 8) (s : State) : Out State := .next (linkGain n s)

/-- A link-loss event: the indication in every state, and UP to DOWN with a frame in progress abandoned. -/
def linkLoss (n : Fin 8) (s : State) : State :=
  let p := { port s n with present := false }
  match p.state with
  | .up => movePort n { p.abandon with state := .down } s
  | .disabled | .down => setPort n p s

/-- LINK_LOSS (R57; log 29). -/
def execLinkLoss (n : Fin 8) (s : State) : Out State := .next (linkLoss n s)

/-! ### Frames (R60, R62 to R69) -/

/-- Whether a start of frame at a tick is an arming discard (R60). -/
def Port.arming (p : Port) (tick : Nat) : Bool := p.armEnd.any fun e => decide (tick < e)

/-- A start of frame (R60, R62). A port has at most one frame in progress, and a start within one is none (log 34). -/
def startOfFrame (n : Fin 8) (s : State) : State :=
  let p := port s n
  if p.state = .up ∧ p.frame = none then
    if p.arming s.osc.tick then setPort n { p with counters := p.counters.addArming } s
    else setPort n { p with frame := some s.reading } s
  else s

/-- START_OF_FRAME (R62). -/
def execStartOfFrame (n : Fin 8) (s : State) : Out State := live (startOfFrame n) s

/-- The stamp of a frame: the XT integer of its capture less the compensation, and 0 when that is below it (R62). -/
def frameStamp (p : Port) (r : Reading) : Nat := r.xt - p.config.compensation

/-- The last element of a list changed. -/
def mapLast {α : Type} (f : α → α) : List α → List α
  | [] => []
  | [x] => [f x]
  | x :: y :: l => x :: mapLast f (y :: l)

/-- An open GAP entry closed; any other entry as it is (R69). -/
def PortEntry.close (e : PortEntry) : PortEntry :=
  match e.body with
  | .gap lost lastLost _ => { e with body := .gap lost lastLost false }
  | .arrival _ => e

/-- Whether an entry is an open GAP. -/
def PortEntry.isOpenGap (e : PortEntry) : Bool :=
  match e.body with
  | .gap _ _ isOpen => isOpen
  | .arrival _ => false

/-- One more loss taken into a GAP entry (R69). -/
def PortEntry.grow (stamp : Nat) (e : PortEntry) : PortEntry :=
  match e.body with
  | .gap lost _ isOpen => { e with body := .gap (fit64 (lost + 1)) stamp isOpen }
  | .arrival _ => e

/-- Whether the FIFO holds an open GAP entry, which is its newest (section 4.4). -/
def hasOpenGap (fifo : List PortEntry) : Bool := fifo.getLast?.any PortEntry.isOpenGap

/-- The FIFO after a frame is lost (R69). -/
def loseInto (hdr : Header) (capTick : Nat) (fifo : List PortEntry) : List PortEntry :=
  if hasOpenGap fifo then mapLast (PortEntry.grow hdr.stamp) fifo
  else fifo ++ [{ hdr := hdr, capTick := capTick, body := .gap 1 hdr.stamp true }]

/-- A frame accepted for recording enters the FIFO, or is lost and reported (R68, R69). -/
def enterFifo (n : Fin 8) (hdr : Header) (capTick : Nat) (a : Arrival) (p : Port) (s : State) : State :=
  if p.fifo.length < fifoPlaces - 1 then
    setPort n { p with
      fifo := mapLast PortEntry.close p.fifo ++ [{ hdr := hdr, capTick := capTick, body := .arrival a }]
      counters := p.counters.addRecorded } s
  else
    onAcc Accum.noteLost
      (setPort n { p with fifo := loseInto hdr capTick p.fifo, counters := p.counters.addLost } s)

/-- The end of a frame with its capture: the length check, the keys and the class, the filter, the FIFO (R63 to R68). -/
def finishFrame (n : Fin 8) (r : Reading) (frame : List Byte) (p : Port) (s : State) : State :=
  if frame.length < 64 ∨ 9216 < frame.length then setPort n { p with counters := p.counters.addMalformed } s
  else
    let a := arrivalOf p.config frame
    if p.config.filter.records a.kind then enterFifo n (r.header (frameStamp p r)) r.tick a p s
    else setPort n { p with counters := p.counters.addFiltered } s

/-- An end of frame; with no frame in progress it is ignored (R62). -/
def endOfFrame (n : Fin 8) (frame : List Byte) (s : State) : State :=
  match (port s n).frame with
  | none => s
  | some r => finishFrame n r frame { port s n with frame := none } s

/-- END_OF_FRAME (R63). -/
def execEndOfFrame (n : Fin 8) (frame : List Byte) (s : State) : Out State := live (endOfFrame n frame) s

/-! ### QUERY_PORT (R72) -/

/-- The lost count of an entry that is an open GAP. -/
def openLost (fifo : List PortEntry) : Nat :=
  match fifo.getLast? with
  | some e => (match e.body with
    | .gap lost _ true => lost
    | .gap _ _ false | .arrival _ => 0)
  | none => 0

/-- The result of QUERY_PORT. -/
def portResult (s : State) (n : Fin 8) : List Field :=
  let p := port s n
  let arming := p.arming s.osc.tick
  let c := p.counters
  [⟨2, 1, p.state.code⟩, ⟨3, 1, bit 0 p.present + bit 1 arming + bit 2 (hasOpenGap p.fifo)⟩, ⟨4, 2, p.fifo.length⟩,
   ⟨6, 2, if arming then p.armEnd.getD 0 - s.osc.tick else 0⟩, ⟨16, 8, c.recorded⟩, ⟨24, 8, c.filtered⟩, ⟨32, 8, c.malformed⟩,
   ⟨40, 8, c.lost⟩, ⟨48, 8, c.arming⟩, ⟨56, 4, min 4294967295 (openLost p.fifo)⟩, ⟨60, 4, portCrc n p⟩]

/-- A QUERY_PORT taken. -/
def takeQueryPort (b : List Byte) (s : State) : State :=
  if h : byteAt b 16 < 8 then answer .ok (portResult s ⟨byteAt b 16, h⟩) s else answer .badParam [] s

/-- QUERY_PORT (R72). -/
def execQueryPort (s : State) : Out State := live (takeRequest 0x20 takeQueryPort) s

/-! ### CONFIG_PORT (R58, R59, R61, R171) -/

/-- The action codes of CONFIG_PORT (Formats, Codes). -/
def actionConfigure : Nat := 0
def actionEnable : Nat := 1
def actionDisable : Nat := 2

/-- SETTLE for the compensations of the enabled ports (R77). -/
def settleOf (comps : Vector (Option Nat) 8) : Nat :=
  ticksOfNs (10000 + comps.toList.foldl (fun m c => max m (c.getD 0)) 0)

/-- A port's report to the merge: enabled with its compensation, or disabled (R77). -/
def reportSettle (n : Fin 8) (comp : Option Nat) (s : State) : State :=
  let comps := s.seq.comps.set n comp
  { s with seq := { s.seq with comps := comps, settle := settleOf comps } }

/-- The CONFIG record of a CONFIG_PORT, over the port as it stands after the action (R123, R185). -/
def configPortRecord (n : Fin 8) (action : Nat) (p : Port) (s : State) : State :=
  makeEvidence (.config 0x21 (some (n, action)) (portCrc n p)) s

/-- A refusal that carries the port state (R171). -/
def refusePort (o : ReqOutcome) (p : Port) (s : State) : State := answer o [⟨2, 1, p.state.code⟩] s

/-- The result of an applied action: the port state after it and the CRC. -/
def appliedPort (n : Fin 8) (p : Port) : List Field := [⟨2, 1, p.state.code⟩, ⟨16, 4, portCrc n p⟩]

/-- CONFIGURE: taken in DISABLED, its items checked (R61; the state is checked first, log 23). -/
def configurePort (n : Fin 8) (b : List Byte) (s : State) : State :=
  let p := port s n
  if p.state ≠ .disabled then refusePort .portActive p s
  else match readPortConfig b with
    | none => answer .badParam [] s
    | some (config, clamped) =>
      let p' := { p with config := config }
      answer (clampedOr clamped) (appliedPort n p' ++ [⟨20, 2, config.compensation⟩])
        (configPortRecord n actionConfigure p' (setPort n p' s))

/-- The arming length of a compensation, in ticks (R60). -/
def armingLength (compensation : Nat) : Nat := ticksOfNs (10000 + compensation)

/-- ENABLE: taken in DISABLED (R58). The result carries the port state after the tick, which a link event of the same tick can still
change (R57, R171). -/
def enablePort (n : Fin 8) (s : State) : State :=
  let p := port s n
  if p.state ≠ .disabled then refusePort .wrongState p s
  else
    let p' := { p with
      state := if p.present then .up else .down
      armEnd := some (fit64 (s.osc.tick + armingLength p.config.compensation)) }
    let s1 := reportSettle n (some p.config.compensation) (setPort n p' s)
    answerForTick (.port n) (appliedPort n p')
      (makeEvidence (.portState n .disabled p'.state) (configPortRecord n actionEnable p' s1))

/-- DISABLE: taken in DOWN and UP (R59). -/
def disablePort (n : Fin 8) (s : State) : State :=
  let p := port s n
  if p.state = .disabled then refusePort .wrongState p s
  else
    let p' := { p.abandon with state := .disabled, armEnd := none }
    let s1 := reportSettle n none (setPort n p' s)
    answer .ok (appliedPort n p')
      (makeEvidence (.portState n p.state .disabled) (configPortRecord n actionDisable p' s1))

/-- A CONFIG_PORT taken by the row of one action. A port number above 7 or an action code that names none is refused whichever
row takes it (R58; log 14); a request of another action is left offered. -/
def takeConfigPort (action : Nat) (f : Fin 8 → List Byte → State → State) (b : List Byte) (s : State) : State :=
  if h : byteAt b 16 < 8 then
    if byteAt b 17 = action then f ⟨byteAt b 16, h⟩ b s
    else if 2 < byteAt b 17 then answer .badParam [] s
    else s
  else answer .badParam [] s

/-- CONFIG_PORT_CONFIGURE (R61). -/
def execConfigPortConfigure (s : State) : Out State :=
  live (takeRequest 0x21 (takeConfigPort actionConfigure configurePort)) s

/-- CONFIG_PORT_ENABLE (R58). -/
def execConfigPortEnable (s : State) : Out State :=
  live (takeRequest 0x21 (takeConfigPort actionEnable fun n _ => enablePort n)) s

/-- CONFIG_PORT_DISABLE (R59). -/
def execConfigPortDisable (s : State) : Out State :=
  live (takeRequest 0x21 (takeConfigPort actionDisable fun n _ => disablePort n)) s

end Sys2Proof.Machine
end

