-- ==== Sys2Proof/Machine/Timescale.lean ====
section
/-! DEFINITION. The timescale unit: increment, discipline update, pulse transitions, steps, loss timeouts, the reports of one
step and their order, TICK, SLEW_EXPIRY, SET_TIME and CONFIG_DISCIPLINE. -/

namespace Sys2Proof.Machine

/-! ### Increment, updates, steps (R5, R9, R14) -/

/-- INC for an effective rate E in ppt: BASE plus the rounded correction term (R5). -/
def incOf (e : Int) : Nat := ((baseInc : Int) + roundDiv (baseInc * e) (10 ^ 12)).toNat

/-- INC recomputed from F and P (R5). -/
def Tsu.retune (t : Tsu) : Tsu := { t with inc := incOf (t.f + t.p) }

/-- P to 0 and the slew remaining to 0, INC recomputed (R8). -/
def Tsu.still (t : Tsu) : Tsu := { t with p := 0, slew := .ticks 0 }.retune

/-- P to -SLEW_MAX of the set in force, CONTINUOUS, F kept (R8, R15). -/
def Tsu.holdBack (t : Tsu) : Tsu := { t with p := -(t.set.slewMax : Int), slew := .continuous }.retune

/-- The frequency and phase terms: θ × 1000 divided by a power of two, truncated toward zero (R9). -/
def phaseTerm (theta : Int) (k : Nat) : Int := (1000 * theta).tdiv (2 ^ k)

/-- F before its clamp, for the gain KI (R9). -/
def Tsu.rawF (t : Tsu) (ki : Nat) (theta : Int) : Int := t.f - phaseTerm theta ki

/-- Whether the update clamps F (R7). -/
def Tsu.clampsF (t : Tsu) (ki : Nat) (theta : Int) : Bool :=
  decide (t.rawF ki theta < -fMax) || decide (fMax < t.rawF ki theta)

/-- The discipline update with the gains KP and KI (R9). -/
def Tsu.update (t : Tsu) (kp ki : Nat) (theta : Int) : Tsu :=
  { t with
    f := clampInt (-fMax) fMax (t.rawF ki theta)
    p := clampInt (-(t.set.slewMax : Int)) t.set.slewMax (-(phaseTerm theta kp))
    slew := .ticks slewTicks }.retune

/-- XT stepped forward by S, the fraction unchanged, P 0 (R14). -/
def Tsu.stepBy (t : Tsu) (S : Nat) : Tsu := { t with xt := fit64 (t.xt + S) }.still

/-- A pending discipline set comes into force and ceases to be pending (R10). -/
def Tsu.inForce (t : Tsu) : Tsu :=
  match t.pendingSet with
  | some set => { t with set := set, pendingSet := none }
  | none => t

/-- What a pulse does to the TSU: its new state, whether F was clamped, and the step amount where a step was made. -/
structure Move where
  tsu : Tsu
  freqLimit : Bool
  step : Option Nat
  deriving DecidableEq, Repr

/-- The first setting (R12): step, initial F, good-pulse count 0, ACQUIRING. -/
def Tsu.firstSetting (t : Tsu) (S : Nat) : Move :=
  { tsu := { t with f := t.set.initialF, good := 0, state := .acquiring }.stepBy S, freqLimit := false, step := some S }

/-- A step forward by -θ into ACQUIRING (R13). -/
def Tsu.stepInto (t : Tsu) (theta : Int) : Move :=
  { tsu := { t with good := 0, state := .acquiring }.stepBy (-theta).toNat, freqLimit := false, step := some (-theta).toNat }

/-- An update with the tracking gains into TRACKING (R13). -/
def Tsu.track (t : Tsu) (theta : Int) : Move :=
  { tsu := { t with state := .tracking }.update t.set.kpTrk t.set.kiTrk theta
    freqLimit := t.clampsF t.set.kiTrk theta, step := none }

/-- Held back in SLEWING (R13, R15). -/
def Tsu.slewBack (t : Tsu) : Move :=
  { tsu := { t with state := .slewing }.holdBack, freqLimit := false, step := none }

/-- The ACQUIRING rows of R13: the update, the good-pulse count, and entry to TRACKING when it would reach 4. -/
def Tsu.acquire (t : Tsu) (theta : Int) : Move :=
  let good := if theta.natAbs ≤ t.set.lock then t.good + 1 else 0
  let t1 := t.update t.set.kpAcq t.set.kiAcq theta
  { tsu := if 4 ≤ good then { t1 with good := 0, state := .tracking } else { t1 with good := good }
    freqLimit := t.clampsF t.set.kiAcq theta, step := none }

/-- The transition of an accepted pulse, by state and θ, with the set in force, L and θ already taken (R12, R13). `first` is the
step amount of a first setting. -/
def Tsu.transition (t : Tsu) (theta : Int) (first : Nat) : Move :=
  match t.state with
  | .unset => t.firstSetting first
  | .acquiring => t.acquire theta
  | .slewing =>
    if theta < -(t.set.step : Int) then t.stepInto theta
    else if (t.set.lock : Int) < theta then t.slewBack
    else t.track theta
  | .tracking | .holdover =>
    if theta < -(t.set.step : Int) then t.stepInto theta
    else if (t.set.step : Int) < theta then t.slewBack
    else t.track theta

/-! ### Reports of one step (R11, R21, R38, R53) -/

/-- A report a step makes, in the order its rule fixes. -/
inductive Report where
  /-- FREQ_LIMIT to the accumulator (R7) -/
  | freqLimit
  /-- the acceptance and its θ to the accumulator (R38) -/
  | accepted (theta : Int)
  /-- a change of L (R20) -/
  | leapOffset (old new : Nat)
  /-- a change of the timescale state, with the step amount (R11) -/
  | timescale (old new : TsState) (step : Option Nat)
  /-- the pulse to the divergence monitor (R21) -/
  | pulse (uMod : Nat) (theta : Int)
  /-- the entry to HOLDOVER to the divergence monitor, with U0 (R11, R48) -/
  | holdover (u0 : Nat)
  /-- the reference state GOOD, with the reject run (R40) -/
  | good (run : Nat)
  deriving DecidableEq, Repr

/-- What a report does in the blocks it reaches. A step amount of 2^64 ns or more fits no 8 bytes of its record, and the spec does
not say what they then hold: a free value. DESIGN CHOICE, log 6. -/
def Report.act : Report → State → State
  | .freqLimit, s => onAcc (fun a => { a with freqLimit := true }) s
  | .accepted theta, s => onAcc (Accum.noteAccepted theta) s
  | .leapOffset old new, s => makeEvidence (.leapOffset old new) s
  | .timescale old new step, s => statusEvent (raise .timescaleState (makeEvidence (.timescaleState old new (step.map fit64)) s))
  | .pulse uMod theta, s => evaluatePulse uMod theta s
  | .holdover u0, s => beginHoldover u0 s
  | .good run, s => statusEvent (makeEvidence (.refState .good .accepted .none (some run)) s)

/-- A holdover second that the step has made due, taken ahead of the pulse: it is counted, and evaluated in HOLDOVER, the timescale
state before the step (R14, R50; log 28). -/
def secondBefore (old : TsState) (s : State) : State := if old = .holdover then secondIn old s else s

/-- The reports of a step of XT, with the order in which its cascade (R99), its SUMMARY (R130), a holdover second (R50) and an offered
group request come among them. Whatever the order leaves is done in the end: the reports, then the cascade, then the SUMMARY. Where
the requests of the tick come first, the cascade and the SUMMARY stay due, and the deadline rows and SUMMARY_DUE of the same tick do
them. `old` is the timescale state before the step. Log 9. -/
def runStep (old : TsState) : List Pick → List Report → State → State
  | [], rs, s => summaryStep (cascade noticePlaces (rs.foldl (fun t r => r.act t) s))
  | .report :: ps, [], s => runStep old ps [] s
  | .report :: ps, r :: rs, s => runStep old ps rs (r.act s)
  | .deadline :: ps, rs, s => runStep old ps rs (handleReady s)
  | .summary :: ps, rs, s => runStep old ps rs (summaryStep s)
  | .second :: ps, rs, s => runStep old ps rs (secondBefore old s)
  | .groupRequest :: ps, rs, s => runStep old ps rs (takeGroupRequest s)
  | .request :: _, rs, s => rs.foldl (fun t r => r.act t) s

/-- The reports of a pulse or a SET_TIME; without a step of XT they come in their own order, and no pick acts. DESIGN CHOICE: without a
step no SUMMARY and no other record of the tick comes between them (R119, R126; log 50). -/
def runOrder (step : Option Nat) (old : TsState) (order : List Pick) (rs : List Report) (s : State) : State :=
  match step with
  | some _ => runStep old order rs s
  | none => rs.foldl (fun t r => r.act t) s

/-- The captures a step moves: the pending pulse's and the last accepted pulse's (R14, R36). -/
def Ref.moved (r : Ref) (S : Nat) : Ref :=
  { r with
    pending := r.pending.map fun q => { q with capXt := fit64 (q.capXt + S) }
    last := r.last.map fun l => { l with capXt := l.capXt.map fun x => fit64 (x + S) } }

/-- An XT integer read at a tick, after a step by S at this tick: a reading taken at the tick of a step sees XT after the step
(R6; log 36). -/
def movedReading (now S tick xt : Nat) : Nat := if tick = now then fit64 (xt + S) else xt

/-- A frame in progress whose start fell at this tick reads XT after the step (R6, R62). DESIGN CHOICE: it keeps the timescale state of
its capture; L and class are by R20 and R53 those of the order taken (log 49). -/
def Port.moved (p : Port) (now S : Nat) : Port :=
  { p with frame := p.frame.map fun r => { r with xt := movedReading now S r.tick r.xt } }

/-- A record made at this tick is stamped with XT after the step (R6, R119). DESIGN CHOICE: it keeps the L and the timescale state with
which it was made (log 49). -/
def QueuedEvidence.moved (q : QueuedEvidence) (now S : Nat) : QueuedEvidence :=
  { q with hdr := { q.hdr with stamp := movedReading now S q.capTick q.hdr.stamp } }

/-- A host stamp entry placed at this tick is stamped with XT after the step (R6, R167). DESIGN CHOICE: it keeps the L and the timescale
state with which it was placed (log 49). -/
def StampEntry.moved (e : StampEntry) (now S : Nat) : StampEntry :=
  { e with hdr := { e.hdr with stamp := movedReading now S e.capTick e.hdr.stamp } }

/-- Whether a record is a SUMMARY made at a tick. -/
def QueuedEvidence.endsInterval (now : Nat) (q : QueuedEvidence) : Bool :=
  decide (q.capTick = now) && match q.body with
    | .summary _ _ _ _ => true
    | _ => false

/-- The evidence unit after a step by S: the records made at this tick are restamped, and what was computed at this tick from a stamp
or from XT follows it: the interval start of a SUMMARY (R128), and the next boundary (R127), from the XT integer after the step. -/
def Evu.moved (e : Evu) (now S interval after : Nat) : Evu :=
  { e with
    queue := e.queue.map fun q => q.moved now S
    start := if e.queue.any (·.endsInterval now) then fit64 (e.start + S) else e.start
    boundary := if e.boundaryTick = some now then nextBoundary interval after else e.boundary }

/-- A spell begun or re-based at this tick has the XT integer after the step as its base instant (R48, R49). Its base is of this tick
when it is XT itself, which rises at every tick (R5). -/
def Div.moved (d : Div) (before S : Nat) : Div :=
  { d with base := d.base.map fun b => if b = before then fit64 (b + S) else b }

/-- The readings taken at this tick that the part still holds, and what was computed from them, after a step by S (R6). Log 36. -/
def moveReadings (S : Nat) (s : State) : State :=
  { s with
    div := s.div.moved s.tsu.xt S
    taps := s.taps.map fun p => p.moved s.osc.tick S
    seq := { s.seq with stampSlot := s.seq.stampSlot.map fun e => e.moved s.osc.tick S }
    evu := s.evu.moved s.osc.tick S s.div.trace.interval (fit64 (s.tsu.xt + S)) }

/-- Whether a move would step XT at a tick whose XT integer has gone into an act that keeps no reading (R6). The part takes the step
first, so the move is not of this tick. DESIGN CHOICE, log 36. -/
def Move.tooLate (m : Move) (s : State) : Bool := s.tsu.xtRead && m.step.any fun S => decide (0 < S)

/-- The TSU moved by a pulse or a SET_TIME, with the captures and the readings of this tick moved and the span of the step noted
for STEPPED (R6, R14, R99). -/
def applyMove (m : Move) (s : State) : State :=
  match m.step with
  | none => { s with tsu := m.tsu }
  | some S =>
    pruneSpans { moveReadings S s with
      tsu := m.tsu
      ref := s.ref.moved S
      auc := { s.auc with spans := s.auc.spans ++ [⟨s.tsu.xt, m.tsu.xt⟩] } }

/-! ### TICK and SLEW_EXPIRY (R3, R4, R8) -/

/-- XT after a tick's addition: the fraction's carry passes into the integer (R4). -/
def Tsu.advance (t : Tsu) : Tsu :=
  { t with
    xt := fit64 (t.xt + (t.frac + t.inc) / 2 ^ 32)
    frac := (t.frac + t.inc) % 2 ^ 32
    slew := match t.slew with
      | .ticks (n + 1) => .ticks n
      | other => other }

/-- The result area of a request whose result shows the state after its tick, from the state as it stands (R170, R171). -/
def tickFields (s : State) : TickResult → List Field
  | .port n => appliedPort n (port s n)
  | .group g => amendResult s g

/-- The end of a tick at the request processor: the result that shows the state after the tick takes its final bytes (R170, R171;
log 45). -/
def endTickResult (s : State) : Rqp :=
  match s.rqp.tickResult, s.rqp.phase with
  | some r, .writing _ _ => { (answer .ok (tickFields s r) s).rqp with tickResult := none }
  | _, _ => { s.rqp with tickResult := none }

/-- One tick: the counter adds 1 and XT receives INC; the step of XT, the release and the interrupt message of a tick are open
again, and the result of a request taken at the tick that ends is formed. -/
def tick (s : State) : State :=
  { s with
    rqp := endTickResult s
    osc := { s.osc with tick := fit64 (s.osc.tick + 1) }
    tsu := { s.tsu.advance with xtRead := false }
    seq := { s.seq with released := false }
    arc := { s.arc with messaged := false } }

/-- TICK (R3, R4, R8). -/
def execTick (s : State) : Out State := live tick s

/-- The expiry of P: with the slew remaining at 0, P becomes 0 and INC is recomputed (R8). -/
def slewExpiry (s : State) : State :=
  if s.tsu.slew = .ticks 0 then { s with tsu := s.tsu.still } else s

/-- SLEW_EXPIRY (R8). -/
def execSlewExpiry (s : State) : Out State := live slewExpiry s

/-! ### Loss timeout at the TSU (R16) -/

/-- Whether a loss timeout moves the TSU. -/
def TsState.losesReference : TsState → Bool
  | .acquiring | .tracking | .slewing => true
  | .unset | .holdover => false

/-- The TSU enters HOLDOVER: F kept, P 0, good-pulse count 0 (R16). -/
def Tsu.lose (t : Tsu) : Tsu := { t with state := .holdover, good := 0 }.still

/-- A loss timeout at the TSU, with the reports of R11 and U0 the U of the last evaluation (R48). DESIGN CHOICE: the status block
write of the state change comes first and carries U and class from before the evaluation, since no rule orders the two within
the tick (R53, R140; log 37). -/
def lossAtTsu (s : State) : State :=
  if s.tsu.state.losesReference then
    (Report.holdover s.div.u).act
      ((Report.timescale s.tsu.state .holdover none).act { s with tsu := s.tsu.lose })
  else s

/-! ### SET_TIME (R18, R166) -/

/-- An accepted SET_TIME at the TSU. -/
def Tsu.setTime (t : Tsu) (value : Nat) : Move :=
  let t1 := t.inForce
  { tsu := { t1 with f := t1.set.initialF, state := .holdover }.stepBy (value - t.xt), freqLimit := false,
    step := some (value - t.xt) }

/-- An accepted SET_TIME: the step, the reports, the cascade and the SUMMARY it causes. DESIGN CHOICE: the status block write of the
state change comes before the evaluation (R53, R140; log 37). -/
def acceptSetTime (value u0 : Nat) (order : List Pick) (s : State) : State :=
  let m := s.tsu.setTime value
  runOrder m.step s.tsu.state order [.timescale .unset .holdover m.step, .holdover u0] (applyMove m s)

/-- The checks of R18 and what follows. The result carries the XT integer before any step (R166). DESIGN CHOICE: after a pulse's step of
the same tick, WRONG_STATE carries XT after that step (R6, R19; log 47). A step that cannot be of this tick leaves the request offered
(R6; log 36). -/
def takeSetTime (order : List Pick) (b : List Byte) (s : State) : State :=
  let value := fieldAt b 16 8
  let xt := s.tsu.xt
  if s.tsu.state ≠ .unset then answer .wrongState [⟨2, 1, s.tsu.state.code⟩, ⟨16, 8, xt⟩] s
  else if value ≤ xt then answer .backward [⟨16, 8, xt⟩] s
  else if (s.tsu.setTime value).tooLate s then s
  else answer .ok [⟨16, 8, xt⟩, ⟨24, 8, value - xt⟩] (acceptSetTime value (fieldAt b 24 4) order s)

/-- SET_TIME (R18). -/
def execSetTime (order : List Pick) (s : State) : Out State := live (takeRequest 0x03 (takeSetTime order)) s

/-! ### CONFIG_DISCIPLINE (R10, R173) -/

/-- A CONFIG_DISCIPLINE taken: refused, or the pending set replaced and a CONFIG record made. -/
def takeDiscipline (b : List Byte) (s : State) : State :=
  match checkDiscipline (readDiscipline b) with
  | none => answer .badParam [] s
  | some (set, clamped) =>
    answer (clampedOr clamped) (set.fields 16 ++ [⟨40, 4, set.crc⟩])
      (makeEvidence (.config 0x40 none set.crc) { s with tsu := { s.tsu with pendingSet := some set } })

/-- CONFIG_DISCIPLINE (R10). -/
def execConfigDiscipline (s : State) : Out State := live (takeRequest 0x40 takeDiscipline) s

end Sys2Proof.Machine
end

