-- ==== Sys2Proof/Machine/Reference.lean ====
section
/-! DEFINITION. The reference reader: pulse capture, the read and its ends, acceptance and rejection, the loss timer,
CONFIG_REFERENCE. -/

namespace Sys2Proof.Machine

/-! ### Read progress (R26, R32) -/

/-- The read progress as the chapter names it. -/
def BusPhase.progress : BusPhase → ReadProgress
  | .idle => .idle
  | .recovering => .recovering
  | .opening | .transaction | .stopping => .reading

/-- A read begins: a pending reference set comes into force, and the read opens with recovery on an UNSETTLED bus (R26). -/
def Ref.beginRead (r : Ref) : Ref :=
  { r with
    set := r.pendingSet.getD r.set
    pendingSet := none
    phase := match r.bus with
      | .unsettled => .opening
      | .clear => .transaction }

/-- The bus condition a STOP or a recovery leaves (R28, R31, R32). -/
def conditionOf (bothHigh : Bool) : BusCondition := if bothHigh then .clear else .unsettled

/-- A recovery or a STOP ends with a bus condition: the engine returns to IDLE, or begins the read of a pulse that has become
pending meanwhile (R31, R32). -/
def Ref.busFree (r : Ref) (bus : BusCondition) : Ref :=
  if r.pending.isSome then { r with bus := bus }.beginRead else { r with bus := bus, phase := .idle }

/-- A change of the reference reader on the whole state. -/
def onRef (f : Ref → Ref) (s : State) : State := { s with ref := f s.ref }

/-! ### Rejection (R39, R40) -/

/-- A rejected pulse: the reject run, the accumulator, and the change to BAD with its report when the state was GOOD. -/
def rejectPulse (reason : RefReason) (sub : SubReason) (s : State) : State :=
  let s1 := onAcc (Accum.noteRejected reason sub)
    (onRef (fun r => { r with rejectRun := satAdd 65535 r.rejectRun 1, state := .bad }) s)
  match s.ref.state with
  | .bad => s1
  | .good => statusEvent (makeEvidence (.refState .bad reason sub none) s1)

/-- A read that aborts: the pending pulse is rejected UNLABELLED and is pending no more (R29 to R33). -/
def abortRead (sub : SubReason) (s : State) : State :=
  rejectPulse .unlabelled sub (onRef (fun r => { r with pending := none }) s)

/-! ### Pulse capture (R24, R25) -/

/-- Whether a capture at a tick is EARLY against an earlier capture tick (R25). -/
def isEarly (now cap : Nat) : Bool := decide (now ≤ halfSecondTicks + cap)

/-- PULSE_CAPTURE: ignored with reference kind NONE; EARLY; or the pending pulse. A pending pulse whose time limit has passed
awaits its READ_TIMEOUT, and the edge then finds no place (log 35). -/
def pulseCapture (s : State) : State :=
  match s.ref.kind with
  | .noReference => s
  | .pulseAndModule =>
    if s.ref.pending.any (fun q => isEarly s.osc.tick q.capTick) || s.ref.last.any (fun l => isEarly s.osc.tick l.capTick) then
      rejectPulse .early .none s
    else if s.ref.pending.isSome then s
    else onRef (fun r => { r with pending := some ⟨s.tsu.xt, s.osc.tick⟩ }) s

/-- PULSE_CAPTURE (R24). -/
def execPulseCapture (s : State) : Out State := live pulseCapture s

/-- READ_START: with the bus engine idle, the read of the pending pulse begins (R26). -/
def readStart (s : State) : State :=
  if s.ref.phase = .idle ∧ s.ref.pending.isSome then onRef Ref.beginRead s else s

/-- READ_START (R26). -/
def execReadStart (s : State) : Out State := live readStart s

/-! ### Decision of a pulse (R35 to R38) -/

/-- The expected time of a pulse: label × 10^9 + D_ref (R34). -/
def expectedTime (set : RefSet) (label : Nat) : Nat := nsPerSecond * label + set.dRef

/-- The interval check (R36): passed without comparison when there is no last accepted capture XT. -/
def onGrid (set : RefSet) (last : Option Accepted) (capXt label : Nat) : Bool :=
  match last with
  | none => true
  | some l => match l.capXt with
    | none => true
    | some c => decide (((capXt : Int) - (c + nsPerSecond * (label - l.label))).natAbs ≤ set.tolerance)

/-- The five checks in order; the first that fails gives the reason and sub-reason, and none says that the pulse is accepted
(R35). -/
def rejectReason (s : State) (q : Pulse) (w : Window) : Option (RefReason × SubReason) :=
  if w.sum ≠ 0 then some (.badSum, .none)
  else if w.valid = false then some (.noFix, if w.antenna then .antenna else .none)
  else if s.ref.last.any (fun l => decide (w.label ≤ l.label)) then some (.stale, .none)
  else if onGrid s.ref.set s.ref.last q.capXt w.label = false then some (.offGrid, .none)
  else if s.tsu.state = .unset ∧ expectedTime s.ref.set w.label < q.capXt then some (.backward, .none)
  else none

/-- θ of a pulse, as a signed 64-bit value (R38; log 7). -/
def thetaOf (set : RefSet) (q : Pulse) (label : Nat) : Int :=
  wrapSigned64 ((q.capXt : Int) - (expectedTime set label : Int))

/-- What the TSU does at an accepted pulse before its reports (R21, steps 1 to 4). -/
def pulseMove (t : Tsu) (leap : Nat) (theta : Int) (first : Nat) : Move :=
  { t.inForce with leap := leap, theta := theta }.transition theta first

/-- The reports of an accepted pulse, in the order of R21 and R38. DESIGN CHOICE: the acceptance reaches the accumulator before the
records of R21, which R38 does not order against it (R126; log 40). -/
def pulseReports (before : Tsu) (run : Option Nat) (uMod leap : Nat) (theta : Int) (m : Move) : List Report :=
  (if m.freqLimit then [Report.freqLimit] else []) ++ [.accepted theta]
    ++ (if before.leap = leap then [] else [.leapOffset before.leap leap])
    ++ (if before.state = m.tsu.state then [] else [.timescale before.state m.tsu.state m.step])
    ++ [.pulse uMod theta]
    ++ (match run with | some n => [.good n] | none => [])

/-- REF at an acceptance: last accepted pulse, loss timer from the LOSS_COUNT of the set then in force, GOOD, reject run 0, and
the STOP that follows (R38). -/
def Ref.accept (r : Ref) (q : Pulse) (label loss : Nat) : Ref :=
  { r with
    pending := none
    phase := .stopping
    last := some { label := label, capXt := some q.capXt, capTick := q.capTick }
    lossTimer := some (fit64 (q.capTick + ticksPerSecond * loss))
    state := .good
    rejectRun := 0 }

/-- An accepted pulse (R38). A step that cannot be of this tick leaves the transaction to be completed at a later one (R6; log 36).
DESIGN CHOICE: a status block write that the TSU's report of this pulse makes already shows GOOD, since
no rule orders the two within the tick (log 37). -/
def acceptPulse (q : Pulse) (w : Window) (order : List Pick) (s : State) : State :=
  let theta := thetaOf s.ref.set q w.label
  let m := pulseMove s.tsu w.leap theta (expectedTime s.ref.set w.label - q.capXt)
  let run := match s.ref.state with
    | .bad => some s.ref.rejectRun
    | .good => none
  if m.tooLate s then s
  else
    runOrder m.step s.tsu.state order (pulseReports s.tsu run w.uMod w.leap theta m)
      (applyMove m (onRef (fun r => r.accept q w.label m.tsu.set.loss) s))

/-- A pulse decided on its window (R35). -/
def decidePulse (q : Pulse) (w : Window) (order : List Pick) (s : State) : State :=
  match rejectReason s q w with
  | none => acceptPulse q w order s
  | some (reason, sub) => rejectPulse reason sub (onRef (fun r => { r with pending := none, phase := .stopping }) s)

/-- READ_COMPLETE: the transaction's sixteen bytes are the module window, and the pulse is decided at this tick (R28, R35). -/
def readComplete (window : List Byte) (order : List Pick) (s : State) : State :=
  match s.ref.phase, s.ref.pending with
  | .transaction, some q => decidePulse q (readWindow window) order s
  | _, _ => s

/-- READ_COMPLETE (R28). -/
def execReadComplete (window : List Byte) (order : List Pick) (s : State) : Out State := live (readComplete window order) s

/-! ### Aborts and the ends of bus use (R29 to R33) -/

/-- An abort inside the transaction, with the STOP that follows, at a bit where it can come about. -/
def abortTransaction (can : Bool) (sub : SubReason) (s : State) : State :=
  if s.ref.phase = .transaction ∧ s.ref.pending.isSome ∧ can = true then
    abortRead sub (onRef (fun r => { r with phase := .stopping }) s)
  else s

/-- READ_ABORT_MISMATCH (R29). -/
def execReadAbortMismatch (bit : Nat) (s : State) : Out State :=
  live (fun s => abortTransaction (canMismatch s.ref.set bit) .mismatch s) s

/-- READ_ABORT_NACK (R30). -/
def execReadAbortNack (bit : Nat) (s : State) : Out State :=
  live (fun s => abortTransaction (canNack s.ref.set bit) .nack s) s

/-- A clock hold of more than 3,125,000 ticks, by where the bus engine stands (R31, R32): in the transaction it ends the read, and
the bus engine runs the sequence `recovery`; in that sequence or in a STOP it ends the sequence or the STOP. -/
def clockHold (s : State) : State :=
  match s.ref.phase with
  | .idle => s
  | .transaction => abortRead .stuck (onRef (fun r => { r with phase := .recovering }) s)
  | .opening => abortRead .stuck (onRef (fun r => { r with phase := .idle, bus := .unsettled }) s)
  | .recovering | .stopping => onRef (fun r => r.busFree .unsettled) s

/-- CLOCK_HOLD_TIMEOUT (R31). -/
def execClockHoldTimeout (s : State) : Out State := live clockHold s

/-- Whether the pending pulse's 500 ms limit is reached (R33). -/
def readOverdue (s : State) : Bool := s.ref.pending.any fun q => decide (halfSecondTicks + q.capTick ≤ s.osc.tick)

/-- Where the bus engine stands after a TIMEOUT (R33): a transaction ends with a STOP, or with none while the clock line is held
low; a recovery runs on and serves the next read. -/
def Ref.timedOut (r : Ref) (clockHigh : Bool) : Ref :=
  match r.phase with
  | .transaction => if clockHigh then { r with phase := .stopping } else { r with phase := .idle, bus := .unsettled }
  | .opening => { r with phase := .recovering }
  | .recovering | .stopping | .idle => r

/-- READ_TIMEOUT: the read of the pending pulse is not complete at its limit (R33). -/
def readTimeout (clockHigh : Bool) (s : State) : State :=
  if readOverdue s then abortRead .timeout (onRef (fun r => r.timedOut clockHigh) s) else s

/-- READ_TIMEOUT (R33). -/
def execReadTimeout (clockHigh : Bool) (s : State) : Out State := live (readTimeout clockHigh) s

/-- The end of a recovery, when the STOP of the sequence `recovery` has ended: it leads a read to its START or aborts it with
MISMATCH, or frees the bus (R31). That the sequence is not counted bit by bit is log 10. DESIGN CHOICE: an opening recovery that ends
without a clock hold aborts with MISMATCH also when the clock line alone is seen low, which R31 does not name (log 44). -/
def recoveryEnd (bothHigh : Bool) (s : State) : State :=
  match s.ref.phase with
  | .opening =>
    if bothHigh then onRef (fun r => { r with phase := .transaction, bus := .clear }) s
    else abortRead .mismatch (onRef (fun r => { r with phase := .idle, bus := .unsettled }) s)
  | .recovering => onRef (fun r => r.busFree (conditionOf bothHigh)) s
  | .idle | .transaction | .stopping => s

/-- RECOVERY_END (R31). -/
def execRecoveryEnd (bothHigh : Bool) (s : State) : Out State := live (recoveryEnd bothHigh) s

/-- The end of the STOP that follows a decision (R32). -/
def busStopEnd (bothHigh : Bool) (s : State) : State :=
  if s.ref.phase = .stopping then onRef (fun r => r.busFree (conditionOf bothHigh)) s else s

/-- BUS_STOP_END (R32). -/
def execBusStopEnd (bothHigh : Bool) (s : State) : Out State := live (busStopEnd bothHigh) s

/-! ### Loss timer (R40, R41) -/

/-- Whether the loss timer's expiry tick is reached. -/
def lossDue (s : State) : Bool := s.ref.lossTimer.any fun e => decide (e ≤ s.osc.tick)

/-- REF at a loss timeout: the timer stops, and the last accepted pulse loses its capture XT (R41). -/
def Ref.expire (r : Ref) : Ref :=
  { r with lossTimer := none, last := r.last.map fun l => { l with capXt := none } }

/-- The change of the reference state to BAD by a loss (R40). -/
def loseReference (s : State) : State :=
  match s.ref.state with
  | .bad => s
  | .good => statusEvent (makeEvidence (.refState .bad .loss .none none) (onRef (fun r => { r with state := .bad }) s))

/-- LOSS_TIMEOUT: REF, then the TSU with its reports, then the reference state (R41). DESIGN CHOICE: no SUMMARY and no other record of the
tick comes between its reports (R119, R126; log 50). -/
def lossTimeout (s : State) : State := if lossDue s then loseReference (lossAtTsu (onRef Ref.expire s)) else s

/-- LOSS_TIMEOUT (R41). -/
def execLossTimeout (s : State) : Out State := live lossTimeout s

/-! ### CONFIG_REFERENCE (R42, R173) -/

/-- A CONFIG_REFERENCE taken: refused, or the pending set replaced and a CONFIG record made. -/
def takeReference (b : List Byte) (s : State) : State :=
  match s.ref.kind with
  | .noReference => answer .wrongState [] s
  | .pulseAndModule =>
    match readReference b with
    | none => answer .badParam [] s
    | some set =>
      answer .ok (set.fields 16 ++ [⟨40, 4, set.crc⟩])
        (makeEvidence (.config 0x41 none set.crc) (onRef (fun r => { r with pendingSet := some set }) s))

/-- CONFIG_REFERENCE (R42). -/
def execConfigReference (s : State) : Out State := live (takeRequest 0x41 takeReference) s

end Sys2Proof.Machine
end

