-- ==== Sys2Proof/Machine/Merge.lean ====
section
/-! DEFINITION. The sequencing merge and the staging buffers: heads, the choice of R78, gates, verdicts, staging, STAMP. -/

namespace Sys2Proof.Machine

/-! ### Heads (R76, R78) -/

/-- The sources of the merge. -/
inductive Source where
  | notices
  | evidence
  | tap (n : Fin 8)
  | stampSlot
  deriving DecidableEq, Repr

/-- A head: its source, stamp and capture tick. -/
structure Head where
  source : Source
  stamp : Nat
  capTick : Nat
  deriving DecidableEq, Repr

/-- The heads present, in the tie order of R76. -/
def heads (s : State) : List Head :=
  (s.auc.notices.head?.map fun q => ⟨.notices, q.hdr.stamp, q.capTick⟩).toList
    ++ (s.evu.queue.head?.map fun q => ⟨.evidence, q.hdr.stamp, q.capTick⟩).toList
    ++ (List.finRange 8).filterMap (fun n => (port s n).fifo.head?.map fun e => ⟨.tap n, e.hdr.stamp, e.capTick⟩)
    ++ (s.seq.stampSlot.map fun e => ⟨.stampSlot, e.hdr.stamp, e.capTick⟩).toList

/-- The head of least stamp; of equal stamps the first in the tie order (R78). -/
def leastHead : List Head → Option Head
  | [] => none
  | h :: hs => match leastHead hs with
    | none => some h
    | some k => if h.stamp ≤ k.stamp then some h else some k

/-- The head the merge picks at this tick. -/
def picked (s : State) : Option Head := leastHead (heads s)

/-- Whether a head has settled (R78). -/
def settled (s : State) (h : Head) : Bool := decide (h.capTick + s.seq.settle ≤ s.osc.tick)

/-! ### Gates and verdicts (R80, R81) -/

/-- A group's gate after the release of a notice (R80). -/
def Gate.after (g : Gate) (n : Notice) : Gate :=
  match n.kind with
  | .callOpen | .reopen => ⟨.opened, n.cycle⟩
  | .cutoff => ⟨.shut, n.cycle⟩
  | .cancel | .clear => { g with state := .none }
  | .windowOpen | .close => g

/-- The gate table after the release of a notice. -/
def updateGate (n : Notice) (s : State) : State :=
  { s with seq := { s.seq with gates := s.seq.gates.set n.group ((s.seq.gates[n.group]).after n) } }

/-- The verdict and cycle an entry's group gives (R81). -/
def verdictOf (s : State) : Option (Fin 64) → Verdict × Option Nat
  | none => (.noAuction, none)
  | some g =>
    let gate := s.seq.gates[g]
    match gate.state with
    | .none => (.noAuction, none)
    | .opened => (.inTime, some gate.cycle)
    | .shut => (.late, some gate.cycle)

/-! ### Staging (R82 to R87) -/

/-- The number after a number: the counter wraps past its range (section 5.5; log 8). -/
def nextNumber (n : Nat) : Nat := (n + 1) % 2 ^ 64

/-- A record staged at the tail of its stream with the next sequence number (R82). -/
def stage (hdr : Header) (body : RecBody) (s : State) : State :=
  { s with
    stg := { s.stg with
      staged := s.stg.staged.put body.stream
        (s.stg.staged.get body.stream ++ [{ hdr := hdr, seq := s.seq.counter, body := body }]) }
    seq := { s.seq with counter := nextNumber s.seq.counter } }

/-- An ordinary arrival record staged, which closes an open staging GAP (R83, R85). -/
def stageOrdinary (hdr : Header) (body : RecBody) (s : State) : State :=
  stage hdr body { s with stg := { s.stg with openGap := false } }

/-- Whether arrival staging takes an ordinary record (R83). -/
def arrivalRoom (s : State) : Bool := decide (s.stg.staged.arrival.length < arrivalSlots - 1)

/-- Losses folded into a staging GAP (R83). -/
def Record.fold (lost lastLost : Nat) (r : Record) : Record :=
  match r.body with
  | .gap origin n _ => { r with body := .gap origin (fit64 (n + lost)) lastLost }
  | _ => r

/-- Losses taken into the open staging GAP, or into a new one that takes the next number (R83). -/
def stageLoss (hdr : Header) (lost lastLost : Nat) (s : State) : State :=
  if s.stg.openGap then
    { s with stg := { s.stg with
        staged := { s.stg.staged with arrival := mapLast (Record.fold lost lastLost) s.stg.staged.arrival } } }
  else stage hdr (.gap .staging lost lastLost) { s with stg := { s.stg with openGap := true } }

/-- An ARRIVAL released (R81, R83). -/
def releaseArrival (n : Fin 8) (hdr : Header) (a : Arrival) (s : State) : State :=
  if arrivalRoom s then stageOrdinary hdr (.arrival n (verdictOf s a.group).1 (verdictOf s a.group).2 a) s
  else onAcc Accum.noteLost (stageLoss hdr 1 hdr.stamp s)

/-- A port GAP released (R83, R92). -/
def releaseGap (n : Fin 8) (hdr : Header) (lost lastLost : Nat) (s : State) : State :=
  if arrivalRoom s then stageOrdinary hdr (.gap (.port n) lost lastLost) s else stageLoss hdr lost lastLost s

/-- A host stamp released, with the answer to the request that placed it (R84, R167). -/
def releaseStamp (e : StampEntry) (s : State) : State :=
  let waiting := decide (s.rqp.phase = .answering .stamp)
  let cls : Field := ⟨2, 1, e.hdr.cls.code⟩
  let stamp : Field := ⟨16, 8, e.hdr.stamp⟩
  if arrivalRoom s then
    let s1 := stageOrdinary e.hdr (.hostStamp e.event e.tag) s
    if waiting then deliver .ok [cls, stamp, ⟨24, 8, s.seq.counter⟩] s1 else s1
  else if waiting then deliver .suppressed [cls, stamp] s else s

/-- An auction notice released: its gate update stands whether it is staged or dropped (R79, R80, R86). -/
def releaseNotice (q : QueuedNotice) (s : State) : State :=
  let s1 := updateGate q.notice s
  if s.stg.staged.auction.length < auctionSlots then stage q.hdr (.notice q.notice) s1 else onAcc Accum.noteNoticeLost s1

/-- An evidence record released: numbered, chained, staged in its reserved slot, and answered if a MARK waits for it
(R87, R124, R133). -/
def releaseEvidence (q : QueuedEvidence) (s : State) : State :=
  let chain := chainValue s.evu.chain q.hdr s.seq.counter q.body
  let s1 := stage q.hdr (.evidence q.body chain)
    { s with evu := { s.evu with chain := chain }, stg := { s.stg with reserved := s.stg.reserved - 1 } }
  if q.asked ∧ s.rqp.phase = .answering .mark then
    deliver .ok [⟨16, 8, q.hdr.stamp⟩, ⟨24, 8, s.seq.counter⟩] s1
  else s1

/-! ### Release (R78, R79) -/

/-- The head of a source taken from it and released. -/
def takeHead (src : Source) (s : State) : State :=
  match src with
  | .notices => match s.auc.notices with
    | [] => s
    | q :: rest => releaseNotice q { s with auc := { s.auc with notices := rest } }
  | .evidence => match s.evu.queue with
    | [] => s
    | q :: rest => releaseEvidence q { s with evu := { s.evu with queue := rest } }
  | .tap n => match (port s n).fifo with
    | [] => s
    | e :: rest =>
      let s1 := setPort n { port s n with fifo := rest } s
      match e.body with
      | .arrival a => releaseArrival n e.hdr a s1
      | .gap lost lastLost _ => releaseGap n e.hdr lost lastLost s1
  | .stampSlot => match s.seq.stampSlot with
    | none => s
    | some e => releaseStamp e { s with seq := { s.seq with stampSlot := none } }

/-- One release: the picked head, when it has settled, and at most one at each tick (R78); then the starvation rule (R150). -/
def release (s : State) : State :=
  match picked s with
  | some h =>
    if settled s h && !s.seq.released then
      checkStarved (takeHead h.source { s with seq := { s.seq with released := true } })
    else s
  | none => s

/-- MERGE_RELEASE (R78). -/
def execMergeRelease (s : State) : Out State := live release s

/-! ### STAMP (R76, R167) -/

/-- A STAMP is taken when the stamp slot is empty, and stays offered until then. -/
def takeStamp (b : List Byte) (s : State) : State :=
  match s.seq.stampSlot with
  | some _ => s
  | none =>
    await .stamp { s with seq := { s.seq with
      stampSlot := some { hdr := s.reading.header s.tsu.xt, capTick := s.osc.tick, event := fieldAt b 16 2, tag := fieldAt b 8 8 } } }

/-- STAMP (R167). -/
def execStamp (s : State) : Out State := live (takeRequest 0x01 takeStamp) s

end Sys2Proof.Machine
end

