-- ==== Sys2Proof/Machine/Journal.lean ====
section
/-! DEFINITION. The journal writer: bursts, trailers, burst and trailer faults, CUT. -/

namespace Sys2Proof.Machine

/-! ### Segments of a stream (R146, R148) -/

/-- Whether the host-facing side runs: ENABLE is set and no link reset is in progress (R146, R152, R161). -/
def hostOpen (s : State) : Bool := s.arc.enable && s.arc.linkReset.isNone

/-- The base and the capacity of a held segment, from its private copy (R142). -/
def segBase (s : State) (i : Fin 64) : Nat :=
  match s.arc.copies[i] with
  | some c => c.base
  | none => 0
def segCapacity (s : State) (i : Fin 64) : Nat :=
  match s.arc.copies[i] with
  | some c => c.capacity
  | none => 0

/-- A stream's open segment replaced. -/
def Arc.putOpen (a : Arc) (st : Stream) (o : Option OpenSeg) : Arc := { a with openSeg := a.openSeg.put st o }

/-- The oldest lent index of a stream becomes its open segment, with fill 0 and both sequences absent (R146). -/
def openOldest (st : Stream) (s : State) : State :=
  match s.arc.lent.get st with
  | [] => s
  | i :: rest =>
    { s with arc := (({ s.arc with lent := s.arc.lent.put st rest }).putOpen st (some ⟨i, 0, none, none⟩)).hold i .opened }

/-- The open segment of a stream, one being opened if it has none (R146). -/
def withOpen (st : Stream) (s : State) : State := if (s.arc.openSeg.get st).isSome then s else openOldest st s

/-- The write of the part-written fields of an entry. -/
def entryWrite (s : State) (i : Fin 64) (st : EntryState) (reason : SegReason) (fill : Nat) (first last : Option Nat) :
    LinkWrite :=
  cellsFrom (entryAddr s.arc.area i) (entryBytes st reason fill first last)

/-- The open segment enters CLOSING and its trailer is issued (R148, R149). -/
def closeOpen (st : Stream) (seg : OpenSeg) (reason : SegReason) (s : State) : State :=
  let c : ClosingSeg :=
    { index := seg.index, fill := seg.fill, first := seg.first, last := seg.last, reason := reason,
      write := entryWrite s seg.index .filled reason seg.fill seg.first seg.last }
  { s with arc :=
      (({ s.arc with closing := s.arc.closing.put st (s.arc.closing.get st ++ [c]) }).putOpen st none).hold seg.index .closing }

/-! ### Burst start (R146, R147, R152) -/

/-- A journal stream is servable (R146). -/
def servable (s : State) (st : Stream) : Bool :=
  hostOpen s && !(s.stg.staged.get st).isEmpty && ((s.arc.openSeg.get st).isSome || !(s.arc.lent.get st).isEmpty)

/-- The first servable stream in the order AUCTION, EVIDENCE, ARRIVAL (R146). -/
def nextStream (s : State) : Option Stream := [Stream.auction, .evidence, .arrival].find? (servable s)

/-- An open segment after a burst of records: fill, first and last sequence (R147). -/
def OpenSeg.taking (seg : OpenSeg) (records : List Record) : OpenSeg :=
  { index := seg.index, fill := seg.fill + records.length,
    first := seg.first.or (records.head?.map Record.seq), last := (records.getLast?.map Record.seq).or seg.last }

/-- The writes of records to consecutive slots from an address. -/
def recordWrites (addr : Nat) : List Record → List LinkWrite
  | [] => []
  | r :: rs => cellsFrom addr r.bytes :: recordWrites (addr + 64) rs

/-- A burst to the stream's open segment is issued: the records in their slots, then the fill write, which the burst that
fills the segment does not make (R147). DESIGN CHOICE: the fill write's address is that of the AREA held at the burst start (log 48). -/
def sendBurst (st : Stream) (records : List Record) (s : State) : State :=
  match s.arc.openSeg.get st with
  | none => s
  | some seg =>
    let after := seg.taking records
    let fill : List LinkWrite :=
      if segCapacity s seg.index ≤ after.fill then []
      else [entryWrite s seg.index .opened .none after.fill after.first after.last]
    { s with jwr :=
        { phase := .inFlight st, records := records,
          writes := recordWrites (segBase s seg.index + 64 * seg.fill) records ++ fill } }

/-- The number of records a burst takes (R147). -/
def burstCount (s : State) (st : Stream) : Nat :=
  match s.arc.openSeg.get st with
  | some seg => min burstRecords (min (s.stg.staged.get st).length (segCapacity s seg.index - seg.fill))
  | none => 0

/-- A take from the head of a staging; a take that reaches the open staging GAP closes it (R85, R88). -/
def takeStaged (st : Stream) (n : Nat) (s : State) : State :=
  let rest := (s.stg.staged.get st).drop n
  { s with stg := { s.stg with
      staged := s.stg.staged.put st rest
      openGap := s.stg.openGap && !(decide (st = .arrival) && rest.isEmpty) } }

/-- A new burst of a stream. -/
def newBurst (st : Stream) (s : State) : State :=
  let s1 := withOpen st s
  let n := burstCount s1 st
  sendBurst st ((s1.stg.staged.get st).take n) (takeStaged st n s1)

/-- A burst start: a WAITING burst goes first, and while it finds no lent segment there is none (R152); else the first servable
stream (R146). -/
def burstStart (s : State) : State :=
  match s.jwr.phase with
  | .inFlight _ => s
  | .waiting st =>
    if hostOpen s && !(s.arc.lent.get st).isEmpty then sendBurst st s.jwr.records (openOldest st s) else s
  | .empty => match nextStream s with
    | some st => newBurst st s
    | none => s

/-- BURST_START (R146). -/
def execBurstStart (s : State) : Out State := live burstStart s

/-! ### CUT's answer (R174, R175) -/

/-- The result of a CUT: how the segment ended. -/
def cutResult (st : EntryState) (reason : SegReason) (i : Fin 64) (fill : Nat) (first last : Option Nat) : List Field :=
  [⟨2, 1, st.code⟩, ⟨3, 1, reason.code⟩, ⟨4, 1, i.val⟩, ⟨16, 4, fill⟩, ⟨24, 8, first.getD 0⟩, ⟨32, 8, last.getD 0⟩]

/-- The report of how a segment ended, when the slot being run waits for it. -/
def answerCut (w : Wait) (fields : List Field) (s : State) : State :=
  if s.rqp.phase = .answering w then deliver .ok fields s else s

/-- A CUT that waited for the burst now waits for the trailer. -/
def awaitTrailer (st : Stream) (i : Fin 64) (s : State) : State :=
  if s.rqp.phase = .answering (.cutBurst st) then await (.cutTrailer st i) s else s

/-! ### Burst completion (R147, R148, R152) -/

/-- The burst buffer emptied. -/
def emptyBuffer (s : State) : State := { s with jwr := Jwr.cleared }

/-- A closing burst succeeded: the segment enters CLOSING with reason FULL, and no cause bit is set (R147, R148). -/
def burstCloses (st : Stream) (after : OpenSeg) (s : State) : State :=
  awaitTrailer st after.index (closeOpen st after .full (emptyBuffer s))

/-- Another burst succeeded: bookkeeping and the stream's cause bit (R147), and then the close a CUT waits for (R149). -/
def burstFills (st : Stream) (after : OpenSeg) (s : State) : State :=
  let s0 := emptyBuffer s
  let s1 := raise (newCause st) { s0 with arc := s0.arc.putOpen st (some after) }
  if s1.rqp.phase = .answering (.cutBurst st) then awaitTrailer st after.index (closeOpen st after .cut s1) else s1

/-- A burst failed: its segment is FAULTED, and the records wait in the buffer (R152). -/
def burstFails (st : Stream) (seg : OpenSeg) (s : State) : State :=
  let arc := ((s.arc.putOpen st none).putCopy seg.index none).issueEntry seg.index .faulted .burst seg.fill seg.first seg.last
  let s1 := raise .writeFault { s with arc := arc, jwr := { s.jwr with phase := .waiting st, writes := [] } }
  answerCut (.cutBurst st) (cutResult .faulted .burst seg.index seg.fill seg.first seg.last) s1

/-- The completion of the burst in flight. -/
def burstComplete (ok : Bool) (s : State) : State :=
  match s.jwr.phase with
  | .inFlight st =>
    match s.arc.openSeg.get st with
    | none => s
    | some seg =>
      let after := seg.taking s.jwr.records
      checkStarved
        (if ok then
          if segCapacity s seg.index ≤ after.fill then burstCloses st after s else burstFills st after s
        else burstFails st seg s)
  | .empty | .waiting _ => s

/-- BURST_COMPLETE (R147). -/
def execBurstComplete (ok : Bool) (s : State) : Out State := live (burstComplete ok) s

/-! ### Trailers (R148, R153) -/

/-- A closing segment leaves its list and its private copy is discarded. -/
def Arc.release (a : Arc) (st : Stream) (rest : List ClosingSeg) (i : Fin 64) : Arc :=
  { a with closing := a.closing.put st rest }.putCopy i none

/-- The oldest trailer of a stream completes (R148), or reports an error (R153). -/
def trailerComplete (st : Stream) (ok : Bool) (s : State) : State :=
  match s.arc.closing.get st with
  | [] => s
  | c :: rest =>
    let arc := s.arc.release st rest c.index
    if ok then
      answerCut (.cutTrailer st c.index) (cutResult .filled c.reason c.index c.fill c.first c.last)
        (raise (newCause st) (raise .filled { s with arc := arc }))
    else
      answerCut (.cutTrailer st c.index) (cutResult .faulted .trailer c.index c.fill c.first c.last)
        (raise .writeFault { s with arc := arc.issueEntry c.index .faulted .trailer c.fill c.first c.last })

/-- TRAILER_COMPLETE (R148). -/
def execTrailerComplete (st : Stream) (ok : Bool) (s : State) : Out State := live (trailerComplete st ok) s

/-! ### CUT (R149, R174) -/

/-- A CUT taken. -/
def takeCut (b : List Byte) (s : State) : State :=
  match streamOf (byteAt b 16) with
  | none => answer .badParam [] s
  | some st =>
    match s.arc.openSeg.get st with
    | none => answer .streamIdle [] s
    | some seg =>
      if s.jwr.phase = .inFlight st then await (.cutBurst st) s
      else checkStarved (await (.cutTrailer st seg.index) (closeOpen st seg .cut s))

/-- CUT (R174). -/
def execCut (s : State) : Out State := live (takeRequest 0x30 takeCut) s

end Sys2Proof.Machine
end

