-- ==== Sys2Proof/Machine/Area.lean ====
section
/-! DEFINITION. The area controller: the register writes, HAND and its fetch, link resets, the status block and entry writes. -/

namespace Sys2Proof.Machine

/-- A change of the area controller on the whole state. -/
def onArc (f : Arc → Arc) (s : State) : State := { s with arc := f s.arc }

/-! ### AREA and CONTROL (R138, R154, R176) -/

/-- A write to AREA: taken while ENABLE is clear and no link reset is in progress, the low 12 bits as 0. -/
def areaWrite (value : RegWord) (s : State) : State :=
  if s.arc.enable = false ∧ s.arc.linkReset = none then onArc (fun a => { a with area := 4096 * (value.toNat / 4096) }) s else s

/-- AREA_WRITE (R138). -/
def execAreaWrite (value : RegWord) (s : State) : Out State := live (areaWrite value) s

/-- A RUNNING segment that pauses between two slots resumes in READING (R176). -/
def Rqp.resume (r : Rqp) : Rqp := if r.cur.isSome ∧ r.phase = .idle then { r with phase := .reading } else r

/-- ENABLE goes from 0 to 1: a status block write is owed, the RUNNING segment resumes, and episodes may start (R154). -/
def resumeHost (s : State) : State :=
  let s1 := statusEvent s
  checkStarved { s1 with rqp := s1.rqp.resume }

/-- A write to CONTROL with LINK_RESET 0: ENABLE and the mask are replaced, unless a link reset is in progress (R138). -/
def controlWrite (enable : Bool) (value : RegWord) (s : State) : State :=
  if s.arc.linkReset.isSome then s
  else
    let s1 := onArc (fun a => { a with enable := enable, mask := maskOf value }) s
    if enable && !s.arc.enable then resumeHost s1 else s1

/-- ENABLE_SET (R138, R154). -/
def execEnableSet (value : RegWord) (s : State) : Out State := live (controlWrite true value) s

/-- ENABLE_CLEAR (R138, R154). -/
def execEnableClear (value : RegWord) (s : State) : Out State := live (controlWrite false value) s

/-- MASK_WRITE: a CONTROL write that leaves ENABLE as it was (R138). -/
def execMaskWrite (value : RegWord) (s : State) : Out State := live (fun s => controlWrite s.arc.enable value s) s

/-! ### Link reset (R157 to R159, R177, R178) -/

/-- The request processor withdrawn from the host (R177). DESIGN CHOICE: a withdrawn offer and a withdrawn close of a CUT leave the slot
phase IDLE until the link reset takes effect, and a STAMP, a MARK or a CUT in CLOSING leaves it ANSWERING (R178 names IDLE at the
effect alone; log 43). -/
def Rqp.withdraw (r : Rqp) : Rqp :=
  { r with
    withdrawn := r.cur.isSome
    phase := match r.phase with
      | .offered => .idle
      | .answering (.cutBurst _) => .idle
      | other => other }

/-- The HOST_MARK records whose answer is discarded (R124; log 22). -/
def Evu.unask (e : Evu) : Evu := { e with queue := e.queue.map fun q => { q with asked := false } }

/-- A link reset cause: it begins a link reset, or joins the one in progress (R157, R159). A HAND in progress is dropped, with
the writes held back behind it (R143; log 16). -/
def beginLinkReset (causes : LinkCauses) (s : State) : State :=
  match s.arc.linkReset with
  | some c => onArc (fun a => { a with linkReset := some ⟨c.hot || causes.hot, c.soft || causes.soft⟩ }) s
  | none =>
    { s with
      arc := { s.arc with linkReset := some causes, hand := none, handHeld := [] }
      rqp := s.rqp.withdraw
      evu := s.evu.unask }

/-- LINK_RESET: a CONTROL write with LINK_RESET 1; its other fields are discarded (R157). -/
def execLinkReset (_value : RegWord) (s : State) : Out State := live (beginLinkReset ⟨false, true⟩) s

/-- LINK_HOT: a hot or function reset of the link (R157). -/
def execLinkHot (s : State) : Out State := live (beginLinkReset ⟨true, false⟩) s

/-- Whether a burst is in flight. -/
def BurstPhase.busy : BurstPhase → Bool
  | .inFlight _ => true
  | .empty | .waiting _ => false

/-- Whether a slot read or the slot writes are in flight. -/
def SlotPhase.busy : SlotPhase → Bool
  | .reading | .writing _ _ => true
  | .idle | .offered | .answering _ => false

/-- Whether the request processor has a slot access in flight, a write of a segment that an error has ended among them (R157). -/
def Rqp.busy (r : Rqp) : Bool := r.phase.busy || !r.lateWrites.isEmpty

/-- No access to host memory is in flight (R157). -/
def linkQuiet (s : State) : Bool :=
  !s.jwr.phase.busy && s.arc.closing.arrival.isEmpty && s.arc.closing.auction.isEmpty && s.arc.closing.evidence.isEmpty
    && s.arc.status.inFlight.isNone && s.arc.entryWrites.isEmpty && s.arc.handRead.isNone && !s.rqp.busy

/-- Steps 1 and 2 of R158, and the link reset in progress cleared. -/
def Arc.linkCleared (a : Arc) : Arc :=
  { a with
    area := 0, enable := false, mask := 0, cause := 0, lastRefused := 0
    lent := PerStream.const [], requests := [], closing := PerStream.const [], openSeg := PerStream.const none
    starved := PerStream.const false, status := { a.status with due := false }, copies := Vector.replicate 64 none
    hand := none, handHeld := [], linkReset := none }

/-- The request processor abandons its segment (R178). -/
def Rqp.abandon (r : Rqp) : Rqp := { r with cur := none, phase := .idle, done := 0, withdrawn := false }

/-- The causes of a link reset added to those of a pending RESET (R135). -/
def ResetCauses.adding (p : Option ResetCauses) (c : LinkCauses) : ResetCauses :=
  let old := p.getD ⟨false, false, false, false⟩
  { old with linkHot := old.linkHot || c.hot, linkSoft := old.linkSoft || c.soft }

/-- The RESET record of a link reset, made with room or left pending (R135). -/
def linkResetRecord (c : LinkCauses) (s : State) : State :=
  let causes := ResetCauses.adding s.evu.pendingReset c
  if evidenceRoom s then
    pushEvidence (.reset causes s.osc.state) false { s with evu := { s.evu with pendingReset := none } }
  else { s with evu := { s.evu with pendingReset := some causes } }

/-- A link reset takes effect once nothing is in flight (R157, R158). -/
def linkResetTakesEffect (s : State) : State :=
  match s.arc.linkReset with
  | none => s
  | some c =>
    if linkQuiet s then linkResetRecord c { s with arc := s.arc.linkCleared, rqp := s.rqp.abandon } else s

/-- LINK_RESET_TAKES_EFFECT (R158). -/
def execLinkResetTakesEffect (s : State) : Out State := live linkResetTakesEffect s

/-! ### HAND (R139, R143 to R145) -/

/-- A refused HAND: the index is noted, taken as 255 when it is above 255, and HAND_REFUSED is set (R139, R144). -/
def refuseHand (value : Nat) (s : State) : State :=
  raise .handRefused (onArc (fun a => { a with lastRefused := if value < 256 then value else 255 }) s)

/-- A HAND taken: the checks that need no fetch, then the fetch of the entry at its address (R138, R143, R144). -/
def takeHand (value : Nat) (s : State) : State :=
  if h : value < 64 then
    match s.arc.copies[(⟨value, h⟩ : Fin 64)] with
    | some _ => refuseHand value s
    | none => onArc (fun a => { a with hand := some ⟨value, h⟩, handRead := some (entryBase a.area ⟨value, h⟩) }) s
  else refuseHand value s

/-- A write to HAND: taken, held back behind a HAND in progress, or ignored (R139, R143). -/
def handWrite (value : RegWord) (s : State) : State :=
  if hostOpen s then
    match s.arc.hand with
    | some _ => onArc (fun a => { a with handHeld := a.handHeld ++ [value.toNat] }) s
    | none => takeHand value.toNat s
  else s

/-- HAND_WRITE (R143). -/
def execHandWrite (value : RegWord) (s : State) : Out State := live (handWrite value) s

/-- The held-back HAND writes taken in order, until one begins a fetch; those that come to be taken while ENABLE is clear are
ignored (R139, R143; log 16). -/
def takeHeld : List Nat → State → State
  | [], s => onArc (fun a => { a with handHeld := [] }) s
  | v :: rest, s =>
    if hostOpen s then
      let s1 := takeHand v s
      if s1.arc.hand.isSome then onArc (fun a => { a with handHeld := rest }) s1 else takeHeld rest s1
    else onArc (fun a => { a with handHeld := [] }) s

/-- A refusal that writes its reason to the entry (R144). -/
def refuseEntry (i : Fin 64) (reason : SegReason) (s : State) : State :=
  refuseHand i.val (onArc (fun a => a.issueEntry i .refused reason 0 none none) s)

/-- A HAND accepted for a journal stream: LENT at the tail of its lent list, and its starvation episode ends (R145, R150). -/
def acceptJournal (i : Fin 64) (st : Stream) (c : SegCopy) (s : State) : State :=
  onArc (fun a =>
    ({ a with lent := a.lent.put st (a.lent.get st ++ [i]), starved := a.starved.put st false }.putCopy i (some c)).issueEntry i
      .lent .none 0 none none) s

/-- A HAND accepted for requests: QUEUED at the tail of the request queue (R145). -/
def acceptRequests (i : Fin 64) (c : SegCopy) (s : State) : State :=
  onArc (fun a => ({ a with requests := a.requests ++ [i] }.putCopy i (some c)).issueEntry i .queued .none 0 none none) s

/-- The checks of R144 that need the entry, in order: the reason of a refusal, or the private copy (R142, R181). -/
def checkEntry (s : State) (f : EntryFields) : SegReason ⊕ SegCopy :=
  match segKindOf f.kindCode with
  | none => .inl .kind
  | some kind =>
    let capacity := f.capacityLess1 + 1
    if f.capacityLess1 < 15 then .inl .capacity
    else if f.base % 64 ≠ 0 then .inl .align
    else if kind = .request ∧ (f.count = 0 ∨ capacity < f.count) then .inl .count
    else
      let copy := fun held : HeldState =>
        ({ kind := kind, base := f.base, capacity := capacity, count := f.count, tag := f.tag, held := held } : SegCopy)
      match kind with
      | .request => if requestPlaces ≤ s.arc.requests.length then .inl .full else .inr (copy .queued)
      | .journal st => if lentPlaces ≤ (s.arc.lent.get st).length then .inl .full else .inr (copy .lent)

/-- The HAND in progress decided on its entry as read (R144, R145). -/
def decideHand (i : Fin 64) (entry : Option (List Byte)) (s : State) : State :=
  match entry with
  | none => refuseEntry i .fetch s
  | some e => match checkEntry s (readEntry e) with
    | .inl reason => refuseEntry i reason s
    | .inr c => match c.kind with
      | .request => acceptRequests i c s
      | .journal st => acceptJournal i st c s

/-- The read of an entry completes: the HAND in progress is decided and the held-back writes follow; a dropped HAND's read
completes unused (R143). -/
def handFetchComplete (entry : Option (List Byte)) (s : State) : State :=
  if s.arc.handRead.isSome then
    let s1 := onArc (fun a => { a with handRead := none, hand := none }) s
    match s.arc.hand with
    | none => s1
    | some i => checkStarved (takeHeld s1.arc.handHeld (decideHand i entry s1))
  else s

/-- HAND_FETCH_COMPLETE (R144). -/
def execHandFetchComplete (entry : Option (List Byte)) (s : State) : Out State := live (handFetchComplete entry) s

/-! ### CAUSE and the other registers (R139) -/

/-- A write to CAUSE clears each cause bit written as 1. -/
def causeWrite (value : RegWord) (s : State) : State :=
  onArc (fun a => { a with cause := a.cause &&& ~~~(value.extractLsb' 0 11) }) s

/-- CAUSE_WRITE (R139). -/
def execCauseWrite (value : RegWord) (s : State) : Out State := live (causeWrite value) s

/-- OTHER_REGISTER_WRITE: a write to TIME is ignored, and so is one to an address with no writable register (R139). -/
def execOtherRegisterWrite (_value : RegWord) (s : State) : Out State := .next s

/-! ### Completions of the controller's own writes (R140, R141) -/

/-- WRITE_FAULT when a write to host memory reports an error (R141). -/
def noteWrite (ok : Bool) (s : State) : State := if ok then s else raise .writeFault s

/-- The status write in flight has completed; a set due flag is cleared (R140). -/
def Arc.statusDone (a : Arc) : Arc := { a with status := { a.status with inFlight := none, due := false } }

/-- The status write completes: one further write when the due flag is set and the host-facing side runs (R140). -/
def statusWriteComplete (ok : Bool) (s : State) : State :=
  match s.arc.status.inFlight with
  | none => s
  | some _ =>
    let s1 := noteWrite ok (onArc Arc.statusDone s)
    if s.arc.status.due && hostOpen s then issueStatus s1 else s1

/-- STATUS_WRITE_COMPLETE (R140). -/
def execStatusWriteComplete (ok : Bool) (s : State) : Out State := live (statusWriteComplete ok) s

/-- A write of an entry completes (R141). -/
def entryWriteComplete (which : Nat) (ok : Bool) (s : State) : State :=
  if which < s.arc.entryWrites.length then
    noteWrite ok (onArc (fun a => { a with entryWrites := a.entryWrites.eraseIdx which }) s)
  else s

/-- ENTRY_WRITE_COMPLETE (R141). -/
def execEntryWriteComplete (which : Nat) (ok : Bool) (s : State) : Out State := live (entryWriteComplete which ok) s

end Sys2Proof.Machine
end

