-- ==== Sys2Proof/Machine/Requests.lean ====
section
/-! DEFINITION. The request processor: taking a segment, reading and writing its slots, its ends. -/

namespace Sys2Proof.Machine

/-- The head of the request queue taken: RUNNING is written and slot 0 is being read (R161). -/
def takeSegment (i : Fin 64) (s : State) : State :=
  { s with
    rqp := { s.rqp with cur := some i, slot := 0, done := 0, phase := .reading }
    arc := (s.arc.hold i .running).issueEntry i .running .none 0 none none }

/-- A segment is taken when there is no current one, one is queued, and the host-facing side runs (R161). -/
def requestSegmentTake (s : State) : State :=
  match s.rqp.cur, s.arc.requests with
  | none, i :: _ => if hostOpen s then takeSegment i s else s
  | _, _ => s

/-- REQUEST_SEGMENT_TAKE (R161). -/
def execRequestSegmentTake (s : State) : Out State := live requestSegmentTake s

/-- A segment ends: the index leaves the queue, the private copy is discarded, the entry is written and REQ_DONE is set
(R163, R164). -/
def endSegment (i : Fin 64) (st : EntryState) (reason : SegReason) (fill : Nat) (s : State) : State :=
  let arc := { s.arc with requests := s.arc.requests.filter (· ≠ i) }
  raise .reqDone
    { s with
      rqp := { s.rqp with cur := none, phase := .idle }
      arc := (arc.putCopy i none).issueEntry i st reason fill none none }

/-- The current segment ends with a state, a reason and a fill. -/
def endCurrent (st : EntryState) (reason : SegReason) (fill : Nat) (s : State) : State :=
  match s.rqp.cur with
  | some i => endSegment i st reason fill s
  | none => s

/-- The slot phase changed. -/
def setSlotPhase (p : SlotPhase) (s : State) : State := { s with rqp := { s.rqp with phase := p } }

/-- The read of a slot completes: the request is offered, or answered BAD_KIND, or the segment is FAULTED (R162, R164). DESIGN CHOICE:
a read that completes unused after a withdrawal leaves the phase IDLE (R177; log 43). -/
def slotReadComplete (slot : Option (List Byte)) (s : State) : State :=
  if s.rqp.phase = .reading then
    if s.rqp.withdrawn then setSlotPhase .idle s
    else match slot with
      | none => endCurrent .faulted .slotRead s.rqp.done s
      | some bytes =>
        let s1 := { s with rqp := { s.rqp with bytes := bytes } }
        if byteAt bytes 0 ∈ knownKinds then setSlotPhase .offered s1 else answer .badKind [] s1
  else s

/-- SLOT_READ_COMPLETE (R162). -/
def execSlotReadComplete (slot : Option (List Byte)) (s : State) : Out State := live (slotReadComplete slot) s

/-- The request count of the current segment (R142). -/
def slotCount (s : State) : Nat :=
  match s.rqp.cur with
  | some i => (match s.arc.copies[i] with | some c => c.count | none => 0)
  | none => 0

/-- A slot completes: the next slot, the pause of a cleared ENABLE, or DONE (R163, R176). -/
def slotDone (s : State) : State :=
  let done := s.rqp.done + 1
  if done < slotCount s then
    { s with rqp := { s.rqp with done := done, slot := s.rqp.slot + 1, phase := if hostOpen s then .reading else .idle } }
  else endCurrent .done .none done { s with rqp := { s.rqp with done := done } }

/-- The address of the slot read in flight, 64 bytes from it (R162). -/
def slotRead (s : State) : Option Nat := if s.rqp.phase = .reading then some (slotAddr s) else none

/-- The slot writes in flight: those of a segment that an error has ended, and then those of the current slot, each oldest first. -/
def slotWrites (s : State) : List LinkWrite :=
  s.rqp.lateWrites ++ match s.rqp.phase with
    | .writing _ ws => ws
    | .idle | .reading | .offered | .answering _ => []

/-- A write of the current slot completes, with `rest` still in flight. After a withdrawal it changes nothing but the writes in flight
(R177); the last success completes the slot (R162, R163); an error ends the segment FAULTED, and the writes left go on in flight
(R157, R164; log 41). DESIGN CHOICE: once a withdrawn slot has no write in flight its phase is IDLE (log 43), and slots completed stays
as it was (log 46). -/
def currentWriteComplete (o : ReqOutcome) (rest : List LinkWrite) (ok : Bool) (s : State) : State :=
  if s.rqp.withdrawn then noteWrite ok (setSlotPhase (if rest.isEmpty then .idle else .writing o rest) s)
  else if ok then
    if rest.isEmpty then slotDone s else setSlotPhase (.writing o rest) s
  else
    endCurrent .faulted .slotWrite s.rqp.done
      (raise .writeFault { s with rqp := { s.rqp with lateWrites := s.rqp.lateWrites ++ rest } })

/-- One of the slot writes in flight completes, with success or with an error, which sets WRITE_FAULT (R155, R162 to R164, R177).
DESIGN CHOICE: one command per write, the slot's step being that of its last (log 41); no write of a result that its tick still forms
completes within that tick (R170, R171; log 45). -/
def slotWriteComplete (which : Nat) (ok : Bool) (s : State) : State :=
  let late := s.rqp.lateWrites.length
  if which < late then
    noteWrite ok { s with rqp := { s.rqp with lateWrites := s.rqp.lateWrites.eraseIdx which } }
  else match s.rqp.phase with
    | .writing o ws =>
      if which - late < ws.length ∧ s.rqp.tickResult = none then currentWriteComplete o (ws.eraseIdx (which - late)) ok s else s
    | .idle | .reading | .offered | .answering _ => s

/-- SLOT_WRITE_COMPLETE (R163). -/
def execSlotWriteComplete (ended : SlotWrite) (s : State) : Out State := live (slotWriteComplete ended.which ended.ok) s

end Sys2Proof.Machine
end

