-- ==== Sys2Proof/Machine/Dispatch.lean ====
section
/-! DEFINITION. One arm per command: the meaning of each row of spec/opcode_table.json. -/

namespace Sys2Proof.Machine

def exec (i : Instr) (s : State) : Host.Outcome State Fault Refusal :=
  match i with
  | .powerOnReset straps => Sys2Proof.Machine.execPowerOnReset straps s
  | .lockWaitEnd => Sys2Proof.Machine.execLockWaitEnd s
  | .pinReset edge => Sys2Proof.Machine.execPinReset edge s
  | .lockEvent => Sys2Proof.Machine.execLockEvent s
  | .lossOfLock => Sys2Proof.Machine.execLossOfLock s
  | .slewExpiry => Sys2Proof.Machine.execSlewExpiry s
  | .pulseCapture => Sys2Proof.Machine.execPulseCapture s
  | .readStart => Sys2Proof.Machine.execReadStart s
  | .readComplete window order => Sys2Proof.Machine.execReadComplete window order s
  | .readAbortMismatch bit => Sys2Proof.Machine.execReadAbortMismatch bit s
  | .readAbortNack bit => Sys2Proof.Machine.execReadAbortNack bit s
  | .clockHoldTimeout => Sys2Proof.Machine.execClockHoldTimeout s
  | .readTimeout clockHigh => Sys2Proof.Machine.execReadTimeout clockHigh s
  | .recoveryEnd bothHigh => Sys2Proof.Machine.execRecoveryEnd bothHigh s
  | .busStopEnd bothHigh => Sys2Proof.Machine.execBusStopEnd bothHigh s
  | .lossTimeout => Sys2Proof.Machine.execLossTimeout s
  | .holdoverSecond => Sys2Proof.Machine.execHoldoverSecond s
  | .linkGain port => Sys2Proof.Machine.execLinkGain port s
  | .linkLoss port => Sys2Proof.Machine.execLinkLoss port s
  | .startOfFrame port => Sys2Proof.Machine.execStartOfFrame port s
  | .endOfFrame port frame => Sys2Proof.Machine.execEndOfFrame port frame s
  | .mergeRelease => Sys2Proof.Machine.execMergeRelease s
  | .startDeadline => Sys2Proof.Machine.execStartDeadline s
  | .endDeadline => Sys2Proof.Machine.execEndDeadline s
  | .cutoffDeadline => Sys2Proof.Machine.execCutoffDeadline s
  | .decideLimit => Sys2Proof.Machine.execDecideLimit s
  | .summaryDue => Sys2Proof.Machine.execSummaryDue s
  | .pendingReset => Sys2Proof.Machine.execPendingReset s
  | .burstStart => Sys2Proof.Machine.execBurstStart s
  | .burstComplete ok => Sys2Proof.Machine.execBurstComplete ok s
  | .trailerComplete stream ok => Sys2Proof.Machine.execTrailerComplete stream ok s
  | .statusWriteComplete ok => Sys2Proof.Machine.execStatusWriteComplete ok s
  | .entryWriteComplete which ok => Sys2Proof.Machine.execEntryWriteComplete which ok s
  | .areaWrite value => Sys2Proof.Machine.execAreaWrite value s
  | .enableSet value => Sys2Proof.Machine.execEnableSet value s
  | .enableClear value => Sys2Proof.Machine.execEnableClear value s
  | .maskWrite value => Sys2Proof.Machine.execMaskWrite value s
  | .linkReset value => Sys2Proof.Machine.execLinkReset value s
  | .linkHot => Sys2Proof.Machine.execLinkHot s
  | .linkResetTakesEffect => Sys2Proof.Machine.execLinkResetTakesEffect s
  | .handWrite value => Sys2Proof.Machine.execHandWrite value s
  | .handFetchComplete entry => Sys2Proof.Machine.execHandFetchComplete entry s
  | .causeWrite value => Sys2Proof.Machine.execCauseWrite value s
  | .otherRegisterWrite value => Sys2Proof.Machine.execOtherRegisterWrite value s
  | .requestSegmentTake => Sys2Proof.Machine.execRequestSegmentTake s
  | .slotReadComplete slot => Sys2Proof.Machine.execSlotReadComplete slot s
  | .slotWriteComplete ended => Sys2Proof.Machine.execSlotWriteComplete ended s
  | .stamp => Sys2Proof.Machine.execStamp s
  | .mark => Sys2Proof.Machine.execMark s
  | .setTime order => Sys2Proof.Machine.execSetTime order s
  | .schedule => Sys2Proof.Machine.execSchedule s
  | .amend => Sys2Proof.Machine.execAmend s
  | .cancel => Sys2Proof.Machine.execCancel s
  | .decideClose => Sys2Proof.Machine.execDecideClose s
  | .decideExtend => Sys2Proof.Machine.execDecideExtend s
  | .clear => Sys2Proof.Machine.execClear s
  | .queryGroup => Sys2Proof.Machine.execQueryGroup s
  | .queryPort => Sys2Proof.Machine.execQueryPort s
  | .configPortConfigure => Sys2Proof.Machine.execConfigPortConfigure s
  | .configPortEnable => Sys2Proof.Machine.execConfigPortEnable s
  | .configPortDisable => Sys2Proof.Machine.execConfigPortDisable s
  | .cut => Sys2Proof.Machine.execCut s
  | .configDiscipline => Sys2Proof.Machine.execConfigDiscipline s
  | .configReference => Sys2Proof.Machine.execConfigReference s
  | .configTrace => Sys2Proof.Machine.execConfigTrace s
  | .tick => Sys2Proof.Machine.execTick s

end Sys2Proof.Machine
end

