-- ==== Sys2Proof/Safety.lean ====
section
/-! DEFINITION. What always holds of the part: the capacities and the laws the spec states over all states a run reaches; and the
terms the statements are written in. -/

namespace Sys2Proof.Machine

/-- The state t is the one in which the part leaves a power-on reset, by lock or by the end of the lock wait, and at the release of
RESET_N where it is low until then; or a pin reset (R2). -/
def LeftReset (straps : Straps) (s t : State) : Prop :=
  t.osc.phase = .running
    ∧ ((∃ u v, exec (.powerOnReset straps) s = .next u ∧ (exec .lockWaitEnd u = .next v ∨ exec .lockEvent u = .next v)
          ∧ (t = v ∨ exec (.pinReset .rise) v = .next t))
      ∨ (s.osc.phase = .running ∧ ∃ u, exec (.pinReset (.fall straps)) s = .next u ∧ exec (.pinReset .rise) u = .next t))

/-- The part runs and the slot with bytes b, of the request kind given, is offered (R162). -/
def Offered (kind : Nat) (b : List Byte) (s : State) : Prop :=
  s.osc.phase = .running ∧ s.rqp.phase = .offered ∧ s.rqp.bytes = b ∧ byteAt b 0 = kind

/-- The reserved count of evidence staging may differ, and staging is otherwise the same (R87). -/
def Stg.reservedOnly (a b : Stg) : Prop := b = { a with reserved := b.reserved }

/-- The evidence unit may have made records and noted them in its accumulator; its chain value and its interval are as they
were. -/
def Evu.recordedOnly (a b : Evu) : Prop := b = { a with queue := b.queue, acc := b.acc, pendingReset := b.pendingReset }

/-- Reports may have reached the area controller: a write of the status block, a cause bit and its interrupt message; its
registers and segments are as they were. -/
def Arc.reportedOnly (a b : Arc) : Prop :=
  b = { a with status := b.status, cause := b.cause, messages := b.messages, messaged := b.messaged }

/-- What the events of R140 between s and t leave of the status block: nothing while ENABLE is clear or a link reset is in progress;
the due flag while a write is in flight; else the write of the 64 bytes issued at the first event, with the values of the state
`seen` by that event, and the due flag when `again` says that another event came after it. -/
def StatusOwed (seen : State) (again : Bool) (s t : State) : Prop :=
  let runs := s.arc.enable = true ∧ s.arc.linkReset = none
  let counter := (s.arc.status.counter + 1) % 2 ^ 32
  let block : StatusBlock := ⟨seen.tsu.state, seen.osc.state, seen.div.cls, seen.ref.state, seen.tsu.leap, seen.div.u, counter,
    seen.tsu.f, seen.tsu.p, seen.tsu.theta, seen.seq.counter⟩
  (¬runs → t.arc.status = s.arc.status)
    ∧ (runs → s.arc.status.inFlight.isSome → t.arc.status = { s.arc.status with due := true })
    ∧ (runs → s.arc.status.inFlight = none →
      t.arc.status = ⟨some block, counter, again, some (cellsFrom s.arc.area block.bytes)⟩)

/-- What a step of XT by S leaves of the captures, the readings and the spans, t being the state after it: the captures move (R14);
the readings taken at this tick see XT after the step (R6, log 36); and the span is held for STEPPED while a deadline is due (R99,
log 21). The evidence unit follows by `restamped`. -/
def SteppedBy (S : Nat) (s t : State) : Prop :=
  let seen := fun (tick x : Nat) => if tick = s.osc.tick then fit64 (x + S) else x
  (∀ n : Fin 8, port t n = { port s n with frame := (port s n).frame.map fun r => { r with xt := seen r.tick r.xt } })
    ∧ t.seq = { s.seq with stampSlot := s.seq.stampSlot.map fun e =>
        { e with hdr := { e.hdr with stamp := seen e.capTick e.hdr.stamp } } }
    ∧ t.auc = { s.auc with spans :=
        if s.auc.deadlines.head?.any (fun d => decide (d.instant ≤ t.tsu.xt)) then s.auc.spans ++ [⟨s.tsu.xt, t.tsu.xt⟩] else [] }

/-- The evidence unit after a step of XT by S (R6, log 36): a record made at this tick is stamped with XT after the step; where a
SUMMARY is among them, the open interval starts at its stamp (R128); and a boundary computed at this tick is the least whole multiple
of the interval above XT after the step (R127). -/
def restamped (S : Nat) (s : State) : Evu :=
  let ns := 10 ^ 9 * s.div.trace.interval
  { s.evu with
    queue := s.evu.queue.map fun q =>
      { q with hdr := { q.hdr with stamp := if q.capTick = s.osc.tick then fit64 (q.hdr.stamp + S) else q.hdr.stamp } }
    start := if s.evu.queue.any fun q => decide (q.capTick = s.osc.tick ∧ q.body.code = 0x22) then fit64 (s.evu.start + S)
      else s.evu.start
    boundary := if s.evu.boundaryTick = some s.osc.tick then ns * (fit64 (s.tsu.xt + S) / ns + 1) else s.evu.boundary }

/-- The starvation rule after an act of the part, t being the state it leaves and `flags` the starvation flags it found (R150, R151):
the flag of a stream that is starved in t is set, and any other is as found; STARVED is set when a spell begins, and is otherwise as
it was in s. -/
def StarvationNoted (flags : PerStream Bool) (s t : State) : Prop :=
  let starved := fun (st : Stream) => t.arc.enable = true ∧ (t.stg.staged.get st ≠ [] ∨ t.jwr.phase = .waiting st)
    ∧ t.arc.openSeg.get st = none ∧ t.arc.lent.get st = []
  (∀ st, t.arc.starved.get st = true ↔ flags.get st = true ∨ starved st)
    ∧ (t.arc.has .starved = true ↔ s.arc.has .starved = true ∨ ∃ st, starved st ∧ flags.get st = false)

/-- The commands, one after another, lead from s to t. -/
def Follows : List Instr → State → State → Prop
  | [], s, t => t = s
  | c :: cs, s, t => ∃ u, exec c s = .next u ∧ Follows cs u t

/-- The cascade and the SUMMARY of a step lead from t to u: deadline rows, each for one deadline, until no deadline is due or the
notice queue is full, and then SUMMARY_DUE (R99, R130). -/
def CascadedTo (t u : State) : Prop :=
  ∃ (cs : List Instr) (v : State), cs.length ≤ 128
    ∧ (∀ c ∈ cs, c = .startDeadline ∨ c = .endDeadline ∨ c = .cutoffDeadline ∨ c = .decideLimit)
    ∧ Follows cs t v ∧ (128 ≤ v.auc.notices.length ∨ ∀ d, v.auc.deadlines.head? = some d → v.tsu.xt < d.instant)
    ∧ exec .summaryDue v = .next u

/-- A part that is held in reset stands at the reset tables, with the tick counter at 0 (R2, R3). That it stands there before it
leaves reset is the model's choice (log 4). -/
def ResetHeld (s : State) : Prop :=
  s.osc.phase ≠ .running → s.osc.tick = 0 ∧ ∃ straps, clearBlocks straps s = s

/-- Each record of the evidence queue holds one reservation, and held and reserved slots together fit evidence staging
(R87, R120). -/
def EvidenceHeld (s : State) : Prop :=
  s.evu.queue.length = s.stg.reserved ∧ s.evu.queue.length ≤ evidencePlaces
    ∧ s.stg.staged.evidence.length + s.stg.reserved ≤ evidenceSlots

/-- Arrival staging fits its 16,384 slots and fills the last only with an open staging GAP; auction staging fits its 512
(R83, R86). -/
def StagingHeld (s : State) : Prop :=
  s.stg.staged.arrival.length ≤ arrivalSlots
    ∧ (s.stg.openGap = false → s.stg.staged.arrival.length < arrivalSlots)
    ∧ s.stg.staged.auction.length ≤ auctionSlots

/-- Every port FIFO fits its 512 places and fills the last only with an open GAP entry (section 4.4). -/
def FifosHeld (s : State) : Prop :=
  ∀ n : Fin 8, (port s n).fifo.length ≤ fifoPlaces
    ∧ (hasOpenGap (port s n).fifo = false → (port s n).fifo.length < fifoPlaces)

/-- The notice queue, the lent lists, the request queue and the burst buffer fit their places (R98, R144, R147). -/
def QueuesHeld (s : State) : Prop :=
  s.auc.notices.length ≤ noticePlaces ∧ (∀ st : Stream, (s.arc.lent.get st).length ≤ lentPlaces)
    ∧ s.arc.requests.length ≤ requestPlaces ∧ s.jwr.records.length ≤ burstRecords
    ∧ (s.jwr.phase = .empty → s.jwr.records = [])

/-- No segment's fill exceeds its capacity, also when the burst in flight has landed (R146, R147); and the private copies agree with
where the indexes stand: lent, open, closing, queued or in a HAND (R142 to R148, R161). -/
def SegmentsHeld (s : State) : Prop :=
  (∀ st : Stream, (s.arc.lent.get st).Nodup ∧ ∀ i ∈ s.arc.lent.get st,
      ∃ c, s.arc.copies[i] = some c ∧ c.kind = .journal st ∧ c.held = .lent ∧ 16 ≤ c.capacity)
    ∧ (∀ (st : Stream) (seg : OpenSeg), s.arc.openSeg.get st = some seg →
      ∃ c, s.arc.copies[seg.index] = some c ∧ c.kind = .journal st ∧ c.held = .opened ∧ seg.fill ≤ c.capacity
        ∧ (s.jwr.phase = .inFlight st → seg.fill + s.jwr.records.length ≤ c.capacity))
    ∧ (∀ st : Stream, s.jwr.phase = .inFlight st → (s.arc.openSeg.get st).isSome)
    ∧ (∀ st : Stream, ((s.arc.closing.get st).map ClosingSeg.index).Nodup ∧ ∀ x ∈ s.arc.closing.get st,
      ∃ c, s.arc.copies[x.index] = some c ∧ c.kind = .journal st ∧ c.held = .closing ∧ x.fill ≤ c.capacity)
    ∧ (∀ i ∈ s.arc.requests, ∃ c, s.arc.copies[i] = some c ∧ c.kind = .request)
    ∧ (∀ i, s.rqp.cur = some i → i ∈ s.arc.requests)
    ∧ ∀ i, s.arc.hand = some i → s.arc.copies[i] = none

/-- A discipline set within the ranges of R10. -/
def DiscSet.legal (d : DiscSet) : Prop :=
  d.kpAcq ≤ 15 ∧ d.kiAcq ≤ 15 ∧ d.kpTrk ≤ 15 ∧ d.kiTrk ≤ 15 ∧ 10 ≤ d.lock ∧ d.lock ≤ 1000000 ∧ 1000 ≤ d.step
    ∧ d.step ≤ 100000000 ∧ d.lock < d.step ∧ 1 ≤ d.loss ∧ d.loss ≤ 60 ∧ 1000000 ≤ d.slewMax ∧ d.slewMax ≤ 100000000
    ∧ -200000000 ≤ d.initialF ∧ d.initialF ≤ 200000000

/-- The limits of R5, R7, R8 and R10: INC follows F and P and stays in its range, P stays within ±SLEW_MAX of the set in force,
CONTINUOUS goes with SLEWING and P with it at −SLEW_MAX (R15), and the good-pulse count counts in ACQUIRING alone (R13). -/
def RateHeld (s : State) : Prop :=
  s.tsu.inc = incOf (s.tsu.f + s.tsu.p) ∧ -200000000 ≤ s.tsu.f ∧ s.tsu.f ≤ 200000000
    ∧ -(s.tsu.set.slewMax : Int) ≤ s.tsu.p ∧ s.tsu.p ≤ s.tsu.set.slewMax
    ∧ 34349430446 ≤ s.tsu.inc ∧ s.tsu.inc ≤ 34370046290
    ∧ s.tsu.set.legal ∧ (∀ d, s.tsu.pendingSet = some d → d.legal)
    ∧ (s.tsu.slew = .continuous ↔ s.tsu.state = .slewing)
    ∧ (s.tsu.state = .slewing → s.tsu.p = -(s.tsu.set.slewMax : Int))
    ∧ s.tsu.good ≤ 3 ∧ (s.tsu.state ≠ .acquiring → s.tsu.good = 0)

/-- The law of R52: the class in force is never better than the class R51 gives the bound of the last evaluation under the
states and limits in force; and the bound never exceeds 4,294,967,295 ns (R56). -/
def ClassHeld (s : State) : Prop :=
  s.div.cls.rank ≤ (capClass s.tsu.state s.osc.state (rawClass s.div.trace s.div.u)).rank ∧ s.div.u ≤ 4294967295

/-- The deadline a group's state calls for: instant and tag (R95, R96). -/
def Group.deadline (v : Group) : Option (Nat × Tag) :=
  match v.state with
  | .scheduled => some (v.start, .start)
  | .call => some (v.tEnd, .end_)
  | .window => v.cutoff.map fun c => (c, .cutoff)
  | .decide => v.limit.map fun l => (l, .decideLimit)
  | .idle | .closed => none

/-- The fields of a group's entry within their ranges, and the optional ones present as its state says (R95). -/
def Group.legal (v : Group) : Prop :=
  v.cycle < 65536 ∧ v.w ≤ 300000000 ∧ v.dfltW ≤ 300000000 ∧ v.ext ≤ 7 ∧ (∀ r, v.r = some r → r ≤ v.w)
    ∧ match v.state with
      | .idle | .scheduled | .call => v.r = none ∧ v.cutoff = none ∧ v.limit = none
      | .window => v.r.isSome ∧ v.cutoff.isSome ∧ v.limit = none
      | .decide | .closed => v.r.isSome ∧ v.cutoff.isSome ∧ v.limit.isSome

/-- Every group's entry is as R95 gives it, and the deadline list is in order and holds exactly the deadlines the groups' states
call for (R95, R96). -/
def AuctionsHeld (s : State) : Prop :=
  (∀ g : Fin 64, (group s g).legal)
    ∧ s.auc.deadlines.Pairwise (fun a b => a.before b = true)
    ∧ (∀ d ∈ s.auc.deadlines, (group s d.group).deadline = some (d.instant, d.tag))
    ∧ ∀ (g : Fin 64) (i : Nat) (t : Tag), (group s g).deadline = some (i, t) → (⟨i, g, t⟩ : Deadline) ∈ s.auc.deadlines

/-- SETTLE is that of the enabled ports' compensations, which the merge holds as the ports do (R77, section 4.1). -/
def SettleHeld (s : State) : Prop :=
  s.seq.settle = settleOf s.seq.comps ∧ 1250 ≤ s.seq.settle ∧ s.seq.settle ≤ 3298
    ∧ ∀ n : Fin 8, (port s n).config.compensation ≤ 16383
      ∧ s.seq.comps[n] = (if (port s n).state = .disabled then none else some (port s n).config.compensation)

end Sys2Proof.Machine
end

