-- ==== Sys2Proof/Certificates/Slice0/Obligations.lean ====
section
/-! DEFINITION. The statements for the provers, each from the numbered rules of spec/. An equation `t = { s with x := t.x }` is a
frame: it says that t differs from s in x alone. -/

open Sys2Proof Sys2Proof.Machine

/-! ### Steps and resets -/

/-- Every step is the command at the front of the queue, run on the state with the queue's rest; an empty queue idles. That idling
is the model's choice (log 1). -/
def Obligations.step_runs_the_front_command : Prop :=
  (∀ (c : Instr) (rest : List Instr) (s : State), step { s with pending := c :: rest } = exec c { s with pending := rest })
    ∧ ∀ s : State, s.pending = [] → step s = .next s

/-- Every command of every state answers a next state, and none touches the queue of waiting commands. That no command stops the
part is logs 2 and 27. -/
def Obligations.every_command_completes_and_keeps_the_queue : Prop :=
  ∀ (c : Instr) (s : State), ∃ t, exec c s = .next t ∧ t.pending = s.pending

/-- R2, R134: at power-on the oscillator supervisor waits for lock and holds the rest of the part in reset, each block at its
reset table; a RESET_N that is low stays low through the wait; the wait ends by a lock event in LOCKED, or after 100 ms in BACKUP;
the part then leaves reset with its RESET record, or is held until RESET_N is released. How the reset commands divide it is the
model's choice (log 4). -/
def Obligations.power_on_waits_for_lock_and_then_leaves_reset : Prop :=
  (∀ (straps : Straps) (s : State) (low : Bool),
    (low = true ↔ (∃ power, s.osc.phase = .held power) ∨ ∃ seen, s.osc.phase = .lockWait true seen) →
    ∃ t, exec (.powerOnReset straps) s = .next t
    ∧ t.osc = { phase := .lockWait low low, state := .backup, tick := 0 }
    ∧ t.ref.kind = straps.kind ∧ t.ref.strapSpeed = straps.speed ∧ t.ref.set.speed = straps.speed
    ∧ t = { clearBlocks straps s with osc := t.osc })
  ∧ ∀ (s : State) (pinLow pinSeen : Bool), s.osc.phase = .lockWait pinLow pinSeen → s.osc.state = .backup →
    ∀ (c : Instr) (o : OscState), (c = .lockWaitEnd ∧ o = .backup) ∨ (c = .lockEvent ∧ o = .locked) →
    ∃ t, exec c s = .next t ∧ t.osc.state = o
      ∧ (if pinLow then t.osc.phase = .held true ∧ t = { s with osc := t.osc }
        else t.osc = { phase := .running, state := o, tick := 0 }
          ∧ t = { s with osc := t.osc, stg := { s.stg with reserved := 1 },
                         evu := { s.evu with queue := [resetRecord ⟨true, pinSeen, false, false⟩ o] } })

/-- R2, R134: RESET_N low puts a running part into reset, and its release lets it leave; low in a lock wait, it is noted, and
the wait goes on. How the reset commands divide it is the model's choice (log 4). -/
def Obligations.pin_reset_holds_and_releases : Prop :=
  ∀ (straps : Straps) (s : State),
    (s.osc.phase = .running → ∃ t, exec (.pinReset (.fall straps)) s = .next t
      ∧ t.osc = { phase := .held false, state := s.osc.state, tick := 0 } ∧ t = { clearBlocks straps s with osc := t.osc })
    ∧ (∀ power, s.osc.phase = .held power → ∃ t, exec (.pinReset .rise) s = .next t
      ∧ t.osc = { phase := .running, state := s.osc.state, tick := 0 }
      ∧ t = { s with osc := t.osc, stg := { s.stg with reserved := 1 },
                     evu := { s.evu with queue := [resetRecord ⟨power, true, false, false⟩ s.osc.state] } })
    ∧ (∀ low seen, s.osc.phase = .lockWait low seen →
      (∃ t, exec (.pinReset (.fall straps)) s = .next t ∧ t.osc = { s.osc with phase := .lockWait true true }
        ∧ t.ref = Ref.cleared straps ∧ t = { s with osc := t.osc, ref := t.ref })
      ∧ ∃ t, exec (.pinReset .rise) s = .next t ∧ t.osc = { s.osc with phase := .lockWait false seen }
        ∧ t = { s with osc := t.osc })

/-- R22: the values of the OSC and the TSU at the tick the part leaves power-on or pin reset. -/
def Obligations.timescale_values_after_reset : Prop :=
  ∀ (straps : Straps) (s t : State), LeftReset straps s t →
    t.osc.tick = 0 ∧ t.tsu.xt = 0 ∧ t.tsu.frac = 0 ∧ t.tsu.f = 0 ∧ t.tsu.p = 0 ∧ t.tsu.slew = .ticks 0
      ∧ t.tsu.inc = 34359738368 ∧ t.tsu.state = .unset ∧ t.tsu.leap = 0 ∧ t.tsu.good = 0 ∧ t.tsu.theta = 0
      ∧ t.tsu.set = { kpAcq := 1, kiAcq := 3, kpTrk := 2, kiTrk := 6, lock := 1000, step := 50000, loss := 3,
                      slewMax := 100000000, initialF := 0 }
      ∧ t.tsu.pendingSet = none
      ∧ ∃ causes, t.evu.queue = [{ hdr := ⟨0, 0, .none, .unset⟩, capTick := 0, body := .reset causes t.osc.state, asked := false }]

/-- R55, R136, R179: the divergence monitor, the evidence unit and the request processor after reset. The queue of R136 holds the
RESET record that R134 makes at the same tick. -/
def Obligations.divergence_evidence_and_requests_after_reset : Prop :=
  ∀ (straps : Straps) (s t : State), LeftReset straps s t →
    (t.div.u = 4294967295 ∧ t.div.terms = none ∧ t.div.u0 = 0 ∧ t.div.base = none ∧ t.div.secs = 0 ∧ t.div.raw = .none
      ∧ t.div.capped = .none ∧ t.div.cls = .none ∧ t.div.upCount = 0 ∧ t.div.upTarget = none
      ∧ t.div.trace = { limitA := 100000, limitB := 1000000, guardG := 40, rateH := 20, rateBackup := 100000, upgradeHold := 4,
                        interval := 10 })
    ∧ ((∃ r, t.evu.queue = [r]) ∧ t.stg.reserved = 1 ∧ t.evu.chain = 0 ∧ t.evu.start = 0
      ∧ t.evu.boundary = 10000000000 ∧ t.evu.pendingReset = none
      ∧ t.evu.acc = { accepted := 0, rejected := 0, lastReject := none, thetaMin := none, thetaMax := none, uTop := 4294967295,
                      lowest := .none, arrivalsLost := 0, noticesLost := 0, suppressed := 0, freqLimit := false, extended := false })
    ∧ t.rqp.cur = none ∧ t.rqp.slot = 0 ∧ t.rqp.phase = .idle ∧ t.rqp.done = 0 ∧ t.rqp.withdrawn = false

/-- R43, R74, R94, R117, R160: the other blocks after reset, field by field. The link indications and the count of interrupt
messages are kept (logs 3, 18, 31); the image of the status block before its first write is log 17. The fields xtRead, boundaryTick, lateWrites
and tickResult are the model's own (logs 36, 41, 45). -/
def Obligations.other_blocks_after_reset : Prop :=
  ∀ (straps : Straps) (s t : State), LeftReset straps s t →
    (t.ref.kind = straps.kind ∧ t.ref.pending = none ∧ t.ref.phase.progress = .idle ∧ t.ref.bus = .unsettled ∧ t.ref.last = none
      ∧ t.ref.state = .bad ∧ t.ref.rejectRun = 0 ∧ t.ref.lossTimer = none ∧ t.ref.pendingSet = none
      ∧ t.ref.set = { address := 0x3A, register := 0, speed := straps.speed, reduction := 0, dRef := 0, tolerance := 500000 })
    ∧ (∀ n : Fin 8, port t n = {
        state := .disabled, present := (port s n).present, armEnd := none, frame := none, fifo := [], counters := ⟨0, 0, 0, 0, 0⟩
        config := { compensation := 0, sessionAt := none, messageAt := none, groupAt := none, kindAt := none,
                    kindMap := [none, none, none, none], filter := ⟨true, true, true, true⟩, defaultGroup := none } })
    ∧ (t.seq.counter = 0 ∧ t.seq.settle = 1250 ∧ (∀ n : Fin 8, t.seq.comps[n] = none)
      ∧ (∀ g : Fin 64, t.seq.gates[g] = ⟨.none, 0⟩) ∧ t.seq.stampSlot = none ∧ t.seq.released = false)
    ∧ t.stg = { staged := ⟨[], [], []⟩, openGap := false, reserved := 1 }
    ∧ (t.auc.deadlines = [] ∧ t.auc.notices = [] ∧ t.auc.spans = [] ∧ ∀ g : Fin 64, group t g = {
        state := .idle, cycle := 0, start := 0, tEnd := 0, w := 0, r := none, cutoff := none, ext := 0, d := 0, dflt := .close,
        dfltE := 0, dfltW := 0, strict := false, limit := none })
    ∧ (t.arc.area = 0 ∧ t.arc.enable = false ∧ t.arc.mask = 0 ∧ t.arc.cause = 0 ∧ t.arc.lastRefused = 0
      ∧ (∀ i : Fin 64, t.arc.copies[i] = none) ∧ t.arc.lent = ⟨[], [], []⟩ ∧ t.arc.openSeg = ⟨none, none, none⟩
      ∧ t.arc.closing = ⟨[], [], []⟩ ∧ t.arc.requests = [] ∧ t.arc.starved = ⟨false, false, false⟩ ∧ t.arc.hand = none
      ∧ t.arc.handRead = none ∧ t.arc.handHeld = [] ∧ t.arc.entryWrites = [] ∧ t.arc.linkReset = none
      ∧ t.arc.status = { image := none, counter := 0, due := false, inFlight := none }
      ∧ t.arc.messages = s.arc.messages ∧ t.arc.messaged = false)
    ∧ t.jwr = { phase := .empty, records := [], writes := [] }
    ∧ t.tsu.xtRead = false ∧ t.evu.boundaryTick = none ∧ t.rqp.lateWrites = [] ∧ t.rqp.tickResult = none

/-- R1, R2, R49, R53, R140: a lock event in BACKUP or a loss of lock in LOCKED changes the state and records it, re-bases a holdover
spell at the old rate, is evaluated under the new state and reported with it, owes the status block two writes (the evaluation's
and its own), and leaves the tick counter and the timescale as they are; in the other state neither changes anything. While
RESET_N holds the part the supervisor follows both events without a report, and so it does a loss of lock in a lock wait. That the
evaluation's write comes first is log 37; that no SUMMARY comes between the reports, log 50. -/
def Obligations.oscillator_change_is_recorded_and_evaluated : Prop :=
  ∀ (s : State) (c : Instr) (old new : OscState),
    (c = .lockEvent ∧ old = .backup ∧ new = .locked) ∨ (c = .lossOfLock ∧ old = .locked ∧ new = .backup) →
    (s.osc.phase = .running → s.osc.state = old → ∃ t, exec c s = .next t ∧ t.osc = { s.osc with state := new }
      ∧ (let rate := if old = .locked then s.div.trace.rateH else s.div.trace.rateBackup
        let rebased : Div := if s.div.base = none then s.div else
          { s.div with u0 := min 4294967295 (s.div.u0 + rate * s.div.secs), base := some s.tsu.xt, secs := 0 }
        let reported := evaluate { makeEvidence (.oscState new) { s with osc := t.osc } with div := rebased }
        t.div = rebased.evaluate s.tsu.state new ∧ t.evu = reported.evu ∧ t.stg = reported.stg
          ∧ ∀ x, t.arc.has x = reported.arc.has x)
      ∧ (∀ x, x ≠ .classChange → t.arc.has x = s.arc.has x) ∧ StatusOwed t true s t
      ∧ s.evu.recordedOnly t.evu ∧ s.stg.reservedOnly t.stg ∧ s.arc.reportedOnly t.arc
      ∧ t = { s with osc := t.osc, div := t.div, evu := t.evu, stg := t.stg, arc := t.arc })
    ∧ (s.osc.phase = .running → s.osc.state = new → exec c s = .next s)
    ∧ ((∃ power, s.osc.phase = .held power) ∨ (∃ low seen, s.osc.phase = .lockWait low seen) ∧ new = .backup →
      exec c s = .next { s with osc := { s.osc with state := new } })

/-! ### Timescale -/

/-- R3, R4, R8: one tick adds 1 to the tick counter and INC to XT, the carry of the fraction passing into the integer, and a
running slew count falls by 1; at the end of the count P becomes 0 and INC is recomputed, and before it SLEW_EXPIRY does
nothing. The result of an ENABLE or of an AMEND taken at the tick that ends is formed from the port or the group as the tick leaves it
(R170, R171). That an early SLEW_EXPIRY changes nothing is log 2; the tick's flags are logs 18, 19 and 36; that the end of a tick forms
such a result is log 45. -/
def Obligations.tick_adds_inc_to_xt_and_the_slew_ends : Prop :=
  ∀ s : State, s.osc.phase = .running →
    (s.tsu.frac < 2 ^ 32 → s.osc.tick + 1 < 2 ^ 64 → s.tsu.xt * 2 ^ 32 + s.tsu.frac + s.tsu.inc < 2 ^ 96 →
      ∃ t, exec .tick s = .next t ∧ t.osc = { s.osc with tick := s.osc.tick + 1 }
        ∧ t.tsu.xt * 2 ^ 32 + t.tsu.frac = s.tsu.xt * 2 ^ 32 + s.tsu.frac + s.tsu.inc ∧ t.tsu.frac < 2 ^ 32
        ∧ (∀ n, s.tsu.slew = .ticks (n + 1) → t.tsu.slew = .ticks n)
        ∧ (s.tsu.slew = .ticks 0 ∨ s.tsu.slew = .continuous → t.tsu.slew = s.tsu.slew)
        ∧ t.tsu = { s.tsu with xt := t.tsu.xt, frac := t.tsu.frac, slew := t.tsu.slew, xtRead := false }
        ∧ (let ends := fun (fields : List Field) => t.rqp = { (answer .ok fields s).rqp with tickResult := none }
          let writing := ∃ o w, s.rqp.phase = .writing o w
          (s.rqp.tickResult = none ∨ ¬writing → t.rqp = { s.rqp with tickResult := none })
          ∧ (∀ n : Fin 8, s.rqp.tickResult = some (.port n) → writing →
            ends [⟨2, 1, (port s n).state.code⟩, ⟨16, 4, portCrc n (port s n)⟩])
          ∧ ∀ g : Fin 64, s.rqp.tickResult = some (.group g) → writing →
            let v := group s g
            ends [⟨2, 1, v.state.code⟩, ⟨3, 2, v.cycle⟩, ⟨16, 8, v.start⟩, ⟨24, 8, v.tEnd⟩])
        ∧ t = { s with osc := t.osc, tsu := t.tsu, seq := { s.seq with released := false },
                       arc := { s.arc with messaged := false }, rqp := t.rqp })
    ∧ (s.tsu.slew = .ticks 0 → ∃ t, exec .slewExpiry s = .next t ∧ t.tsu.p = 0 ∧ t.tsu.inc = incOf s.tsu.f
      ∧ t.tsu = { s.tsu with p := t.tsu.p, inc := t.tsu.inc } ∧ t = { s with tsu := t.tsu })
    ∧ (s.tsu.slew ≠ .ticks 0 → exec .slewExpiry s = .next s)

/-- R5: INC is BASE plus BASE × E / 10^12 rounded to the nearest integer, and stays in its range. -/
def Obligations.inc_is_rounded_and_in_range : Prop :=
  ∀ e : Int, -300000000 ≤ e → e ≤ 300000000 →
    2 * |10 ^ 12 * ((incOf e : Int) - 34359738368) - 34359738368 * e| ≤ 10 ^ 12
      ∧ 34349430446 ≤ incOf e ∧ incOf e ≤ 34370046290

/-- R9: the discipline update. -/
def Obligations.discipline_update_sets_f_and_p : Prop :=
  ∀ (t : Tsu) (kp ki : Nat) (theta : Int),
    let u := t.update kp ki theta
    u.f = max (-200000000) (min 200000000 (t.f - (1000 * theta).tdiv (2 ^ ki)))
      ∧ u.p = max (-(t.set.slewMax : Int)) (min t.set.slewMax (-((1000 * theta).tdiv (2 ^ kp))))
      ∧ u.slew = .ticks 125000000 ∧ u.inc = incOf (u.f + u.p)
      ∧ u = { t with f := u.f, p := u.p, slew := u.slew, inc := u.inc }

/-- R7, R12, R13: the transition of an accepted pulse by state and θ, once the set in force, L and θ are taken, and whether its
update clamps F and so reports FREQ_LIMIT. The first case is the first setting, with the step amount S; each other one is a row of
R13's table. -/
def Obligations.pulse_transition_follows_the_table : Prop :=
  ∀ (t : Tsu) (theta : Int) (S : Nat),
    let m := t.transition theta S
    let u := m.tsu
    let LOCK : Int := t.set.lock
    let STEP : Int := t.set.step
    let clamps := fun (ki : Nat) => m.freqLimit = true ↔ 200000000 < |t.f - (1000 * theta).tdiv (2 ^ ki)|
    LOCK < STEP →
    (t.state = .unset → u.state = .acquiring ∧ m.step = some S ∧ m.freqLimit = false ∧ u.xt = fit64 (t.xt + S) ∧ u.frac = t.frac
      ∧ u.f = t.set.initialF ∧ u.p = 0 ∧ u.slew = .ticks 0 ∧ u.good = 0 ∧ u.inc = incOf u.f)
    ∧ (t.state = .acquiring → m.step = none ∧ clamps t.set.kiAcq ∧ u.xt = t.xt
      ∧ u.f = (t.update t.set.kpAcq t.set.kiAcq theta).f ∧ u.p = (t.update t.set.kpAcq t.set.kiAcq theta).p
      ∧ u.slew = .ticks 125000000 ∧ u.inc = incOf (u.f + u.p)
      ∧ (|theta| ≤ LOCK → t.good < 3 → u.state = .acquiring ∧ u.good = t.good + 1)
      ∧ (|theta| ≤ LOCK → t.good = 3 → u.state = .tracking ∧ u.good = 0)
      ∧ (LOCK < |theta| → u.state = .acquiring ∧ u.good = 0))
    ∧ (t.state = .tracking ∨ t.state = .holdover → -STEP ≤ theta ∧ theta ≤ STEP →
      u = { t.update t.set.kpTrk t.set.kiTrk theta with state := .tracking } ∧ m.step = none ∧ clamps t.set.kiTrk)
    ∧ (t.state = .slewing → -STEP ≤ theta ∧ theta ≤ LOCK →
      u = { t.update t.set.kpTrk t.set.kiTrk theta with state := .tracking } ∧ m.step = none ∧ clamps t.set.kiTrk)
    ∧ (t.state = .tracking ∨ t.state = .holdover ∨ t.state = .slewing → theta < -STEP →
      u.state = .acquiring ∧ m.step = some (-theta).toNat ∧ m.freqLimit = false ∧ u.xt = fit64 (t.xt + (-theta).toNat)
        ∧ u.frac = t.frac ∧ u.f = t.f ∧ u.p = 0 ∧ u.slew = .ticks 0 ∧ u.good = 0 ∧ u.inc = incOf t.f)
    ∧ ((t.state = .tracking ∨ t.state = .holdover) ∧ STEP < theta ∨ t.state = .slewing ∧ LOCK < theta →
      u.state = .slewing ∧ m.step = none ∧ m.freqLimit = false ∧ u.xt = t.xt ∧ u.f = t.f ∧ u.p = -(t.set.slewMax : Int)
        ∧ u.slew = .continuous ∧ u.inc = incOf (t.f + u.p))
    ∧ u = { t with xt := u.xt, f := u.f, p := u.p, slew := u.slew, inc := u.inc, good := u.good, state := u.state }

/-- R14, R18, R99, R130, R166: SET_TIME in UNSET above XT steps XT to the value and enters HOLDOVER from the declared uncertainty,
with its TIMESCALE_STATE record and its evaluation, and every deadline it has passed and a SUMMARY it has made due stay due for the
commands of the same tick. In another state, or with a value not above XT, it is refused and changes nothing but the slot. The order
of the tick's reports is the command's (log 9): with none picked, the cascade and then the SUMMARY come at once; under every order
the timescale, the bound, the captures and the answer are the same. That the readings of the tick move, and that no step is made at a
tick whose XT an act without a reading has used, is log 36; that the state change's status write precedes the evaluation's, log 37;
that a refusal after a pulse's step of the same tick carries XT after it, log 47. -/
def Obligations.set_time_steps_into_holdover_or_is_refused : Prop :=
  ∀ (s : State) (b : List Byte), Offered 0x03 b s →
    let value := fieldAt b 16 8
    let S := value - s.tsu.xt
    (s.tsu.state = .unset → s.tsu.xt < value → s.tsu.xtRead = false → ∃ t, exec (.setTime [.request]) s = .next t
      ∧ t.tsu.set = s.tsu.pendingSet.getD s.tsu.set ∧ t.tsu.f = t.tsu.set.initialF ∧ t.tsu.inc = incOf t.tsu.f
      ∧ t.tsu = { s.tsu with xt := value, f := t.tsu.f, p := 0, slew := .ticks 0, inc := t.tsu.inc, state := .holdover,
                             set := t.tsu.set, pendingSet := none }
      ∧ t.div.u0 = fieldAt b 24 4 ∧ t.div.u = fieldAt b 24 4 ∧ t.div.base = some value ∧ t.div.secs = 0
      ∧ t.ref = { s.ref with pending := s.ref.pending.map (fun q => { q with capXt := fit64 (q.capXt + S) })
                             last := s.ref.last.map fun l => { l with capXt := l.capXt.map fun x => fit64 (x + S) } }
      ∧ SteppedBy S s t
      ∧ (let made := makeEvidence (.timescaleState .unset .holdover (some S))
            { s with tsu := t.tsu, evu := restamped S s }
        let reported := evaluate { made with div := { s.div with u0 := fieldAt b 24 4, base := some value, secs := 0 } }
        t.div = reported.div ∧ t.evu = reported.evu ∧ t.stg = reported.stg)
      ∧ t.arc.has .timescaleState = true ∧ (∀ x, x ≠ .classChange → x ≠ .timescaleState → t.arc.has x = s.arc.has x)
      ∧ s.arc.reportedOnly t.arc ∧ StatusOwed { t with div := s.div } true s t
      ∧ t.rqp = (answer .ok [⟨16, 8, s.tsu.xt⟩, ⟨24, 8, S⟩] s).rqp
      ∧ t = { s with tsu := t.tsu, div := t.div, ref := t.ref, taps := t.taps, seq := t.seq, auc := t.auc, evu := t.evu,
                     stg := t.stg, arc := t.arc, rqp := t.rqp }
      ∧ (∃ u, exec (.setTime []) s = .next u ∧ CascadedTo t u)
      ∧ ∀ order, ∃ u, exec (.setTime order) s = .next u ∧ u.tsu = t.tsu ∧ u.div = t.div ∧ u.ref = t.ref ∧ u.taps = t.taps
        ∧ u.seq = t.seq ∧ u.rqp = t.rqp)
    ∧ ∀ order, (s.tsu.state ≠ .unset →
        exec (.setTime order) s = .next (answer .wrongState [⟨2, 1, s.tsu.state.code⟩, ⟨16, 8, s.tsu.xt⟩] s))
      ∧ (s.tsu.state = .unset → value ≤ s.tsu.xt → exec (.setTime order) s = .next (answer .backward [⟨16, 8, s.tsu.xt⟩] s))
      ∧ (s.tsu.state = .unset → s.tsu.xt < value → s.tsu.xtRead = true → exec (.setTime order) s = .next s)

/-- R10, R42: CONFIG_DISCIPLINE and CONFIG_REFERENCE. A set within its ranges becomes the pending set, the gains clamped to 15, with a
CONFIG record, OK or CLAMPED; any other is refused, and so is every reference set when the reference kind is NONE. The sets in force,
F and P are untouched. -/
def Obligations.config_discipline_and_reference_set_the_pending_sets : Prop :=
  ∀ (s : State) (b : List Byte),
    (Offered 0x40 b s →
      let d := readDiscipline b
      let c : DiscSet :=
        { d with kpAcq := min 15 d.kpAcq, kiAcq := min 15 d.kiAcq, kpTrk := min 15 d.kpTrk, kiTrk := min 15 d.kiTrk }
      (c.legal → ∃ t, exec .configDiscipline s = .next t ∧ t.tsu = { s.tsu with pendingSet := some c }
        ∧ t.evu = (makeEvidence (.config 0x40 none c.crc) s).evu
        ∧ t.rqp = (answer (if c = d then .ok else .clamped) (c.fields 16 ++ [⟨40, 4, c.crc⟩]) s).rqp
        ∧ s.stg.reservedOnly t.stg ∧ t = { s with tsu := t.tsu, evu := t.evu, stg := t.stg, rqp := t.rqp })
      ∧ (¬c.legal → exec .configDiscipline s = .next (answer .badParam [] s)))
    ∧ (Offered 0x41 b s →
      let legal := 0x08 ≤ byteAt b 16 ∧ byteAt b 16 ≤ 0x77 ∧ byteAt b 18 ≤ 1 ∧ byteAt b 19 ∈ [0, 10, 20, 30]
        ∧ fieldAt b 20 4 ≤ 1000000 ∧ 1000 ≤ fieldAt b 24 4 ∧ fieldAt b 24 4 ≤ 5000000
      let c : RefSet := { address := byteAt b 16, register := byteAt b 17, speed := if byteAt b 18 = 0 then .kHz100 else .kHz400,
                          reduction := byteAt b 19, dRef := fieldAt b 20 4, tolerance := fieldAt b 24 4 }
      (s.ref.kind = .noReference → exec .configReference s = .next (answer .wrongState [] s))
      ∧ (s.ref.kind = .pulseAndModule → legal → ∃ t, exec .configReference s = .next t
        ∧ t.ref = { s.ref with pendingSet := some c } ∧ t.evu = (makeEvidence (.config 0x41 none c.crc) s).evu
        ∧ t.rqp = (answer .ok (c.fields 16 ++ [⟨40, 4, c.crc⟩]) s).rqp
        ∧ s.stg.reservedOnly t.stg ∧ t = { s with ref := t.ref, evu := t.evu, stg := t.stg, rqp := t.rqp })
      ∧ (s.ref.kind = .pulseAndModule → ¬legal → exec .configReference s = .next (answer .badParam [] s)))

/-! ### Reference reader -/

/-- R24 to R26: an edge on REF_PULSE is ignored with reference kind NONE; within 62,500,000 ticks of the pending pulse's or the last
accepted pulse's capture it is rejected EARLY; past both it becomes the pending pulse. -/
def Obligations.pulse_capture_is_early_or_pending : Prop :=
  ∀ s : State, s.osc.phase = .running →
    let early := (∃ q, s.ref.pending = some q ∧ s.osc.tick ≤ 62500000 + q.capTick)
      ∨ ∃ l, s.ref.last = some l ∧ s.osc.tick ≤ 62500000 + l.capTick
    (s.ref.kind = .noReference → exec .pulseCapture s = .next s)
    ∧ (s.ref.kind = .pulseAndModule → early → exec .pulseCapture s = .next (rejectPulse .early .none s))
    ∧ (s.ref.kind = .pulseAndModule → ¬early → s.ref.pending = none →
      ∃ t, exec .pulseCapture s = .next t ∧ t.ref = { s.ref with pending := some ⟨s.tsu.xt, s.osc.tick⟩ }
        ∧ t = { s with ref := t.ref })

/-- R39, R40, R140: what a rejected pulse does. The reject run and the accumulator count it, the state becomes BAD, and a change from
GOOD is recorded and owes a status block write; the pending pulse, the last accepted pulse, the loss timer, the timescale and the
bound stay. -/
def Obligations.rejected_pulse_counts_and_goes_bad : Prop :=
  ∀ (s : State) (reason : RefReason) (sub : SubReason),
    let t := rejectPulse reason sub s
    let acc := { s.evu.acc with rejected := min 65535 (s.evu.acc.rejected + 1), lastReject := some (reason, sub) }
    t.ref = { s.ref with rejectRun := min 65535 (s.ref.rejectRun + 1), state := .bad }
      ∧ (s.ref.state = .bad → t = { s with ref := t.ref, evu := { s.evu with acc := acc } })
      ∧ (s.ref.state = .good →
        (let made : State := makeEvidence (.refState .bad reason sub none) { s with evu := { s.evu with acc := acc } }
         t.evu = made.evu ∧ t.stg = made.stg)
          ∧ s.stg.reservedOnly t.stg ∧ StatusOwed t false s t
          ∧ t = { s with ref := t.ref, evu := t.evu, stg := t.stg, arc := { s.arc with status := t.arc.status } })

/-- R26 to R29, R31, R32: a read begins with its START on a CLEAR bus and with a recovery on an UNSETTLED one, under the pending
reference set; a recovery that opens a read leads to its START when both lines are high; a recovery or a STOP that ends frees
the bus, with the condition it leaves, to IDLE or to the next pending pulse's read. The transaction takes 174 bit periods, and a
recovery nine unsampled clock pulses and a STOP, each bit of the period the set in force gives: a low phase of half the period, rounded
up, then the time the module holds the clock low, and a high phase of the rest. A data or an acknowledge bit is sampled at the start of
the high phase, and the transitions of START and RESTART, from high to low, and of STOP, from low to high, at its end. Which row begins a
waiting read is log 11; that the bits are not counted tick by tick is log 10. -/
def Obligations.reads_begin_and_the_bus_is_freed : Prop :=
  (∀ row ∈ [(Speed.kHz100, 0, 1250), (.kHz100, 10, 1375), (.kHz100, 20, 1500), (.kHz100, 30, 1625), (.kHz400, 0, 313),
      (.kHz400, 10, 344), (.kHz400, 20, 375), (.kHz400, 30, 407)],
    ∀ set : RefSet, set.speed = row.1 → set.reduction = row.2.1 → bitPeriod set = row.2.2
      ∧ lowPhase set = (row.2.2 + 1) / 2 ∧ highPhase set = row.2.2 / 2
      ∧ ∀ held, bitTicks set held = row.2.2 + held ∧ busTicks set (transaction set) held = 174 * row.2.2 + held
        ∧ busTicks set recovery held = 10 * row.2.2 + held
        ∧ (∀ bit : BusBit, bit ∈ [.start, .restart, .stop] → bit.sampledAt set held = some (row.2.2 + held))
        ∧ (∀ bit : BusBit, bit ∈ [.driven true, .driven false, .ackOwed, .moduleData] →
          bit.sampledAt set held = some ((row.2.2 + 1) / 2 + held)))
  ∧ recovery = [.pulse, .pulse, .pulse, .pulse, .pulse, .pulse, .pulse, .pulse, .pulse, .stop]
  ∧ (∀ set : RefSet, (transaction set).length = 174 ∧ (∀ held, BusBit.pulse.sampledAt set held = none)
    ∧ ∀ i, ((transaction set)[i]? = some .start ↔ i = 0) ∧ ((transaction set)[i]? = some .restart ↔ i = 19)
      ∧ ((transaction set)[i]? = some .stop ↔ i = 173))
  ∧ BusBit.start.dataLine = (true, false) ∧ BusBit.restart.dataLine = (true, false) ∧ BusBit.stop.dataLine = (false, true)
  ∧ (∀ b, (BusBit.driven b).dataLine = (b, b)) ∧ BusBit.ackOwed.dataLine = (true, true)
  ∧ BusBit.moduleData.dataLine = (true, true) ∧ BusBit.pulse.dataLine = (true, true)
  ∧ ∀ s : State, s.osc.phase = .running →
    let next := fun (bus : BusCondition) =>
      if s.ref.pending.isSome then
        { s.ref with bus := bus, set := s.ref.pendingSet.getD s.ref.set, pendingSet := none,
                     phase := if bus = .clear then .transaction else .opening }
      else { s.ref with bus := bus, phase := .idle }
    (s.ref.phase = .idle → s.ref.pending.isSome →
      ∃ t, exec .readStart s = .next t ∧ t.ref = next s.ref.bus ∧ t = { s with ref := t.ref })
    ∧ (s.ref.phase = .opening → ∃ t, exec (.recoveryEnd true) s = .next t
      ∧ t.ref = { s.ref with phase := .transaction, bus := .clear } ∧ t = { s with ref := t.ref })
    ∧ (∀ high : Bool, s.ref.phase = .recovering → ∃ t, exec (.recoveryEnd high) s = .next t
      ∧ t.ref = next (if high then .clear else .unsettled) ∧ t = { s with ref := t.ref })
    ∧ (∀ high : Bool, s.ref.phase = .stopping → ∃ t, exec (.busStopEnd high) s = .next t
      ∧ t.ref = next (if high then .clear else .unsettled) ∧ t = { s with ref := t.ref })
    ∧ (s.ref.phase = .recovering ∨ s.ref.phase = .stopping → ∃ t, exec .clockHoldTimeout s = .next t
      ∧ t.ref = next .unsettled ∧ t = { s with ref := t.ref })

/-- R28 to R33: an abort rejects the pending pulse UNLABELLED with its sub-reason, leaves it pending no more, and leaves the bus
engine and the bus condition as the abort's rule says. A mismatch can come at a START, a RESTART or a bit the part drives, and a
missing acknowledge at one of the three the module owes, of the 174 bit periods counted from 0. The rows are the ends of a read
(log 10); a row at another bit changes nothing (log 2); a timeout outside the transaction is log 24; that an opening recovery which
leaves the clock line alone low gives MISMATCH is log 44. -/
def Obligations.read_aborts_reject_the_pending_pulse : Prop :=
  ∀ (s : State) (q : Pulse), s.osc.phase = .running → s.ref.pending = some q →
    let rejected := fun (sub : SubReason) (phase : BusPhase) (bus : BusCondition) =>
      rejectPulse .unlabelled sub { s with ref := { s.ref with pending := none, phase := phase, bus := bus } }
    let checked : Nat → Prop := fun bit => bit ≤ 8 ∨ (10 ≤ bit ∧ bit ≤ 17) ∨ (19 ≤ bit ∧ bit ≤ 27)
      ∨ (37 ≤ bit ∧ bit ≤ 172 ∧ (bit - 37) % 9 = 0)
    let owed : Nat → Prop := fun bit => bit = 9 ∨ bit = 18 ∨ bit = 28
    (∀ bit, s.ref.phase = .transaction →
      (checked bit → exec (.readAbortMismatch bit) s = .next (rejected .mismatch .stopping s.ref.bus))
      ∧ (¬checked bit → exec (.readAbortMismatch bit) s = .next s)
      ∧ (owed bit → exec (.readAbortNack bit) s = .next (rejected .nack .stopping s.ref.bus))
      ∧ (¬owed bit → exec (.readAbortNack bit) s = .next s))
    ∧ (s.ref.phase = .transaction → exec .clockHoldTimeout s = .next (rejected .stuck .recovering s.ref.bus))
    ∧ (s.ref.phase = .opening → exec .clockHoldTimeout s = .next (rejected .stuck .idle .unsettled))
    ∧ (s.ref.phase = .opening → exec (.recoveryEnd false) s = .next (rejected .mismatch .idle .unsettled))
    ∧ (62500000 + q.capTick ≤ s.osc.tick →
      (s.ref.phase = .transaction →
        exec (.readTimeout true) s = .next (rejected .timeout .stopping s.ref.bus)
        ∧ exec (.readTimeout false) s = .next (rejected .timeout .idle .unsettled))
      ∧ ∀ high, s.ref.phase = .opening ∨ s.ref.phase = .recovering →
        exec (.readTimeout high) s = .next (rejected .timeout .recovering s.ref.bus))

/-- R34 to R37, R39: a completed read is checked for sum, fix, order, interval and direction, in that order, and the first failure
gives the reason with which the pulse is rejected; the STOP follows. The fields are those of the module window's sixteen bytes. -/
def Obligations.first_failed_check_rejects_the_pulse : Prop :=
  ∀ (s : State) (q : Pulse) (bytes : List Byte) (order : List Pick),
    s.osc.phase = .running → s.ref.phase = .transaction → s.ref.pending = some q → bytes.length = 16 →
    let valid := (byteAt bytes 0).testBit 0
    let antenna := (byteAt bytes 0).testBit 1
    let label := fieldAt bytes 1 5
    let expected : Int := 10 ^ 9 * label + s.ref.set.dRef
    let rejected := fun (reason : RefReason) (sub : SubReason) =>
      exec (.readComplete bytes order) s
        = .next (rejectPulse reason sub { s with ref := { s.ref with pending := none, phase := .stopping } })
    let stale := ∃ l, s.ref.last = some l ∧ label ≤ l.label
    let offGrid := ∃ l c, s.ref.last = some l ∧ l.capXt = some c
      ∧ (s.ref.set.tolerance : Int) < |(q.capXt : Int) - (c + 10 ^ 9 * (label - l.label))|
    let backward := s.tsu.state = .unset ∧ expected < q.capXt
    ((bytes.map BitVec.toNat).sum % 256 ≠ 0 → rejected .badSum .none)
    ∧ ((bytes.map BitVec.toNat).sum % 256 = 0 →
      (valid = false → rejected .noFix (if antenna then .antenna else .none))
      ∧ (valid = true → stale → rejected .stale .none)
      ∧ (valid = true → ¬stale → offGrid → rejected .offGrid .none)
      ∧ (valid = true → ¬stale → ¬offGrid → backward → rejected .backward .none))

/-- R21, R35 to R38, R40, R50, R53, R99, R126, R130: a completed read whose pulse passes the five checks hands it to the timescale unit
with θ = T_cap − (label × 10^9 + D_ref) as a signed 64-bit value (log 7), whose transition acts with the sets then in force. The pulse
becomes the last accepted pulse, moved by its own step, the loss timer restarts from its capture tick, and the state is GOOD. The
accumulator counts the acceptance, its θ and a FREQ_LIMIT; then come the records, in order: LEAP_OFFSET for a change of L,
TIMESCALE_STATE for a change of state, with its cause, CLASS_CHANGE of the evaluation with the module's uncertainty, and REF_STATE for
the change from BAD. A pulse that makes a step leaves every deadline it has passed and a SUMMARY it has made due for the commands of
the same tick; with no order picked the cascade and the SUMMARY come at once (log 9). A pulse without a step does the same under every
order (log 50). What the status block shows within the tick is log 37, that the acceptance is counted first log 40, that the readings of the
tick move, and that no step is made at a tick whose XT an act without a reading has used, log 36, a step amount beyond 64 bits log 6.
A holdover second that the step has made due can be taken ahead of the pulse: it is counted and evaluated in HOLDOVER, and then the
pulse is evaluated (R14, R50; log 28). -/
def Obligations.accepted_pulse_moves_the_timescale : Prop :=
  ∀ (s : State) (q : Pulse) (bytes : List Byte),
    s.osc.phase = .running → s.ref.phase = .transaction → s.ref.pending = some q → bytes.length = 16 →
    let label := fieldAt bytes 1 5
    let leap := byteAt bytes 6
    let expected := 10 ^ 9 * label + s.ref.set.dRef
    (bytes.map BitVec.toNat).sum % 256 = 0 → (byteAt bytes 0).testBit 0 = true →
    (∀ l, s.ref.last = some l → l.label < label) →
    (∀ l c, s.ref.last = some l → l.capXt = some c →
      |(q.capXt : Int) - (c + 10 ^ 9 * (label - l.label))| ≤ (s.ref.set.tolerance : Int)) →
    (s.tsu.state = .unset → q.capXt ≤ expected) →
    let theta := ((q.capXt : Int) - expected).bmod (2 ^ 64)
    let m := ({ s.tsu with set := s.tsu.pendingSet.getD s.tsu.set, pendingSet := none, leap := leap, theta := theta } : Tsu).transition
      theta (expected - q.capXt)
    let changed := s.tsu.state ≠ m.tsu.state
    let bounded := max (-2147483647) (min 2147483647 theta)
    let acc : Accum := { s.evu.acc with
      accepted := min 65535 (s.evu.acc.accepted + 1), freqLimit := s.evu.acc.freqLimit || m.freqLimit
      thetaMin := some (match s.evu.acc.thetaMin with | none => bounded | some x => min x bounded)
      thetaMax := some (match s.evu.acc.thetaMax with | none => bounded | some x => max x bounded) }
    let late := s.tsu.xtRead = true ∧ ∃ S, m.step = some S ∧ 0 < S
    (late → ∀ order, exec (.readComplete bytes order) s = .next s)
    ∧ (¬late → ∃ t, exec (.readComplete bytes [.request]) s = .next t ∧ t.tsu = m.tsu
      ∧ t.ref = { s.ref with
          pending := none, phase := .stopping, state := .good, rejectRun := 0
          last := some { label := label, capTick := q.capTick,
                         capXt := some (match m.step with | some S => fit64 (q.capXt + S) | none => q.capXt) }
          lossTimer := some (fit64 (q.capTick + 125000000 * m.tsu.set.loss)) }
      ∧ (let counted : State := { s with tsu := m.tsu, evu := { (match m.step with | some S => restamped S s | none => s.evu) with
            acc := acc } }
        let leapt := if s.tsu.leap = leap then counted else makeEvidence (.leapOffset s.tsu.leap leap) counted
        let moved := if changed then makeEvidence (.timescaleState s.tsu.state m.tsu.state (m.step.map fit64)) leapt else leapt
        let evaluated := evaluate { moved with
          div := { s.div with terms := some ⟨fieldAt bytes 7 4, theta.natAbs⟩, base := none } }
        let ended := if s.ref.state = .bad then
            makeEvidence (.refState .good .accepted .none (some s.ref.rejectRun)) evaluated
          else evaluated
        t.div = evaluated.div ∧ t.evu = ended.evu ∧ t.stg = ended.stg)
      ∧ (∀ x, t.arc.has x = true ↔ s.arc.has x = true ∨ (x = .timescaleState ∧ changed)
          ∨ (x = .classChange ∧ t.div.cls ≠ s.div.cls))
      ∧ (changed → StatusOwed { t with div := s.div } true s t)
      ∧ (¬changed → StatusOwed t (decide (s.ref.state = .bad)) s t)
      ∧ s.arc.reportedOnly t.arc
      ∧ t = { s with tsu := t.tsu, ref := t.ref, div := t.div, taps := t.taps, seq := t.seq, auc := t.auc, evu := t.evu,
                     stg := t.stg, arc := t.arc }
      ∧ (m.step = none → t.taps = s.taps ∧ t.seq = s.seq ∧ t.auc = s.auc
        ∧ ∀ order, exec (.readComplete bytes order) s = .next t)
      ∧ (∀ S, m.step = some S → SteppedBy S s t ∧ ∃ u, exec (.readComplete bytes []) s = .next u ∧ CascadedTo t u)
      ∧ ∀ b S, m.step = some S → s.div.base = some b → b < s.tsu.xt →
        let order := [Pick.second, Pick.request]
        let due := s.tsu.state = .holdover ∧ b + 10 ^ 9 * (s.div.secs + 1) ≤ m.tsu.xt
        (¬due → exec (.readComplete bytes order) s = .next t)
        ∧ (due → ∃ v, exec (.readComplete bytes order) s = .next v
          ∧ (let counted : Div := { s.div with base := t.div.base, secs := min 4294967295 ((m.tsu.xt - b) / 10 ^ 9) }
            let second := counted.evaluate .holdover s.osc.state
            v.div = ({ second with terms := t.div.terms } : Div).evaluate m.tsu.state s.osc.state)
          ∧ v.tsu = { m.tsu with xtRead := true } ∧ s.arc.reportedOnly v.arc
          ∧ v = { t with tsu := v.tsu, div := v.div, evu := v.evu, stg := v.stg, arc := v.arc }))

/-- R16, R40, R41, R48: the loss timer's expiry stops it, takes the capture XT from the last accepted pulse, moves a timescale that
follows the reference to HOLDOVER with F kept and U0 the last bound, and makes the reference state BAD, with the records
TIMESCALE_STATE, CLASS_CHANGE of the evaluation, and REF_STATE, in that order. That a LOSS_TIMEOUT before the expiry changes nothing
is log 2; what the status block shows within the tick is log 37; that no other record of the tick comes between these, log 50. -/
def Obligations.loss_timeout_enters_holdover : Prop :=
  ∀ (s : State) (e : Nat), s.osc.phase = .running → s.ref.lossTimer = some e →
    (s.osc.tick < e → exec .lossTimeout s = .next s)
    ∧ (e ≤ s.osc.tick → ∃ t, exec .lossTimeout s = .next t
      ∧ t.ref = { s.ref with lossTimer := none, state := .bad, last := s.ref.last.map fun l => { l with capXt := none } }
      ∧ (let follows := s.tsu.state = .acquiring ∨ s.tsu.state = .tracking ∨ s.tsu.state = .slewing
        let moved := makeEvidence (.timescaleState s.tsu.state .holdover none) { s with tsu := t.tsu }
        let held := if follows then
            evaluate { moved with div := { s.div with u0 := s.div.u, base := some s.tsu.xt, secs := 0 } } else s
        let ended := if s.ref.state = .good then makeEvidence (.refState .bad .loss .none none) held else held
        (¬follows → t.tsu = s.tsu)
        ∧ (follows → t.tsu = { s.tsu with state := .holdover, p := 0, slew := .ticks 0, good := 0, inc := incOf s.tsu.f }
          ∧ t.div.u = min 4294967295 s.div.u ∧ t.arc.has .timescaleState = true
          ∧ StatusOwed { t with div := s.div, ref := { t.ref with state := s.ref.state } } true s t)
        ∧ (¬follows → s.ref.state = .good → StatusOwed t false s t)
        ∧ (¬follows → s.ref.state = .bad → t.arc = s.arc)
        ∧ t.div = held.div ∧ t.evu = ended.evu ∧ t.stg = ended.stg
        ∧ ∀ x, x ≠ .timescaleState → t.arc.has x = held.arc.has x)
      ∧ s.evu.recordedOnly t.evu ∧ s.stg.reservedOnly t.stg ∧ s.arc.reportedOnly t.arc
      ∧ t = { s with tsu := t.tsu, ref := t.ref, div := t.div, evu := t.evu, stg := t.stg, arc := t.arc })

/-! ### Divergence monitor -/

/-- R45 to R48, R51, R52: an evaluation computes the bound of the timescale state, the raw and the capped class, and applies the
downgrade at once or the upgrade hysteresis. -/
def Obligations.evaluation_gives_bound_and_class : Prop :=
  ∀ (d : Div) (ts : TsState) (o : OscState),
    let e := d.evaluate ts o
    (ts = .unset → e.u = 4294967295)
    ∧ (ts = .holdover → e.u = min 4294967295 (d.u0 + (if o = .locked then d.trace.rateH else d.trace.rateBackup) * d.secs))
    ∧ (∀ m a, ts ≠ .unset → ts ≠ .holdover → d.terms = some ⟨m, a⟩ → e.u = min 4294967295 (m + a + d.trace.guardG))
    ∧ (e.raw = .a ↔ e.u ≤ d.trace.limitA) ∧ (d.trace.limitA < e.u → (e.raw = .b ↔ e.u ≤ d.trace.limitB))
    ∧ (ts = .unset ∨ ts = .acquiring → e.capped = .none)
    ∧ (ts ≠ .unset → ts ≠ .acquiring → o = .locked → e.capped = e.raw)
    ∧ (ts ≠ .unset → ts ≠ .acquiring → o = .backup → e.capped = if e.raw = .a then .b else e.raw)
    ∧ (e.capped.rank < d.cls.rank → e.cls = e.capped ∧ e.upCount = 0 ∧ e.upTarget = none)
    ∧ (e.capped = d.cls → e.cls = d.cls ∧ e.upCount = 0 ∧ e.upTarget = none)
    ∧ (d.cls.rank < e.capped.rank →
      let target := match d.upTarget with | some x => if x.rank ≤ e.capped.rank then x else e.capped | none => e.capped
      (d.upCount + 1 < d.trace.upgradeHold → e.cls = d.cls ∧ e.upCount = d.upCount + 1 ∧ e.upTarget = some target)
      ∧ (d.trace.upgradeHold ≤ d.upCount + 1 → e.cls = target ∧ e.upCount = 0 ∧ e.upTarget = none))
    ∧ e = { d with u := e.u, raw := e.raw, capped := e.capped, cls := e.cls, upCount := e.upCount, upTarget := e.upTarget }

/-- R48, R53, R126, R140: an evaluation that changes the class in force makes a CLASS_CHANGE record and sets CLASS_CHANGE; every one
raises U max and lowers the lowest class of the accumulator, owes a status block write, and changes no other block. A holdover second
that is due sets s to the whole seconds since the base instant and evaluates; one not due does nothing. That a second not due does
nothing is log 2; that one stays due once s has saturated is log 38; that it marks this tick's XT as read is log 36. -/
def Obligations.evaluations_are_reported_and_made_each_holdover_second : Prop :=
  ∀ s : State,
    (let t := evaluate s
      let acc := { s.evu.acc with
        uTop := max s.evu.acc.uTop t.div.u
        lowest := if s.evu.acc.lowest.rank ≤ t.div.cls.rank then s.evu.acc.lowest else t.div.cls }
      t.div = s.div.evaluate s.tsu.state s.osc.state
        ∧ (t.div.cls = s.div.cls → t.evu = { s.evu with acc := acc } ∧ t.stg = s.stg ∧ t.arc.cause = s.arc.cause)
        ∧ (t.div.cls ≠ s.div.cls → t.arc.has .classChange = true
          ∧ (let made := makeEvidence (.classChange s.div.cls t.div.cls t.div.u)
              { s with div := t.div, evu := { s.evu with acc := acc } }
            t.evu = made.evu ∧ t.stg = made.stg))
        ∧ StatusOwed t false s t
        ∧ s.stg.reservedOnly t.stg ∧ s.arc.reportedOnly t.arc ∧ (∀ x, x ≠ .classChange → t.arc.has x = s.arc.has x)
        ∧ t = { s with div := t.div, evu := t.evu, stg := t.stg, arc := t.arc })
    ∧ ∀ b, s.osc.phase = .running → s.div.base = some b →
      (b + 10 ^ 9 * (s.div.secs + 1) ≤ s.tsu.xt → exec .holdoverSecond s
        = .next (evaluate { s with tsu := { s.tsu with xtRead := true }
                                   div := { s.div with secs := min 4294967295 ((s.tsu.xt - b) / 10 ^ 9) } }))
      ∧ (s.tsu.xt < b + 10 ^ 9 * (s.div.secs + 1) → exec .holdoverSecond s = .next s)

/-- R49, R54, R127, R131: CONFIG_TRACE re-bases a holdover spell at the old rate, brings the set into force with its interval clamped,
ends a run of upgrades, recomputes the next boundary as the least whole multiple of the interval above XT, makes its CONFIG record, and
evaluates; a set out of range is refused. That the boundary so passes over a SUMMARY due at the tick is log 39;
that no other record of the tick comes between the two reports, log 50. -/
def Obligations.config_trace_rebases_and_evaluates : Prop :=
  ∀ (s : State) (b : List Byte), Offered 0x42 b s →
    let d : TraceSet := ⟨fieldAt b 16 4, fieldAt b 20 4, fieldAt b 24 4, fieldAt b 28 4, fieldAt b 32 4, byteAt b 36, byteAt b 37⟩
    let set : TraceSet := { d with interval := max 1 (min 60 d.interval) }
    let ns := 10 ^ 9 * set.interval
    let legal := d.limitA ≤ d.limitB ∧ d.limitB ≤ 4294967294 ∧ d.guardG ≤ 1000000 ∧ d.rateH ≤ 1000000
      ∧ d.rateBackup ≤ 10000000 ∧ 1 ≤ d.upgradeHold ∧ d.upgradeHold ≤ 60
    (legal → ∃ t, exec .configTrace s = .next t
      ∧ s.tsu.xt < t.evu.boundary ∧ t.evu.boundary ≤ s.tsu.xt + ns ∧ t.evu.boundary % ns = 0
      ∧ (let rate := if s.osc.state = .locked then s.div.trace.rateH else s.div.trace.rateBackup
        let rebased : Div := if s.div.base = none then s.div else
          { s.div with u0 := min 4294967295 (s.div.u0 + rate * s.div.secs), base := some s.tsu.xt, secs := 0 }
        let inForce : State := { s with div := { rebased with trace := set, upCount := 0, upTarget := none }
                                        evu := { s.evu with boundary := t.evu.boundary, boundaryTick := some s.osc.tick } }
        let reported := evaluate (makeEvidence (.config 0x42 none set.crc) inForce)
        t.div = inForce.div.evaluate s.tsu.state s.osc.state ∧ t.evu = reported.evu ∧ t.stg = reported.stg
          ∧ ∀ x, t.arc.has x = reported.arc.has x)
      ∧ t.rqp = (answer (if set = d then .ok else .clamped) (set.fields 16 ++ [⟨40, 4, set.crc⟩]) s).rqp
      ∧ t.evu.chain = s.evu.chain ∧ t.evu.start = s.evu.start ∧ s.stg.reservedOnly t.stg
      ∧ s.arc.reportedOnly t.arc ∧ (∀ x, x ≠ .classChange → t.arc.has x = s.arc.has x) ∧ StatusOwed t false s t
      ∧ t = { s with div := t.div, evu := t.evu, stg := t.stg, arc := t.arc, rqp := t.rqp })
    ∧ (¬legal → exec .configTrace s = .next (answer .badParam [] s))

/-! ### Tap ports -/

/-- R57: a link gain and a link loss set the indication in every state; DOWN goes UP and UP goes DOWN, abandoning a frame in
progress, with a PORT_STATE record; DISABLED stays. -/
def Obligations.link_events_move_an_enabled_port : Prop :=
  ∀ (s : State) (n : Fin 8),
    let p := port s n
    let abandoned : PortCounters :=
      if p.frame.isSome then ({ p.counters with malformed := min (2 ^ 64 - 1) (p.counters.malformed + 1) }) else p.counters
    (p.state ≠ .down → exec (.linkGain n) s = .next { s with taps := s.taps.set n { p with present := true } })
    ∧ (p.state ≠ .up → exec (.linkLoss n) s = .next { s with taps := s.taps.set n { p with present := false } })
    ∧ (p.state = .down → ∃ t, exec (.linkGain n) s = .next t
      ∧ t.taps = s.taps.set n { p with present := true, state := .up }
      ∧ t.evu = (makeEvidence (.portState n .down .up) s).evu ∧ s.stg.reservedOnly t.stg
      ∧ t = { s with taps := t.taps, evu := t.evu, stg := t.stg })
    ∧ (p.state = .up → ∃ t, exec (.linkLoss n) s = .next t
      ∧ t.taps = s.taps.set n { p with present := false, state := .down, frame := none, counters := abandoned }
      ∧ t.evu = (makeEvidence (.portState n .up .down) s).evu ∧ s.stg.reservedOnly t.stg
      ∧ t = { s with taps := t.taps, evu := t.evu, stg := t.stg })

/-- R60, R62: a start of frame in UP is captured with a reading of the tick at or after the arming end, and counted as an arming
discard before it; in DISABLED and DOWN it does nothing. -/
def Obligations.start_of_frame_is_captured_or_discarded : Prop :=
  ∀ (s : State) (n : Fin 8), s.osc.phase = .running → (port s n).frame = none →
    let p := port s n
    let arming := ∃ e, p.armEnd = some e ∧ s.osc.tick < e
    (p.state = .up → arming → exec (.startOfFrame n) s = .next { s with taps := (s.taps.set n
      { p with counters := { p.counters with arming := min (2 ^ 64 - 1) (p.counters.arming + 1) } }) })
    ∧ (p.state = .up → ¬arming → exec (.startOfFrame n) s = .next { s with taps := (s.taps.set n
      { p with frame := some ⟨s.tsu.xt, s.tsu.leap, s.tsu.state, s.div.cls, s.osc.tick⟩ }) })
    ∧ (p.state ≠ .up → exec (.startOfFrame n) s = .next s)

/-- R62 to R71: at its end a frame in progress is decided and counted in exactly one counter: malformed, filtered, recorded as an
entry at the tail of the FIFO, which closes an open GAP, or lost into the open GAP entry or a new one and reported; with none in
progress the end is ignored. -/
def Obligations.end_of_frame_counts_the_frame_once : Prop :=
  ∀ (s : State) (n : Fin 8) (frame : List Byte), s.osc.phase = .running →
    let p := port s n
    (p.frame = none → exec (.endOfFrame n frame) s = .next s)
    ∧ ∀ r, p.frame = some r →
      let a := arrivalOf p.config frame
      let legal := 64 ≤ frame.length ∧ frame.length ≤ 9216
      let hdr : Header := { stamp := r.xt - p.config.compensation, leap := r.leap, cls := r.cls, ts := r.ts }
      ∃ (t : State) (fifo : List PortEntry) (c : PortCounters), exec (.endOfFrame n frame) s = .next t
        ∧ t.taps = s.taps.set n { p with frame := none, fifo := fifo, counters := c }
        ∧ t = { s with taps := t.taps, evu := t.evu }
        ∧ (¬legal → fifo = p.fifo ∧ c = { p.counters with malformed := min (2 ^ 64 - 1) (p.counters.malformed + 1) }
          ∧ t.evu = s.evu)
        ∧ (legal → p.config.filter.records a.kind = false →
          fifo = p.fifo ∧ c = { p.counters with filtered := min (2 ^ 64 - 1) (p.counters.filtered + 1) } ∧ t.evu = s.evu)
        ∧ (legal → p.config.filter.records a.kind = true → p.fifo.length < 511 →
          let entry : PortEntry := { hdr := hdr, capTick := r.tick, body := .arrival a }
          (hasOpenGap p.fifo = false → fifo = p.fifo ++ [entry])
            ∧ (∀ l h k lost last, p.fifo = l ++ [⟨h, k, .gap lost last true⟩] → fifo = l ++ [⟨h, k, .gap lost last false⟩, entry])
            ∧ c = { p.counters with recorded := min (2 ^ 64 - 1) (p.counters.recorded + 1) } ∧ t.evu = s.evu)
        ∧ (legal → p.config.filter.records a.kind = true → 511 ≤ p.fifo.length →
          (hasOpenGap p.fifo = false → fifo = p.fifo ++ [{ hdr := hdr, capTick := r.tick, body := .gap 1 hdr.stamp true }])
            ∧ (∀ l h k lost last, p.fifo = l ++ [⟨h, k, .gap lost last true⟩] → lost + 1 < 2 ^ 64 →
              fifo = l ++ [⟨h, k, .gap (lost + 1) hdr.stamp true⟩])
            ∧ c = { p.counters with lost := min (2 ^ 64 - 1) (p.counters.lost + 1) }
            ∧ t.evu = { s.evu with acc := { s.evu.acc with arrivalsLost := min 4294967295 (s.evu.acc.arrivalsLost + 1) } })

/-- R63 to R66: a frame's check sequence, in its last four bytes, least significant first, is compared with the CRC-32 of the bytes
ahead of it, and FCS_BAD says they differ; a key is the bytes at its offset, most significant first, and absent when it has no offset
or does not lie wholly ahead of the frame check sequence; a group above 63 is out of range; an absent group takes the default; the
kind class is that of the matching entry of the kind map, and OTHER when none matches. -/
def Obligations.keys_are_read_ahead_of_the_frame_check : Prop :=
  ∀ (c : PortConfig) (frame : List Byte),
    let a := arrivalOf c frame
    let none' := fun (at_ : Option Nat) (width : Nat) => ∀ off, at_ = some off → frame.length - 4 < off + width
    (∀ f0 f1 f2 f3 : Byte, frame.drop (frame.length - 4) = [f0, f1, f2, f3] →
      (a.fcsBad = true ↔ crc32 (frame.take (frame.length - 4))
        ≠ f0.toNat + 256 * f1.toNat + 65536 * f2.toNat + 16777216 * f3.toNat))
    ∧ (∀ off, c.sessionAt = some off → off + 2 ≤ frame.length - 4 → ∀ x y : Byte, (frame.drop off).take 2 = [x, y] →
      a.session = some (256 * x.toNat + y.toNat))
    ∧ (none' c.sessionAt 2 → a.session = none)
    ∧ (∀ off, c.messageAt = some off → off + 4 ≤ frame.length - 4 → ∀ x y z w : Byte, (frame.drop off).take 4 = [x, y, z, w] →
      a.message = some (16777216 * x.toNat + 65536 * y.toNat + 256 * z.toNat + w.toNat))
    ∧ (none' c.messageAt 4 → a.message = none)
    ∧ (∀ off b, c.groupAt = some off → off + 1 ≤ frame.length - 4 → (frame.drop off).head? = some b →
      (∀ h : b.toNat < 64, a.group = some ⟨b.toNat, h⟩ ∧ a.groupRange = false ∧ a.defaulted = false)
      ∧ (64 ≤ b.toNat → a.group = c.defaultGroup ∧ a.groupRange = true ∧ a.defaulted = c.defaultGroup.isSome))
    ∧ (none' c.groupAt 1 → a.group = c.defaultGroup ∧ a.groupRange = false ∧ a.defaulted = c.defaultGroup.isSome)
    ∧ (∀ off b, c.kindAt = some off → off + 1 ≤ frame.length - 4 → (frame.drop off).head? = some b → a.kindPresent = true
      ∧ (∀ e, ((c.kindMap.filterMap id).map KindEntry.value).Nodup → some e ∈ c.kindMap → e.value = b → a.kind = e.kind)
      ∧ ((∀ e, some e ∈ c.kindMap → e.value ≠ b) → a.kind = .other))
    ∧ (none' c.kindAt 1 → a.kind = .other ∧ a.kindPresent = false)
    ∧ a.length = frame.length

/-- R58, R61, R183: CONFIGURE is taken in DISABLED alone. It is refused with BAD_PARAM for a port above 7, a key offset above 255 that
is not FFFFH, a class or filter code outside its set, a default group above 63 that is not FFH, and two present entries of one byte
value; else the configuration replaces the one in force, a compensation above 16,383 clamped, with a CONFIG record over the port as it
then stands. That the state is checked before the items is log 23. -/
def Obligations.configure_replaces_a_disabled_ports_configuration : Prop :=
  ∀ (s : State) (b : List Byte), Offered 0x21 b s → byteAt b 17 = 0 →
    let off := fun i => fieldAt b i 2
    let key := fun i => if off i = 0xFFFF then none else some (off i)
    let entry : Nat → Option KindEntry := fun i => match byteAt b (i + 1) with
      | 1 => some ⟨BitVec.ofNat 8 (byteAt b i), .new⟩
      | 2 => some ⟨BitVec.ofNat 8 (byteAt b i), .amend⟩
      | 3 => some ⟨BitVec.ofNat 8 (byteAt b i), .cancel⟩
      | _ => none
    let legal := (∀ i ∈ [20, 22, 24, 26], off i = 0xFFFF ∨ off i ≤ 255) ∧ (∀ i ∈ [28, 30, 32, 34], byteAt b (i + 1) ≤ 3)
      ∧ (∀ i ∈ [36, 37, 38, 39], byteAt b i ≤ 1) ∧ (byteAt b 40 = 0xFF ∨ byteAt b 40 < 64)
      ∧ ∀ i ∈ [28, 30, 32, 34], ∀ j ∈ [28, 30, 32, 34], i ≠ j → byteAt b (i + 1) ≠ 0 → byteAt b (j + 1) ≠ 0 →
        byteAt b i ≠ byteAt b j
    let config : PortConfig := {
      compensation := min 16383 (fieldAt b 18 2), sessionAt := key 20, messageAt := key 22, groupAt := key 24, kindAt := key 26
      kindMap := [entry 28, entry 30, entry 32, entry 34]
      filter := ⟨decide (byteAt b 36 = 0), decide (byteAt b 37 = 0), decide (byteAt b 38 = 0), decide (byteAt b 39 = 0)⟩
      defaultGroup := if h : byteAt b 40 < 64 then some ⟨byteAt b 40, h⟩ else none }
    (7 < byteAt b 16 → exec .configPortConfigure s = .next (answer .badParam [] s))
    ∧ ∀ n : Fin 8, byteAt b 16 = n.val →
      let p := port s n
      let p' := { p with config := config }
      (p.state ≠ .disabled → exec .configPortConfigure s = .next (answer .portActive [⟨2, 1, p.state.code⟩] s))
      ∧ (p.state = .disabled → ¬legal → exec .configPortConfigure s = .next (answer .badParam [] s))
      ∧ (p.state = .disabled → legal → ∃ t, exec .configPortConfigure s = .next t ∧ t.taps = s.taps.set n p'
        ∧ t.evu = (makeEvidence (.config 0x21 (some (n, 0)) (portCrc n p')) s).evu
        ∧ t.rqp = (answer (if 16383 < fieldAt b 18 2 then .clamped else .ok)
            [⟨2, 1, 0⟩, ⟨16, 4, portCrc n p'⟩, ⟨20, 2, config.compensation⟩] s).rqp
        ∧ s.stg.reservedOnly t.stg ∧ t = { s with taps := t.taps, evu := t.evu, stg := t.stg, rqp := t.rqp })

/-- R58 to R60, R77: SETTLE is 10,000 ns plus the largest compensation of the enabled ports, rounded up to ticks. ENABLE of a DISABLED
port makes it UP or DOWN by its link, arms it for its compensation plus 10,000 ns, and raises SETTLE; DISABLE of an enabled one
abandons its frame and takes its compensation from SETTLE; each makes its CONFIG record and then its PORT_STATE record, and keeps the
FIFO. In the other states they are refused with WRONG_STATE. A port above 7 and an action code that names nothing give BAD_PARAM;
which row takes them is log 14. The result of an ENABLE shows the port state after the tick (R57, R171): the end of the tick forms it
again, and its writes do not complete before (log 45). -/
def Obligations.enable_and_disable_move_the_port_and_settle : Prop :=
  (∀ (comps : Vector (Option Nat) 8) (M : Nat), (∀ n : Fin 8, (comps[n]).getD 0 ≤ M) → (M = 0 ∨ ∃ n : Fin 8, comps[n] = some M) →
    settleOf comps = (10007 + M) / 8)
  ∧ (∀ (s : State) (b : List Byte) (c : Instr), Offered 0x21 b s → 7 < byteAt b 16 ∨ 2 < byteAt b 17 →
    c = .configPortConfigure ∨ c = .configPortEnable ∨ c = .configPortDisable → exec c s = .next (answer .badParam [] s))
  ∧ ∀ (s : State) (b : List Byte) (n : Fin 8), Offered 0x21 b s → byteAt b 16 = n.val →
    let p := port s n
    let wrong := answer .wrongState [⟨2, 1, p.state.code⟩] s
    let entered : PortState := if p.present then .up else .down
    let comp := p.config.compensation
    (byteAt b 17 = 1 → p.state ≠ .disabled → exec .configPortEnable s = .next wrong)
    ∧ (byteAt b 17 = 2 → p.state = .disabled → exec .configPortDisable s = .next wrong)
    ∧ (byteAt b 17 = 1 → p.state = .disabled → ∃ (t : State) (p' : Port), exec .configPortEnable s = .next t
      ∧ p' = { p with state := entered, armEnd := some (fit64 (s.osc.tick + (10007 + comp) / 8)) }
      ∧ t.taps = s.taps.set n p'
      ∧ t.seq = { s.seq with comps := s.seq.comps.set n (some comp), settle := settleOf (s.seq.comps.set n (some comp)) }
      ∧ t.evu = (makeEvidence (.portState n .disabled entered) (makeEvidence (.config 0x21 (some (n, 1)) (portCrc n p')) s)).evu
      ∧ t.rqp = { (answer .ok [⟨2, 1, entered.code⟩, ⟨16, 4, portCrc n p'⟩] s).rqp with tickResult := some (.port n) }
      ∧ s.stg.reservedOnly t.stg
      ∧ t = { s with taps := t.taps, seq := t.seq, evu := t.evu, stg := t.stg, rqp := t.rqp })
    ∧ (byteAt b 17 = 2 → p.state ≠ .disabled → ∃ (t : State) (p' : Port), exec .configPortDisable s = .next t
      ∧ p' = { p.abandon with state := .disabled, armEnd := none } ∧ p'.frame = none ∧ p'.fifo = p.fifo
      ∧ p'.counters = (if p.frame.isSome then { p.counters with malformed := min (2 ^ 64 - 1) (p.counters.malformed + 1) }
          else p.counters)
      ∧ t.taps = s.taps.set n p'
      ∧ t.seq = { s.seq with comps := s.seq.comps.set n none, settle := settleOf (s.seq.comps.set n none) }
      ∧ t.evu = (makeEvidence (.portState n p.state .disabled) (makeEvidence (.config 0x21 (some (n, 2)) (portCrc n p')) s)).evu
      ∧ t.rqp = (answer .ok [⟨2, 1, 0⟩, ⟨16, 4, portCrc n p'⟩] s).rqp ∧ s.stg.reservedOnly t.stg
      ∧ t = { s with taps := t.taps, seq := t.seq, evu := t.evu, stg := t.stg, rqp := t.rqp })

/-! ### Sequencing and staging -/

/-- R76, R78: the merge releases the head of least stamp, of equal stamps the one whose source stands first in the tie order,
once that head has settled, and then applies the starvation rule; while it has not settled, or after a release of the same tick,
or with no head at all, it releases nothing. The flag of a release made at this tick is log 19. -/
def Obligations.merge_releases_the_least_settled_head : Prop :=
  ∀ s : State, s.osc.phase = .running →
    let order : Source → Nat := fun x => match x with | .notices => 0 | .evidence => 1 | .tap n => 2 + n.val | .stampSlot => 10
    (∀ h : Head, h ∈ heads s ↔ match h.source with
      | .notices => ∃ q, s.auc.notices.head? = some q ∧ h.stamp = q.hdr.stamp ∧ h.capTick = q.capTick
      | .evidence => ∃ q, s.evu.queue.head? = some q ∧ h.stamp = q.hdr.stamp ∧ h.capTick = q.capTick
      | .tap n => ∃ e, (port s n).fifo.head? = some e ∧ h.stamp = e.hdr.stamp ∧ h.capTick = e.capTick
      | .stampSlot => ∃ e, s.seq.stampSlot = some e ∧ h.stamp = e.hdr.stamp ∧ h.capTick = e.capTick)
    ∧ (heads s = [] → exec .mergeRelease s = .next s)
    ∧ ∀ h ∈ heads s, (∀ k ∈ heads s, h.stamp < k.stamp ∨ h.stamp = k.stamp ∧ order h.source ≤ order k.source) →
      (h.capTick + s.seq.settle ≤ s.osc.tick → s.seq.released = false →
        exec .mergeRelease s = .next (checkStarved (takeHead h.source { s with seq := { s.seq with released := true } })))
      ∧ (s.osc.tick < h.capTick + s.seq.settle ∨ s.seq.released = true → exec .mergeRelease s = .next s)

/-- R79, R80, R86: a released notice changes the gate of its group by its kind, whether it is then staged with the next number or,
with 512 records held, dropped and counted. -/
def Obligations.notice_release_updates_the_gate_and_is_staged_or_dropped : Prop :=
  ∀ (s : State) (q : QueuedNotice) (rest : List QueuedNotice), s.auc.notices = q :: rest → s.seq.counter + 1 < 2 ^ 64 →
    let t := takeHead .notices s
    let n := q.notice
    let gate : Gate := s.seq.gates[n.group]
    let held := s.stg.staged.auction
    t.auc = { s.auc with notices := rest }
      ∧ t.seq.gates = s.seq.gates.set n.group
          (if n.kind = .callOpen ∨ n.kind = .reopen then ⟨.opened, n.cycle⟩
            else if n.kind = .cutoff then ⟨.shut, n.cycle⟩
            else if n.kind = .cancel ∨ n.kind = .clear then ⟨.none, gate.cycle⟩ else gate)
      ∧ (held.length < 512 → t.evu = s.evu ∧ t.seq.counter = s.seq.counter + 1
        ∧ t.stg = { s.stg with staged := { s.stg.staged with auction := held ++ [⟨q.hdr, s.seq.counter, .notice n⟩] } })
      ∧ (512 ≤ held.length → t.stg = s.stg ∧ t.seq.counter = s.seq.counter
        ∧ t.evu = { s.evu with acc := { s.evu.acc with noticesLost := min 65535 (s.evu.acc.noticesLost + 1) } })
      ∧ t = { s with auc := t.auc, stg := t.stg, evu := t.evu,
                     seq := { s.seq with gates := t.seq.gates, counter := t.seq.counter } }

/-- R81, R83, R92: a released arrival takes its verdict from its group's gate and is staged with the next number, and so is a port
GAP; with 16,383 records held either goes into a new staging GAP, which takes a number, or into the open one, which takes none. An
arrival so lost is counted. -/
def Obligations.tap_release_is_staged_or_folded_into_the_staging_gap : Prop :=
  ∀ (s : State) (n : Fin 8) (e : PortEntry) (rest : List PortEntry), (port s n).fifo = e :: rest → s.seq.counter + 1 < 2 ^ 64 →
    let t := takeHead (.tap n) s
    let held := s.stg.staged.arrival
    let staged := fun (b : RecBody) (isOpen : Bool) => t.seq.counter = s.seq.counter + 1
      ∧ t.stg = { s.stg with staged := { s.stg.staged with arrival := held ++ [⟨e.hdr, s.seq.counter, b⟩] }, openGap := isOpen }
    let lostInto := fun (lost lastLost : Nat) =>
      (s.stg.openGap = false → staged (.gap .staging lost lastLost) true)
      ∧ ∀ l h q o had last, s.stg.openGap = true → held = l ++ [⟨h, q, .gap o had last⟩] → had + lost < 2 ^ 64 →
        t.seq.counter = s.seq.counter
          ∧ t.stg = { s.stg with staged := { s.stg.staged with arrival := l ++ [⟨h, q, .gap o (had + lost) lastLost⟩] } }
    (∀ a, e.body = .arrival a →
      (held.length < 16383 → t.evu = s.evu ∧ ∃ v c, staged (.arrival n v c a) false
        ∧ (a.group = none → v = .noAuction ∧ c = none)
        ∧ ∀ g, a.group = some g → match (s.seq.gates[g] : Gate) with
          | ⟨.none, _⟩ => v = .noAuction ∧ c = none
          | ⟨.opened, cycle⟩ => v = .inTime ∧ c = some cycle
          | ⟨.shut, cycle⟩ => v = .late ∧ c = some cycle)
      ∧ (16383 ≤ held.length → lostInto 1 e.hdr.stamp
        ∧ t.evu = { s.evu with acc := { s.evu.acc with arrivalsLost := min 4294967295 (s.evu.acc.arrivalsLost + 1) } }))
    ∧ (∀ lost last o, e.body = .gap lost last o → t.evu = s.evu
      ∧ (held.length < 16383 → staged (.gap (.port n) lost last) false) ∧ (16383 ≤ held.length → lostInto lost last))
    ∧ t = { s with taps := s.taps.set n { port s n with fifo := rest }, seq := { s.seq with counter := t.seq.counter },
                   stg := t.stg, evu := t.evu }

/-- R82, R87, R124, R133: a released evidence record takes the next number and its reserved slot; its chain value is the CRC-32
of the previous chain value, as four bytes, and its bytes 0 to 59, and becomes the chain value held; a MARK that waits for it is
answered. The flag of a waiting MARK is the model's choice (log 22). -/
def Obligations.evidence_release_numbers_chains_and_answers : Prop :=
  ∀ (s : State) (q : QueuedEvidence) (rest : List QueuedEvidence), s.evu.queue = q :: rest → s.seq.counter + 1 < 2 ^ 64 →
    let t := takeHead .evidence s
    let record : Record := ⟨q.hdr, s.seq.counter, .evidence q.body t.evu.chain⟩
    t.evu = { s.evu with queue := rest, chain := crc32 (layout 4 [⟨0, 4, s.evu.chain⟩] ++ record.bytes.take 60) }
      ∧ t.stg = { s.stg with staged := { s.stg.staged with evidence := s.stg.staged.evidence ++ [record] },
                             reserved := s.stg.reserved - 1 }
      ∧ t.seq = { s.seq with counter := s.seq.counter + 1 }
      ∧ (q.asked = true → s.rqp.phase = .answering .mark → s.rqp.withdrawn = false →
        t.rqp = (answer .ok [⟨16, 8, q.hdr.stamp⟩, ⟨24, 8, s.seq.counter⟩] s).rqp)
      ∧ (q.asked = false ∨ s.rqp.phase ≠ .answering .mark → t.rqp = s.rqp)
      ∧ t = { s with evu := t.evu, stg := t.stg, seq := t.seq, rqp := t.rqp }

/-- R76, R84, R167: STAMP takes the empty stamp slot with a reading of its tick and waits while the slot is full; the entry's
release stages a HOST_STAMP record with the next number and answers OK, or, with 16,383 records held, drops it and answers
SUPPRESSED. That a release which no STAMP awaits answers nothing is the model's choice (log 22). -/
def Obligations.stamp_enters_the_slot_and_is_answered_at_its_release : Prop :=
  ∀ s : State,
    (∀ b, Offered 0x01 b s →
      (s.seq.stampSlot = none → exec .stamp s = .next { s with
        seq := { s.seq with stampSlot := (some
          ⟨⟨s.tsu.xt, s.tsu.leap, s.div.cls, s.tsu.state⟩, s.osc.tick, fieldAt b 16 2, fieldAt b 8 8⟩) },
        rqp := { s.rqp with phase := .answering .stamp } })
      ∧ (s.seq.stampSlot.isSome → exec .stamp s = .next s))
    ∧ ∀ e, s.seq.stampSlot = some e → s.seq.counter + 1 < 2 ^ 64 →
      let t := takeHead .stampSlot s
      let held := s.stg.staged.arrival
      let answered := fun (o : ReqOutcome) (f : List Field) => s.rqp.phase = .answering .stamp → s.rqp.withdrawn = false →
        t.rqp = (answer o ([⟨2, 1, e.hdr.cls.code⟩, ⟨16, 8, e.hdr.stamp⟩] ++ f) s).rqp
      (held.length < 16383 → t.seq = { s.seq with stampSlot := none, counter := s.seq.counter + 1 }
        ∧ t.stg = { s.stg with staged := { s.stg.staged with arrival := held ++ [⟨e.hdr, s.seq.counter, .hostStamp e.event e.tag⟩] },
                               openGap := false }
        ∧ answered .ok [⟨24, 8, s.seq.counter⟩])
      ∧ (16383 ≤ held.length → t.seq = { s.seq with stampSlot := none } ∧ t.stg = s.stg ∧ answered .suppressed [])
      ∧ (s.rqp.phase ≠ .answering .stamp → t.rqp = s.rqp)
      ∧ t = { s with seq := t.seq, stg := t.stg, rqp := t.rqp }

/-! ### Evidence -/

/-- R119 to R121, R124, R135: with a place in the queue and a slot to reserve, a report's record is made with a reading of its tick and
holds a reservation; without, it is counted as suppressed. A pending RESET takes the room first. MARK is made the same way and waits
for its release, or is answered SUPPRESSED at once, which marks this tick's XT as read (log 36). -/
def Obligations.evidence_records_are_made_with_room_or_suppressed : Prop :=
  ∀ s : State,
    let room := s.evu.queue.length < 128 ∧ s.stg.staged.evidence.length + s.stg.reserved < 256
    let hdr : Header := ⟨s.tsu.xt, s.tsu.leap, s.div.cls, s.tsu.state⟩
    let made : EvBody → Bool → State := fun body asked => { s with
      evu := { s.evu with queue := s.evu.queue ++ [⟨hdr, s.osc.tick, body, asked⟩], pendingReset := none }
      stg := { s.stg with reserved := s.stg.reserved + 1 } }
    let counted : State := { s with evu := { s.evu with acc := { s.evu.acc with
      suppressed := min 65535 (s.evu.acc.suppressed + 1) } } }
    (∀ body, s.evu.pendingReset = none → room → makeEvidence body s = made body false)
    ∧ (∀ body, ¬room → makeEvidence body s = counted)
    ∧ (∀ body c, s.evu.pendingReset = some c → room → makeEvidence body s = makeEvidence body (made (.reset c s.osc.state) false))
    ∧ ∀ b, Offered 0x02 b s →
      (s.evu.pendingReset = none → room → exec .mark s = .next
        { made (.hostMark (fieldAt b 8 8) (sliceAt b 16 32)) true with rqp := { s.rqp with phase := .answering .mark } })
      ∧ (¬room → exec .mark s
        = .next (answer .suppressed [⟨16, 8, s.tsu.xt⟩] { counted with tsu := { s.tsu with xtRead := true } }))
      ∧ ∀ c, s.evu.pendingReset = some c → room → exec .mark s = exec .mark (made (.reset c s.osc.state) false)

/-- R127 to R129, R135: a SUMMARY due is made with the open interval's accumulator, and the next interval begins at its stamp;
without room the interval goes on with EXTENDED; either way the next boundary is the least whole multiple of the interval above
XT. Before the boundary nothing happens. A pending RESET is made with the oscillator state of the first tick that gives room, ahead
of a SUMMARY. That a command before its event changes nothing is log 2; the tick of the boundary is log 36. -/
def Obligations.summaries_and_the_pending_reset_are_made_with_room : Prop :=
  ∀ s : State, s.osc.phase = .running →
    let room := s.evu.queue.length < 128 ∧ s.stg.staged.evidence.length + s.stg.reserved < 256
    let hdr : Header := ⟨s.tsu.xt, s.tsu.leap, s.div.cls, s.tsu.state⟩
    let ns := 10 ^ 9 * s.div.trace.interval
    (s.tsu.xt < s.evu.boundary → exec .summaryDue s = .next s)
    ∧ (∀ c, s.evu.pendingReset = some c → room → s.evu.boundary ≤ s.tsu.xt → exec .summaryDue s = exec .summaryDue { s with
      evu := { s.evu with queue := s.evu.queue ++ [⟨hdr, s.osc.tick, .reset c s.osc.state, false⟩], pendingReset := none }
      stg := { s.stg with reserved := s.stg.reserved + 1 } })
    ∧ (s.evu.pendingReset = none ∨ ¬room → 1 ≤ s.div.trace.interval → s.evu.boundary ≤ s.tsu.xt →
      ∃ t, exec .summaryDue s = .next t
      ∧ s.tsu.xt < t.evu.boundary ∧ t.evu.boundary ≤ s.tsu.xt + ns ∧ t.evu.boundary % ns = 0
      ∧ (room → t.stg = { s.stg with reserved := s.stg.reserved + 1 }
        ∧ t.evu = { s.evu with
            queue := s.evu.queue ++ [⟨hdr, s.osc.tick, .summary s.evu.start s.evu.acc s.div.u s.tsu.f, false⟩]
            acc := ⟨0, 0, none, none, none, s.div.u, s.div.cls, 0, 0, 0, false, false⟩
            start := s.tsu.xt, boundary := t.evu.boundary, boundaryTick := some s.osc.tick })
      ∧ (¬room → t.stg = s.stg
        ∧ t.evu = { s.evu with acc := { s.evu.acc with extended := true }, boundary := t.evu.boundary
                               boundaryTick := some s.osc.tick })
      ∧ t = { s with evu := t.evu, stg := t.stg })
    ∧ (∀ c, s.evu.pendingReset = some c → room → exec .pendingReset s = .next { s with
      evu := { s.evu with queue := s.evu.queue ++ [⟨hdr, s.osc.tick, .reset c s.osc.state, false⟩], pendingReset := none }
      stg := { s.stg with reserved := s.stg.reserved + 1 } })
    ∧ (s.evu.pendingReset = none ∨ ¬room → exec .pendingReset s = .next s)

/-! ### Closing auctions -/

/-- R97, R98, R101, R109: the due head of the deadline list is handled as at its own instant while the notice queue has a place:
START opens the call, DECIDE_LIMIT applies the default decision with the flag TIMEOUT. A head above XT, or a full queue, waits.
That a deadline row before its deadline changes nothing is log 2; the spans of steps are log 21. -/
def Obligations.start_and_decide_limit_are_handled_at_their_instant : Prop :=
  ∀ (s : State) (d : Deadline) (later : List Deadline), s.osc.phase = .running → s.auc.deadlines = d :: later →
    let v := group s d.group
    let stepped := decide (∃ sp ∈ s.auc.spans, sp.before < d.instant ∧ d.instant ≤ sp.after)
    let handled := fun (t : State) (kind : NoticeKind) (flags : NoticeFlags) (v' : Group) (next : Option (Nat × Tag)) =>
      t.auc = { s.auc with
        groups := s.auc.groups.set d.group v'
        deadlines := match next with
          | some (i, tag) => insertDeadline ⟨i, d.group, tag⟩ (dropDeadline d.group s.auc.deadlines)
          | none => dropDeadline d.group s.auc.deadlines
        notices := s.auc.notices ++
          [⟨⟨d.instant, s.tsu.leap, s.div.cls, s.tsu.state⟩, s.osc.tick, noticeOf kind d.group v' flags⟩]
        spans := t.auc.spans }
      ∧ t = { s with auc := t.auc }
    (s.tsu.xt < d.instant ∨ 128 ≤ s.auc.notices.length →
      exec .startDeadline s = .next s ∧ exec .endDeadline s = .next s ∧ exec .cutoffDeadline s = .next s
        ∧ exec .decideLimit s = .next s)
    ∧ (d.instant ≤ s.tsu.xt → s.auc.notices.length < 128 →
      (d.tag = .start → ∃ t, exec .startDeadline s = .next t
        ∧ handled t .callOpen ⟨stepped, false, false, false⟩ { v with state := .call } (some (v.tEnd, .end_)))
      ∧ (d.tag = .decideLimit → v.dflt = .extend → v.ext < 7 → d.instant + 10 ^ 9 * v.dfltE < 2 ^ 64 →
        ∃ t, exec .decideLimit s = .next t ∧ handled t .reopen ⟨stepped, true, false, false⟩
          { v with state := .call, ext := v.ext + 1, tEnd := d.instant + 10 ^ 9 * v.dfltE, w := v.dfltW, r := none,
                   cutoff := none, limit := none }
          (some (d.instant + 10 ^ 9 * v.dfltE, .end_)))
      ∧ (d.tag = .decideLimit → v.dflt = .close ∨ 7 ≤ v.ext →
        ∃ t, exec .decideLimit s = .next t
          ∧ handled t .close ⟨stepped, true, false, false⟩ { v with state := .closed } none))

/-- R102 to R104, R125: a due END draws r from 0 to W (0 without a draw when W is 0) and sets the cutoff to T_end plus r µs; an
r above 0 opens the window with a WINDOW_OPEN notice, an r of 0 makes the cutoff at once; STRICT with a class below A makes it
at T_end, UNTRACEABLE, without a draw. A due CUTOFF makes it at the instant drawn. The cutoff enters DECIDE, with its notice,
its AUCTION_DRAW report, its DECIDE_LIMIT deadline and DECIDE_PENDING. The draw is a free value (log 5); the spans of steps are
log 21. -/
def Obligations.end_draws_the_cutoff_and_the_cutoff_enters_decide : Prop :=
  ∀ (s : State) (d : Deadline) (later : List Deadline), s.osc.phase = .running → s.auc.deadlines = d :: later →
    d.instant ≤ s.tsu.xt → s.auc.notices.length < 128 →
    let g := d.group
    let v := group s g
    let stepped := decide (∃ sp ∈ s.auc.spans, sp.before < d.instant ∧ d.instant ≤ sp.after)
    let notice := fun (stamp : Nat) (n : Notice) =>
      s.auc.notices ++ [⟨⟨stamp, s.tsu.leap, s.div.cls, s.tsu.state⟩, s.osc.tick, n⟩]
    let moved := fun (t : State) (v' : Group) (instant : Nat) (tag : Tag) (notices : List QueuedNotice) =>
      t.auc = { s.auc with groups := s.auc.groups.set g v', notices := notices, spans := t.auc.spans, draws := t.auc.draws,
                           deadlines := insertDeadline ⟨instant, g, tag⟩ (dropDeadline g s.auc.deadlines) }
    let decided := fun (t : State) (r cutoff : Nat) (flags : NoticeFlags) =>
      let limit := cutoff + 10 ^ 9 * v.d
      let v' : Group := { v with state := .decide, r := some r, cutoff := some cutoff, limit := some limit }
      limit < 2 ^ 64 → moved t v' limit .decideLimit (notice cutoff (noticeOf .cutoff g v' flags))
        ∧ t.evu = (makeEvidence (.auctionDraw g flags v.cycle v.tEnd v.w r cutoff) s).evu ∧ s.stg.reservedOnly t.stg
        ∧ t.arc.has .decidePending = true ∧ (∀ x, x ≠ .decidePending → t.arc.has x = s.arc.has x)
        ∧ t.arc = { s.arc with cause := t.arc.cause, messages := t.arc.messages, messaged := t.arc.messaged }
        ∧ t = { s with auc := t.auc, evu := t.evu, stg := t.stg, arc := t.arc }
    (d.tag = .end_ → v.strict = false ∨ s.div.cls = .a → ∃ t r, exec .endDeadline s = .next t ∧ r ≤ v.w
      ∧ t.auc.draws = s.auc.draws + (if v.w = 0 then 0 else 1)
      ∧ (r = 0 → decided t 0 v.tEnd ⟨stepped, false, false, false⟩)
      ∧ (0 < r → v.tEnd + 1000 * r < 2 ^ 64 →
        let v' : Group := { v with state := .window, r := some r, cutoff := some (v.tEnd + 1000 * r) }
        moved t v' (v.tEnd + 1000 * r) .cutoff (notice v.tEnd (noticeOf .windowOpen g v' ⟨stepped, false, false, false⟩))
          ∧ t = { s with auc := t.auc }))
    ∧ (d.tag = .end_ → v.strict = true → s.div.cls ≠ .a → ∃ t, exec .endDeadline s = .next t ∧ t.auc.draws = s.auc.draws
      ∧ decided t 0 v.tEnd ⟨stepped, false, true, false⟩)
    ∧ ∀ r c, d.tag = .cutoff → v.r = some r → v.cutoff = some c → ∃ t, exec .cutoffDeadline s = .next t
      ∧ t.auc.draws = s.auc.draws ∧ decided t r c ⟨stepped, false, false, false⟩

/-- R98, R100, R169, R170: SCHEDULE is checked in order, the first failure giving the outcome; an accepted one fills the group's
entry with its clamped parameters and the next cycle number, and enters SCHEDULED with a START deadline, or, with a start at or
below now, CALL with a CALL_OPEN notice and an END deadline, once the queue has room and no deadline is due. That a SCHEDULE
into SCHEDULED waits for nothing is log 15; the place of the STRICT check is log 42; that an acceptance marks this tick's XT as read
is log 36. -/
def Obligations.schedule_is_checked_clamped_and_entered : Prop :=
  ∀ (s : State) (b : List Byte), Offered 0x10 b s →
    let p : ScheduleParams := {
      group := byteAt b 16, dflt := byteAt b 17, strict := byteAt b 18, w := fieldAt b 20 4, dfltW := fieldAt b 24 4
      d := fieldAt b 28 2, dfltE := fieldAt b 30 2, start := fieldAt b 32 8, tEnd := fieldAt b 40 8 }
    let bad := 64 ≤ p.group ∨ 2 ≤ p.dflt ∨ 2 ≤ p.strict ∨ 2 ^ 63 ≤ p.start ∨ 2 ^ 63 ≤ p.tEnd
    (bad → exec .schedule s = .next (answer .badParam [] s))
    ∧ ∀ g : Fin 64, p.group = g.val → ¬bad →
      let v := group s g
      let now := s.tsu.xt
      let refused := fun (o : ReqOutcome) => exec .schedule s = .next (answer o [⟨2, 1, v.state.code⟩, ⟨3, 2, v.cycle⟩] s)
      let past := p.tEnd ≤ now ∨ p.tEnd ≤ p.start
      let entry := fun (state : GroupState) (start : Nat) => ({
        state := state, cycle := (v.cycle + 1) % 65536, start := start, tEnd := p.tEnd, w := min 300000000 p.w, r := none,
        cutoff := none, ext := 0, d := max 1 (min 600 p.d), dflt := if p.dflt = 0 then .close else .extend,
        dfltE := max 1 (min 3600 p.dfltE), dfltW := min 300000000 p.dfltW, strict := p.strict == 1, limit := none } : Group)
      let exact := p.w ≤ 300000000 ∧ p.dfltW ≤ 300000000 ∧ 1 ≤ p.d ∧ p.d ≤ 600 ∧ 1 ≤ p.dfltE ∧ p.dfltE ≤ 3600
      let accepted := fun (t : State) (v' : Group) (instant : Nat) (tag : Tag) (notices : List QueuedNotice) =>
        t.auc = { s.auc with groups := s.auc.groups.set g v', notices := notices,
                             deadlines := insertDeadline ⟨instant, g, tag⟩ (dropDeadline g s.auc.deadlines) }
        ∧ t.rqp = (answer (if exact then .ok else .clamped) [⟨2, 1, v'.state.code⟩, ⟨3, 2, v'.cycle⟩, ⟨16, 8, v'.start⟩,
            ⟨24, 4, v'.w⟩, ⟨28, 4, v'.dfltW⟩, ⟨32, 2, v'.d⟩, ⟨34, 2, v'.dfltE⟩] s).rqp
        ∧ t = { s with tsu := { s.tsu with xtRead := true }, auc := t.auc, rqp := t.rqp }
      (v.state ≠ .idle → refused .busyGroup)
      ∧ (v.state = .idle → s.tsu.state = .unset → refused .notSet)
      ∧ (v.state = .idle → s.tsu.state ≠ .unset → past → refused .past)
      ∧ (v.state = .idle → s.tsu.state ≠ .unset → ¬past →
        (now < p.start → ∃ t, exec .schedule s = .next t
          ∧ accepted t (entry .scheduled p.start) p.start .start s.auc.notices)
        ∧ (p.start ≤ now → s.auc.notices.length < 128 → dueHead s = none → ∃ t, exec .schedule s = .next t
          ∧ accepted t (entry .call now) p.tEnd .end_ (s.auc.notices ++
              [⟨⟨now, s.tsu.leap, s.div.cls, s.tsu.state⟩, s.osc.tick,
                noticeOf .callOpen g (entry .call now) ⟨false, false, false, false⟩⟩]))
        ∧ (p.start ≤ now → 128 ≤ s.auc.notices.length ∨ dueHead s ≠ none → exec .schedule s = .next s))

/-- R98, R111, R112, R170: AMEND moves T_end, and in SCHEDULED the start, and their deadline, or opens the call when the start given is
at or below now; CANCEL ends a cycle in SCHEDULED, CALL or WINDOW, from WINDOW with the draw shown. Each is refused as its checks say,
BAD_PARAM first. The place of the flag's check is log 42; that an acceptance marks this tick's XT as read, log 36. The
result shows the group after the tick, at which a due START can still be handled (R101, R170): the end of the tick forms it again, and
its writes do not complete before (log 45). -/
def Obligations.amend_moves_a_cycle_and_cancel_ends_it : Prop :=
  ∀ (s : State) (b : List Byte),
    let p : AmendParams := { group := byteAt b 16, startFlag := byteAt b 17, tEnd := fieldAt b 24 8, start := fieldAt b 32 8 }
    let bad := 64 ≤ p.group ∨ 2 ≤ p.startFlag ∨ 2 ^ 63 ≤ p.tEnd ∨ (p.startFlag = 1 ∧ 2 ^ 63 ≤ p.start)
    (Offered 0x11 b s → bad → exec .amend s = .next (answer .badParam [] s))
    ∧ (Offered 0x12 b s → 64 ≤ p.group → exec .cancel s = .next (answer .badParam [] s))
    ∧ ∀ g : Fin 64, p.group = g.val →
      let v := group s g
      let now := s.tsu.xt
      let free := s.auc.notices.length < 128 ∧ dueHead s = none
      let note := fun (kind : NoticeKind) (v' : Group) (flags : NoticeFlags) =>
        s.auc.notices ++ [⟨⟨now, s.tsu.leap, s.div.cls, s.tsu.state⟩, s.osc.tick, noticeOf kind g v' flags⟩]
      let rest := dropDeadline g s.auc.deadlines
      let header := fun (v' : Group) => ([⟨2, 1, v'.state.code⟩, ⟨3, 2, v'.cycle⟩] : List Field)
      (Offered 0x11 b s → ¬bad →
        let refused := fun (o : ReqOutcome) => exec .amend s = .next (answer o (header v) s)
        let wrong := (v.state ≠ .scheduled ∧ v.state ≠ .call) ∨ (v.state = .call ∧ p.startFlag = 1)
        let past := p.tEnd < v.tEnd ∨ p.tEnd ≤ now ∨ (p.startFlag = 1 ∧ p.tEnd ≤ p.start)
        let amended := fun (v' : Group) (d : Deadline) (notices : List QueuedNotice) (r : Option TickResult) =>
          ∃ t, exec .amend s = .next t
          ∧ t.auc = { s.auc with groups := s.auc.groups.set g v', deadlines := insertDeadline d rest, notices := notices }
          ∧ t.rqp = { (answer .ok (header v' ++ [⟨16, 8, v'.start⟩, ⟨24, 8, v'.tEnd⟩]) s).rqp with tickResult := r }
          ∧ t = { s with tsu := { s.tsu with xtRead := true }, auc := t.auc, rqp := t.rqp }
        (wrong → refused .wrongState)
        ∧ (¬wrong → past → refused .past)
        ∧ (¬past → v.state = .call → p.startFlag = 0 →
          amended { v with tEnd := p.tEnd } ⟨p.tEnd, g, .end_⟩ s.auc.notices (some (.group g)))
        ∧ (¬past → v.state = .scheduled → p.startFlag = 0 →
          amended { v with tEnd := p.tEnd } ⟨v.start, g, .start⟩ s.auc.notices (some (.group g)))
        ∧ (¬past → v.state = .scheduled → p.startFlag = 1 → now < p.start →
          amended { v with tEnd := p.tEnd, start := p.start } ⟨p.start, g, .start⟩ s.auc.notices (some (.group g)))
        ∧ (¬past → v.state = .scheduled → p.startFlag = 1 → p.start ≤ now →
          let v' : Group := { v with tEnd := p.tEnd, state := .call, start := now }
          (free → amended v' ⟨p.tEnd, g, .end_⟩ (note .callOpen v' ⟨false, false, false, false⟩) s.rqp.tickResult)
          ∧ (¬free → exec .amend s = .next s)))
      ∧ (Offered 0x12 b s →
        let idle : Group := { v with state := .idle, r := none, cutoff := none, limit := none }
        let open_ := v.state = .scheduled ∨ v.state = .call ∨ v.state = .window
        (¬open_ → exec .cancel s = .next (answer .wrongState (header v) s))
        ∧ (open_ → ¬free → exec .cancel s = .next s)
        ∧ (open_ → free → ∃ t, exec .cancel s = .next t
          ∧ t.auc = { s.auc with groups := s.auc.groups.set g idle, deadlines := rest,
                                 notices := note .cancel v ⟨false, false, false, decide (v.state = .window)⟩ }
          ∧ (v.state ≠ .window → t.evu = s.evu ∧ t.stg = s.stg ∧ t.rqp = (answer .ok (header idle) s).rqp)
          ∧ (∀ r c, v.state = .window → v.r = some r → v.cutoff = some c →
            t.evu = (makeEvidence (.auctionDraw g ⟨false, false, false, true⟩ v.cycle v.tEnd v.w r c) s).evu
              ∧ t.rqp = (answer .ok (header idle ++ [⟨5, 1, 1⟩, ⟨16, 8, c⟩, ⟨24, 4, r⟩]) s).rqp)
          ∧ s.stg.reservedOnly t.stg ∧ t = { s with
              tsu := { s.tsu with xtRead := true }, auc := t.auc, evu := t.evu, stg := t.stg, rqp := t.rqp }))

/-- R98, R106 to R108, R113, R170: a DECIDE before the decide deadline of a group in DECIDE closes the auction, or reopens the call
with the extension count raised and E and W clamped; a CLEAR of a CLOSED group makes it IDLE. Each makes its notice once the queue has
room and no deadline is due, and is refused as its checks say, BAD_PARAM first. Which row takes a decision code that names nothing is
log 14; that an acceptance and EXT_LIMIT mark this tick's XT as read is log 36. -/
def Obligations.decide_closes_or_extends_and_clear_idles : Prop :=
  ∀ (s : State) (b : List Byte),
    let p : DecideParams := { group := byteAt b 16, decision := byteAt b 17, e := fieldAt b 18 2, w := fieldAt b 20 4 }
    let c : Instr := if p.decision = 0 then .decideClose else .decideExtend
    (Offered 0x13 b s → 64 ≤ p.group ∨ 2 ≤ p.decision → exec c s = .next (answer .badParam [] s))
    ∧ (Offered 0x13 b s → 2 ≤ p.decision → exec .decideClose s = .next (answer .badParam [] s))
    ∧ (Offered 0x14 b s → 64 ≤ p.group → exec .clear s = .next (answer .badParam [] s))
    ∧ ∀ g : Fin 64, p.group = g.val →
      let v := group s g
      let now := s.tsu.xt
      let free := s.auc.notices.length < 128 ∧ dueHead s = none
      let header := fun (v' : Group) => ([⟨2, 1, v'.state.code⟩, ⟨3, 2, v'.cycle⟩] : List Field)
      let made := fun (t : State) (v' : Group) (deadlines : List Deadline) (n : Notice) =>
        t.auc = { s.auc with groups := s.auc.groups.set g v', deadlines := deadlines,
                             notices := s.auc.notices ++ [⟨⟨now, s.tsu.leap, s.div.cls, s.tsu.state⟩, s.osc.tick, n⟩] }
        ∧ t = { s with tsu := { s.tsu with xtRead := true }, auc := t.auc, rqp := t.rqp }
      let rest := dropDeadline g s.auc.deadlines
      (Offered 0x13 b s → p.decision ≤ 1 →
        let refused := fun (o : ReqOutcome) => exec c s = .next (answer o (header v) s)
        let late := ∃ l, v.limit = some l ∧ l ≤ now
        let decided := fun (v' : Group) => header v' ++ ([⟨5, 1, if v'.limit.isSome then 2 else 0⟩, ⟨6, 1, v'.ext⟩, ⟨16, 8, v'.tEnd⟩,
          ⟨24, 4, v'.w⟩, ⟨28, 8, v'.limit.getD 0⟩] : List Field)
        (v.state ≠ .decide → refused .wrongState)
        ∧ (v.state = .decide → late → refused .tooLate)
        ∧ (v.state = .decide → ¬late → p.decision = 1 → 7 ≤ v.ext → exec c s
          = .next (answer .extLimit (header v) { s with tsu := { s.tsu with xtRead := true } }))
        ∧ (v.state = .decide → ¬late → p.decision = 0 ∨ v.ext < 7 → ¬free → exec c s = .next s)
        ∧ (v.state = .decide → ¬late → p.decision = 0 → free → ∃ t, exec .decideClose s = .next t
          ∧ made t { v with state := .closed } rest
              (noticeOf .close g { v with state := .closed } ⟨false, false, false, false⟩)
          ∧ t.rqp = (answer .ok (decided { v with state := .closed }) s).rqp)
        ∧ (v.state = .decide → ¬late → p.decision = 1 → v.ext < 7 → free →
          let e := max 1 (min 3600 p.e)
          let v' : Group := { v with state := .call, ext := v.ext + 1, tEnd := now + 10 ^ 9 * e, w := min 300000000 p.w,
                                     r := none, cutoff := none, limit := none }
          now + 10 ^ 9 * e < 2 ^ 64 → ∃ t, exec .decideExtend s = .next t
          ∧ made t v' (insertDeadline ⟨now + 10 ^ 9 * e, g, .end_⟩ rest) (noticeOf .reopen g v' ⟨false, false, false, false⟩)
          ∧ t.rqp = (answer (if e = p.e ∧ p.w ≤ 300000000 then .ok else .clamped) (decided v') s).rqp))
      ∧ (Offered 0x14 b s →
        let idle : Group := { v with state := .idle, r := none, cutoff := none, limit := none }
        (v.state ≠ .closed → exec .clear s = .next (answer .wrongState (header v) s))
        ∧ (v.state = .closed → ¬free → exec .clear s = .next s)
        ∧ (v.state = .closed → free → ∃ t, exec .clear s = .next t
          ∧ made t idle rest (noticeOf .clear g v ⟨false, false, false, false⟩)
          ∧ t.rqp = (answer .ok (header idle) s).rqp))

/-- R72, R105, R114, R115: QUERY_PORT and QUERY_GROUP answer OK at once with the values of the tick, and BAD_PARAM for a port above 7 or
a group above 63; they change nothing but the slot, QUERY_GROUP shows the group as it is at
its take (log 45), and marks this tick's XT as read (log 36). The r and the cutoff of a
group in WINDOW stand in no answer, and in no notice made while they are secret: CALL_OPEN, WINDOW_OPEN and REOPEN carry them
absent. -/
def Obligations.queries_read_their_port_or_group : Prop :=
  (∀ (kind : NoticeKind) (g : Fin 64) (v : Group) (flags : NoticeFlags),
    let hidden := kind = .callOpen ∨ kind = .windowOpen ∨ kind = .reopen
    noticeOf kind g v flags = {
      kind := kind, group := g, cycle := v.cycle, flags := flags, tEnd := v.tEnd, w := v.w, ext := v.ext
      cutoff := if hidden then none else v.cutoff, r := if hidden then none else v.r
      limit := if hidden ∨ kind = .cancel then none else v.limit })
  ∧ ∀ (s : State) (b : List Byte),
    (Offered 0x20 b s →
      (∀ n : Fin 8, byteAt b 16 = n.val →
        let p := port s n
        let left := match p.armEnd with | some e => e - s.osc.tick | none => 0
        let openGap := ∃ e lost last, p.fifo.getLast? = some e ∧ e.body = .gap lost last true
        ∃ (flags lost : Nat), exec .queryPort s = .next (answer .ok [⟨2, 1, p.state.code⟩, ⟨3, 1, flags⟩, ⟨4, 2, p.fifo.length⟩,
            ⟨6, 2, left⟩, ⟨16, 8, p.counters.recorded⟩, ⟨24, 8, p.counters.filtered⟩, ⟨32, 8, p.counters.malformed⟩,
            ⟨40, 8, p.counters.lost⟩, ⟨48, 8, p.counters.arming⟩, ⟨56, 4, min 4294967295 lost⟩, ⟨60, 4, portCrc n p⟩] s)
          ∧ flags < 8 ∧ flags.testBit 0 = p.present ∧ (flags.testBit 1 = true ↔ ∃ e, p.armEnd = some e ∧ s.osc.tick < e)
          ∧ (flags.testBit 2 = true ↔ openGap) ∧ (¬openGap → lost = 0)
          ∧ ∀ e had last, p.fifo.getLast? = some e → e.body = .gap had last true → lost = had)
      ∧ (7 < byteAt b 16 → exec .queryPort s = .next (answer .badParam [] s)))
    ∧ (Offered 0x15 b s →
      (∀ g : Fin 64, byteAt b 16 = g.val →
        let v := group s g
        let r := if v.state = .window then none else v.r
        let cutoff := if v.state = .window then none else v.cutoff
        let flag := fun (n : Nat) (x : Bool) => if x then n else 0
        exec .queryGroup s = .next (answer .ok [⟨2, 1, v.state.code⟩, ⟨3, 2, v.cycle⟩,
          ⟨5, 1, flag 1 r.isSome + flag 2 v.limit.isSome + flag 4 (decide (v.dflt = .extend)) + flag 8 v.strict⟩, ⟨6, 1, v.ext⟩,
          ⟨16, 8, s.tsu.xt⟩, ⟨24, 8, v.start⟩, ⟨32, 8, v.tEnd⟩, ⟨40, 8, cutoff.getD 0⟩, ⟨48, 4, v.w⟩, ⟨52, 4, r.getD 0⟩,
          ⟨56, 4, v.dfltW⟩, ⟨60, 2, v.d⟩, ⟨62, 2, v.dfltE⟩] { s with tsu := { s.tsu with xtRead := true } })
        ∧ ∀ r' c', v.state = .window →
          queryResult { s with auc := { s.auc with groups := s.auc.groups.set g { v with r := r', cutoff := c' } } } g
            = queryResult s g)
      ∧ (63 < byteAt b 16 → exec .queryGroup s = .next (answer .badParam [] s)))

/-! ### Journal writer -/

/-- R85, R88, R146, R147: with the burst buffer EMPTY a burst start serves the first servable stream of AUCTION, EVIDENCE,
ARRIVAL, opening its oldest lent segment when it has none open, and takes up to 16 records from its staging, never past the
capacity; the writes are the records in their slots and then the fill, which a burst that fills the segment does not write. The
writes in flight are kept with their bytes (log 12), and the fill's address is of the AREA at the burst start (log 48). -/
def Obligations.burst_start_serves_the_first_servable_stream : Prop :=
  ∀ (s : State) (st : Sys2Proof.Stream), s.osc.phase = .running → s.jwr.phase = .empty →
    let runs := s.arc.enable = true ∧ s.arc.linkReset = none
    let serves := fun (x : Sys2Proof.Stream) => runs ∧ s.stg.staged.get x ≠ [] ∧
      ((s.arc.openSeg.get x).isSome ∨ s.arc.lent.get x ≠ [])
    let rank : Sys2Proof.Stream → Nat := fun x => match x with | .auction => 0 | .evidence => 1 | .arrival => 2
    ((∀ x, ¬serves x) → exec .burstStart s = .next s)
    ∧ (serves st → (∀ x, serves x → rank st ≤ rank x) →
      ∀ (seg : OpenSeg) (c : SegCopy), s.arc.copies[seg.index] = some c →
        (s.arc.openSeg.get st = some seg
          ∨ s.arc.openSeg.get st = none ∧ (s.arc.lent.get st).head? = some seg.index ∧ seg = ⟨seg.index, 0, none, none⟩) →
        ∃ t, exec .burstStart s = .next t
        ∧ (let n := min 16 (min (s.stg.staged.get st).length (c.capacity - seg.fill))
          let records := (s.stg.staged.get st).take n
          let after : OpenSeg := ⟨seg.index, seg.fill + n, seg.first.or (records.head?.map Record.seq),
            (records.getLast?.map Record.seq).or seg.last⟩
          t.jwr.phase = .inFlight st ∧ t.jwr.records = records
          ∧ t.jwr.writes = recordWrites (c.base + 64 * seg.fill) records ++
              (if after.fill < c.capacity then
                [cellsFrom (entryAddr s.arc.area seg.index) (entryBytes .opened .none after.fill after.first after.last)] else [])
          ∧ t.stg = { s.stg with staged := s.stg.staged.put st ((s.stg.staged.get st).drop n), openGap := t.stg.openGap }
          ∧ (st ≠ .arrival → t.stg.openGap = s.stg.openGap)
          ∧ (st = .arrival → t.stg.openGap = (s.stg.openGap && decide (n < (s.stg.staged.get st).length))))
        ∧ t.arc.openSeg.get st = some seg
        ∧ (s.arc.openSeg.get st = some seg → t.arc = s.arc)
        ∧ (s.arc.openSeg.get st = none → t.arc = { s.arc with
            openSeg := s.arc.openSeg.put st (some seg), lent := s.arc.lent.put st (s.arc.lent.get st).tail
            copies := s.arc.copies.set seg.index (some { c with held := .opened }) })
        ∧ t = { s with stg := t.stg, jwr := t.jwr, arc := t.arc })

/-- R147, R148, R149: a burst that succeeds adds its records to the open segment and sets the stream's NEW bit; one that fills the
segment closes it with reason FULL and sets no bit; a CUT that waits for the burst closes the segment after it with reason CUT. The
close issues the trailer. The starvation rule is applied after it (R150, R151; log 25). -/
def Obligations.burst_success_fills_or_closes_the_segment : Prop :=
  ∀ (s : State) (st : Sys2Proof.Stream) (seg : OpenSeg) (c : SegCopy), s.osc.phase = .running → s.jwr.phase = .inFlight st →
    s.arc.openSeg.get st = some seg → s.arc.copies[seg.index] = some c →
    let after : OpenSeg := ⟨seg.index, seg.fill + s.jwr.records.length, seg.first.or (s.jwr.records.head?.map Record.seq),
      (s.jwr.records.getLast?.map Record.seq).or seg.last⟩
    let cut := s.rqp.phase = .answering (.cutBurst st)
    ∃ t, exec (.burstComplete true) s = .next t ∧ t.jwr = { phase := .empty, records := [], writes := [] }
      ∧ (let closed := fun (reason : SegReason) =>
          t.arc.openSeg = s.arc.openSeg.put st none
          ∧ t.arc.closing = s.arc.closing.put st (s.arc.closing.get st ++ [⟨seg.index, after.fill, after.first, after.last, reason,
              cellsFrom (entryAddr s.arc.area seg.index) (entryBytes .filled reason after.fill after.first after.last)⟩])
          ∧ t.arc.copies = s.arc.copies.set seg.index (some { c with held := .closing })
        (c.capacity ≤ after.fill → closed .full ∧ t.arc.has (newCause st) = s.arc.has (newCause st))
        ∧ (after.fill < c.capacity → t.arc.has (newCause st) = true)
        ∧ (after.fill < c.capacity → cut → closed .cut)
        ∧ (after.fill < c.capacity → ¬cut → t.arc.openSeg = s.arc.openSeg.put st (some after)
          ∧ t.arc.closing = s.arc.closing ∧ t.arc.copies = s.arc.copies)
        ∧ (cut → t.rqp = { s.rqp with phase := .answering (.cutTrailer st seg.index) }) ∧ (¬cut → t.rqp = s.rqp))
      ∧ (∀ x : Cause, x ≠ newCause st → x ≠ .starved → t.arc.has x = s.arc.has x)
      ∧ StarvationNoted s.arc.starved s t
      ∧ t.arc = { s.arc with
          openSeg := t.arc.openSeg, closing := t.arc.closing, copies := t.arc.copies, starved := t.arc.starved
          cause := t.arc.cause, messages := t.arc.messages, messaged := t.arc.messaged }
      ∧ t = { s with jwr := t.jwr, arc := t.arc, rqp := t.rqp }

/-- R147, R152, R175, R177: a burst that fails leaves its segment FAULTED with reason BURST at the fill it had, with WRITE_FAULT, and its
records wait in the buffer, and the starvation rule is applied (R150, R151; log 25); a burst start then sends them to the stream's
oldest lent segment, with the fill after them unless they fill it, and starts nothing while there is none. A CUT that waits for the
burst is answered with the segment's FAULTED; once a link reset has withdrawn the request processor the answer is discarded (R177), and
that the slot phase is then IDLE is the model's choice (log 43), as is the AREA of the fill write (log 48). -/
def Obligations.failed_burst_waits_and_is_sent_again : Prop :=
  ∀ (s : State) (st : Sys2Proof.Stream), s.osc.phase = .running →
    (∀ seg, s.jwr.phase = .inFlight st → s.arc.openSeg.get st = some seg → ∃ t, exec (.burstComplete false) s = .next t
      ∧ t.jwr = { s.jwr with phase := .waiting st, writes := [] }
      ∧ t.arc.openSeg = s.arc.openSeg.put st none ∧ t.arc.copies = s.arc.copies.set seg.index none
      ∧ t.arc.entryWrites = s.arc.entryWrites ++
          [cellsFrom (entryAddr s.arc.area seg.index) (entryBytes .faulted .burst seg.fill seg.first seg.last)]
      ∧ t.arc.has .writeFault = true ∧ (∀ x : Cause, x ≠ .writeFault → x ≠ .starved → t.arc.has x = s.arc.has x)
      ∧ StarvationNoted s.arc.starved s t
      ∧ t.arc = { s.arc with
          openSeg := t.arc.openSeg, copies := t.arc.copies, entryWrites := t.arc.entryWrites, starved := t.arc.starved
          cause := t.arc.cause, messages := t.arc.messages, messaged := t.arc.messaged }
      ∧ (s.rqp.phase = .answering (.cutBurst st) → s.rqp.withdrawn = false →
        t.rqp = (answer .ok [⟨2, 1, EntryState.faulted.code⟩, ⟨3, 1, SegReason.burst.code⟩, ⟨4, 1, seg.index.val⟩, ⟨16, 4, seg.fill⟩,
            ⟨24, 8, seg.first.getD 0⟩, ⟨32, 8, seg.last.getD 0⟩]
          { s with arc := { s.arc with copies := s.arc.copies.set seg.index none } }).rqp)
      ∧ (s.rqp.phase = .answering (.cutBurst st) → s.rqp.withdrawn = true → t.rqp = { s.rqp with phase := .idle })
      ∧ (s.rqp.phase ≠ .answering (.cutBurst st) → t.rqp = s.rqp)
      ∧ t = { s with jwr := t.jwr, arc := t.arc, rqp := t.rqp })
    ∧ (s.jwr.phase = .waiting st →
      let runs := s.arc.enable = true ∧ s.arc.linkReset = none
      (¬runs ∨ s.arc.lent.get st = [] → exec .burstStart s = .next s)
      ∧ ∀ i rest c, runs → s.arc.lent.get st = i :: rest → s.arc.copies[i] = some c → ∃ t, exec .burstStart s = .next t
        ∧ t.jwr.phase = .inFlight st ∧ t.jwr.records = s.jwr.records
        ∧ (let n := s.jwr.records.length
          let first := s.jwr.records.head?.map Record.seq
          let last := s.jwr.records.getLast?.map Record.seq
          t.jwr.writes = recordWrites c.base s.jwr.records ++
            (if n < c.capacity then [cellsFrom (entryAddr s.arc.area i) (entryBytes .opened .none n first last)] else []))
        ∧ t.arc = { s.arc with openSeg := s.arc.openSeg.put st (some ⟨i, 0, none, none⟩), lent := s.arc.lent.put st rest
                               copies := s.arc.copies.set i (some { c with held := .opened }) }
        ∧ t = { s with jwr := t.jwr, arc := t.arc })

/-- R148, R149, R153, R174, R175, R177: a CUT closes the stream's open segment, after the burst in flight to it if there is one, and is
answered at the trailer's end; the oldest trailer of a stream that succeeds makes its segment FILLED and host-owned with FILLED and
NEW set, and one that fails makes it FAULTED with reason TRAILER and sets WRITE_FAULT. Once a link reset has withdrawn the request
processor the answer is discarded, and that the slot phase is then IDLE is log 43. The starvation rule is applied after the close of a
CUT (R150, R151; log 25). -/
def Obligations.cut_and_trailers_end_a_segment : Prop :=
  ∀ (s : State) (st : Sys2Proof.Stream), s.osc.phase = .running →
    (∀ b, Offered 0x30 b s → byteAt b 16 = (match st with | .arrival => 2 | .auction => 3 | .evidence => 4) →
      (s.arc.openSeg.get st = none → exec .cut s = .next (answer .streamIdle [] s))
      ∧ ∀ seg, s.arc.openSeg.get st = some seg →
        (s.jwr.phase = .inFlight st →
          exec .cut s = .next { s with rqp := { s.rqp with phase := .answering (.cutBurst st) } })
        ∧ (s.jwr.phase ≠ .inFlight st → ∃ t, exec .cut s = .next t
          ∧ t.rqp = { s.rqp with phase := .answering (.cutTrailer st seg.index) }
          ∧ t.arc.openSeg = s.arc.openSeg.put st none
          ∧ t.arc.closing = s.arc.closing.put st (s.arc.closing.get st ++ [⟨seg.index, seg.fill, seg.first, seg.last, .cut,
              cellsFrom (entryAddr s.arc.area seg.index) (entryBytes .filled .cut seg.fill seg.first seg.last)⟩])
          ∧ (∀ c, s.arc.copies[seg.index] = some c →
            t.arc.copies = s.arc.copies.set seg.index (some { c with held := .closing }))
          ∧ (∀ x : Cause, x ≠ .starved → t.arc.has x = s.arc.has x) ∧ StarvationNoted s.arc.starved s t
          ∧ t.arc = { s.arc with
              openSeg := t.arc.openSeg, closing := t.arc.closing, copies := t.arc.copies, starved := t.arc.starved
              cause := t.arc.cause, messages := t.arc.messages, messaged := t.arc.messaged }
          ∧ t = { s with arc := t.arc, rqp := t.rqp }))
    ∧ (∀ b, Offered 0x30 b s → byteAt b 16 ∉ [2, 3, 4] → exec .cut s = .next (answer .badParam [] s))
    ∧ ∀ x rest, s.arc.closing.get st = x :: rest →
      let answered := fun (t : State) (state : EntryState) (reason : SegReason) =>
        (s.rqp.phase = .answering (.cutTrailer st x.index) → s.rqp.withdrawn = false →
          t.rqp = (answer .ok [⟨2, 1, state.code⟩, ⟨3, 1, reason.code⟩, ⟨4, 1, x.index.val⟩, ⟨16, 4, x.fill⟩,
            ⟨24, 8, x.first.getD 0⟩, ⟨32, 8, x.last.getD 0⟩]
            { s with arc := { s.arc with copies := s.arc.copies.set x.index none } }).rqp)
        ∧ (s.rqp.phase = .answering (.cutTrailer st x.index) → s.rqp.withdrawn = true → t.rqp = { s.rqp with phase := .idle })
        ∧ (s.rqp.phase ≠ .answering (.cutTrailer st x.index) → t.rqp = s.rqp)
        ∧ t.arc = { s.arc with
            closing := s.arc.closing.put st rest, copies := s.arc.copies.set x.index none, entryWrites := t.arc.entryWrites
            cause := t.arc.cause, messages := t.arc.messages, messaged := t.arc.messaged }
        ∧ t = { s with arc := t.arc, rqp := t.rqp }
      (∃ t, exec (.trailerComplete st true) s = .next t ∧ answered t .filled x.reason
        ∧ t.arc.has .filled = true ∧ t.arc.has (newCause st) = true ∧ t.arc.entryWrites = s.arc.entryWrites
        ∧ ∀ x : Cause, x ≠ .filled → x ≠ newCause st → t.arc.has x = s.arc.has x)
      ∧ ∃ t, exec (.trailerComplete st false) s = .next t ∧ answered t .faulted .trailer ∧ t.arc.has .writeFault = true
        ∧ (∀ x : Cause, x ≠ .writeFault → t.arc.has x = s.arc.has x)
        ∧ t.arc.entryWrites = s.arc.entryWrites ++
            [cellsFrom (entryAddr s.arc.area x.index) (entryBytes .faulted .trailer x.fill x.first x.last)]

/-! ### Shared area -/

/-- R150, R155, R156: a cause event sets its bit, and sends an interrupt message when the bit was clear and its mask bit is set,
at most one at a tick; a stream found starved for the first time of its spell is marked and raises STARVED, and no further tick
of the spell does. The count of messages and the tick's flag are log 18; when the rule is applied is log 25. -/
def Obligations.causes_send_messages_and_starvation_is_noted_once : Prop :=
  (∀ (a : Arc) (c : Cause),
    let t := a.raise c
    t.has c = true ∧ (∀ x, x ≠ c → t.has x = a.has x)
      ∧ (a.has c = false → a.unmasked c = true → a.messaged = false → t.messages = a.messages + 1 ∧ t.messaged = true)
      ∧ (a.has c = true ∨ a.unmasked c = false ∨ a.messaged = true → t.messages = a.messages ∧ t.messaged = a.messaged)
      ∧ t = { a with cause := t.cause, messages := t.messages, messaged := t.messaged })
  ∧ ∀ s : State,
    let t := checkStarved s
    let starved := fun (st : Sys2Proof.Stream) => s.arc.enable = true ∧ (s.stg.staged.get st ≠ [] ∨ s.jwr.phase = .waiting st)
      ∧ s.arc.openSeg.get st = none ∧ s.arc.lent.get st = []
    let begins := fun (st : Sys2Proof.Stream) => starved st ∧ s.arc.starved.get st = false
    (∀ st, (starved st → t.arc.starved.get st = true) ∧ (¬starved st → t.arc.starved.get st = s.arc.starved.get st))
      ∧ ((∃ st, begins st) → t.arc.has .starved = true) ∧ ((∀ st, ¬begins st) → t = s)
      ∧ (∀ x : Cause, x ≠ .starved → t.arc.has x = s.arc.has x)
      ∧ t = { s with arc := { s.arc with
          starved := t.arc.starved, cause := t.arc.cause, messages := t.arc.messages, messaged := t.arc.messaged } }

/-- R138, R139, R154, R176: the register reads and writes. A read of AREA, CAUSE and TIME gives the value held, one of CONTROL
ENABLE and the mask with LINK_RESET as 0, one of HAND 0. AREA is taken only while ENABLE is clear and no link reset is in progress, its
low 12 bits as 0; CONTROL replaces ENABLE and the mask unless a link reset is in progress, and the change of ENABLE from 0 to 1
writes the status block, resumes a paused segment, and lets a starvation episode start at once; CAUSE clears the bits written as 1;
any other write is ignored. The row of a CONTROL write fixes ENABLE (log 30). -/
def Obligations.register_writes_follow_their_registers : Prop :=
  ∀ (s : State) (v : RegWord), s.osc.phase = .running →
    let free := s.arc.linkReset = none
    let mask : BitVec 11 := v.extractLsb' 16 11
    (free → s.arc.enable = false → exec (.areaWrite v) s
      = .next { s with arc := { s.arc with area := v.toNat - v.toNat % 4096 } })
    ∧ (¬free ∨ s.arc.enable = true → exec (.areaWrite v) s = .next s)
    ∧ (¬free → exec (.enableSet v) s = .next s ∧ exec (.enableClear v) s = .next s ∧ exec (.maskWrite v) s = .next s)
    ∧ (free → exec (.maskWrite v) s = .next { s with arc := { s.arc with mask := mask } })
    ∧ (free → exec (.enableClear v) s = .next { s with arc := { s.arc with enable := false, mask := mask } })
    ∧ (free → s.arc.enable = true → exec (.enableSet v) s = .next { s with arc := { s.arc with mask := mask } })
    ∧ (free → s.arc.enable = false → ∃ t, exec (.enableSet v) s = .next t
      ∧ t.arc.status = (statusEvent { s with arc := { s.arc with enable := true } }).arc.status
      ∧ t.rqp = (if s.rqp.cur.isSome ∧ s.rqp.phase = .idle then { s.rqp with phase := .reading } else s.rqp)
      ∧ (∀ x : Cause, x ≠ .starved → t.arc.has x = s.arc.has x) ∧ StarvationNoted s.arc.starved s t
      ∧ t = checkStarved { s with rqp := t.rqp, arc := { s.arc with enable := true, mask := mask, status := t.arc.status } }
      ∧ t = { s with rqp := t.rqp, arc := { s.arc with
          enable := true, mask := mask, status := t.arc.status, starved := t.arc.starved, cause := t.arc.cause,
          messages := t.arc.messages, messaged := t.arc.messaged } })
    ∧ (∃ t, exec (.causeWrite v) s = .next t ∧ t = { s with arc := { s.arc with cause := t.arc.cause } }
      ∧ ∀ c : Cause, t.arc.has c = (s.arc.has c && !v.getLsbD c.num))
    ∧ exec (.otherRegisterWrite v) s = .next s
    ∧ (s.arc.area < 2 ^ 64 → (readArea s).toNat = s.arc.area) ∧ readHand s = 0
    ∧ (s.tsu.xt < 2 ^ 64 → (readTime s).toNat = s.tsu.xt)
    ∧ (∀ i, (readControl s).getLsbD i =
      if i = 0 then s.arc.enable else if 16 ≤ i ∧ i ≤ 26 then s.arc.mask.getLsbD (i - 16) else false)
    ∧ ∀ i, (readCause s).getLsbD i =
      if i ≤ 10 then s.arc.cause.getLsbD i else if 56 ≤ i ∧ i ≤ 63 then s.arc.lastRefused.testBit (i - 56) else false

/-- R140, R141: the status block. An event writes the 64 bytes of the block at AREA with the next update counter, or sets the
due flag while a write is in flight, and nothing while ENABLE is clear or a link reset is in progress; a completion makes one
further write when one is due. A write that fails sets WRITE_FAULT; an entry write that completes leaves the list. The image
before the first write is log 17; a completion with nothing in flight is log 2. -/
def Obligations.status_block_and_entry_writes_complete : Prop :=
  ∀ s : State, s.osc.phase = .running →
    let runs := s.arc.enable = true ∧ s.arc.linkReset = none
    let written := fun (base : Arc) =>
      let counter := (s.arc.status.counter + 1) % 2 ^ 32
      let block : StatusBlock := ⟨s.tsu.state, s.osc.state, s.div.cls, s.ref.state, s.tsu.leap, s.div.u, counter, s.tsu.f, s.tsu.p,
        s.tsu.theta, s.seq.counter⟩
      { s with arc := { base with status := ⟨some block, counter, false, some (cellsFrom s.arc.area block.bytes)⟩ } }
    let noted := fun (ok : Bool) (a : Arc) => if ok then a else a.raise .writeFault
    (¬runs → statusEvent s = s)
    ∧ (runs → s.arc.status.inFlight = none → statusEvent s = written s.arc)
    ∧ (runs → s.arc.status.inFlight.isSome →
      statusEvent s = { s with arc := { s.arc with status := { s.arc.status with due := true } } })
    ∧ (s.arc.status.inFlight = none → ∀ ok, exec (.statusWriteComplete ok) s = .next s)
    ∧ (∀ ok, s.arc.status.inFlight.isSome → s.arc.status.due = true → runs →
      exec (.statusWriteComplete ok) s = .next (written (noted ok s.arc)))
    ∧ (∀ ok, s.arc.status.inFlight.isSome → s.arc.status.due = false ∨ ¬runs → exec (.statusWriteComplete ok) s
      = .next { s with arc := noted ok { s.arc with status := { s.arc.status with inFlight := none, due := false } } })
    ∧ ∀ ok i, (i < s.arc.entryWrites.length → exec (.entryWriteComplete i ok) s
        = .next { s with arc := noted ok { s.arc with entryWrites := s.arc.entryWrites.eraseIdx i } })
      ∧ (s.arc.entryWrites.length ≤ i → exec (.entryWriteComplete i ok) s = .next s)

/-- R138, R139, R143: a HAND is taken with a fetch of its entry, the 32 bytes at AREA + 64 + 32 × i, when its segment is host-owned;
it is refused, with HAND_REFUSED and its index noted, when it names no segment or one the part holds; it is held back behind a HAND in
progress, and ignored while ENABLE is clear or a link reset is in progress. The list of writes held back is log 16. -/
def Obligations.hand_write_is_taken_held_back_refused_or_ignored : Prop :=
  ∀ (s : State) (v : RegWord), s.osc.phase = .running →
    let runs := s.arc.enable = true ∧ s.arc.linkReset = none
    let refused := exec (.handWrite v) s
      = .next { s with arc := { s.arc with lastRefused := min 255 v.toNat }.raise .handRefused }
    (¬runs → exec (.handWrite v) s = .next s)
    ∧ (runs → s.arc.hand.isSome → exec (.handWrite v) s
      = .next { s with arc := { s.arc with handHeld := s.arc.handHeld ++ [v.toNat] } })
    ∧ (runs → s.arc.hand = none → 63 < v.toNat → refused)
    ∧ ∀ i : Fin 64, runs → s.arc.hand = none → v.toNat = i.val →
      (s.arc.copies[i] ≠ none → refused)
      ∧ (s.arc.copies[i] = none → exec (.handWrite v) s
        = .next { s with arc := { s.arc with hand := some i, handRead := some (s.arc.area + 64 + 32 * i.val) } })

/-- R142 to R145, R157: when the entry of the HAND in progress has been read, it is refused, with the first check that fails written as
its reason, HAND_REFUSED set and the index noted; or accepted with a private copy, a journal segment LENT at the tail of its stream's
list, which ends the stream's starvation flag, and a request segment QUEUED at the tail of the request queue. The HAND writes held back
behind it are then taken in order, as if they came then, and ignored when ENABLE has been cleared meanwhile (log 16). The read of a
dropped HAND completes unused. The starvation rule is applied after a decision (log 25); a completion with no read in flight is
log 2. -/
def Obligations.hand_fetch_decides_the_segment : Prop :=
  (∀ (s : State) (entry : Option (List Byte)), s.osc.phase = .running →
    (s.arc.handRead = none → exec (.handFetchComplete entry) s = .next s)
    ∧ (s.arc.hand = none → exec (.handFetchComplete entry) s = .next { s with arc := { s.arc with handRead := none } })
    ∧ ∀ held : List RegWord, s.arc.handRead.isSome → s.arc.hand.isSome → s.arc.handHeld = held.map BitVec.toNat →
      ∃ u t, exec (.handFetchComplete entry) { s with arc := { s.arc with handHeld := [] } } = .next u
        ∧ exec (.handFetchComplete entry) s = .next t ∧ Follows (held.map Instr.handWrite) u t)
  ∧ ∀ (s : State) (i : Fin 64) (entry : Option (List Byte)), s.osc.phase = .running → s.arc.handRead.isSome →
    s.arc.hand = some i → s.arc.handHeld = [] →
    ∃ t, exec (.handFetchComplete entry) s = .next t ∧ t = { s with arc := t.arc }
    ∧ t.arc = { s.arc with
        hand := none, handRead := none, handHeld := [], copies := t.arc.copies, lent := t.arc.lent, requests := t.arc.requests
        starved := t.arc.starved, entryWrites := t.arc.entryWrites, lastRefused := t.arc.lastRefused, cause := t.arc.cause
        messages := t.arc.messages, messaged := t.arc.messaged }
    ∧ (∀ x : Cause, x ≠ .handRefused → x ≠ .starved → t.arc.has x = s.arc.has x)
    ∧ (let wrote := fun (state : EntryState) (reason : SegReason) => t.arc.entryWrites = s.arc.entryWrites ++
        [cellsFrom (entryAddr s.arc.area i) (entryBytes state reason 0 none none)]
      let refused := fun (reason : SegReason) => wrote .refused reason ∧ t.arc.has .handRefused = true
        ∧ StarvationNoted s.arc.starved s t ∧ t.arc.lastRefused = i.val ∧ t.arc.lent = s.arc.lent
        ∧ t.arc.requests = s.arc.requests ∧ t.arc.copies = s.arc.copies
      (entry = none → refused .fetch)
      ∧ ∀ e, entry = some e →
        let f := readEntry e
        let known := 1 ≤ f.kindCode ∧ f.kindCode ≤ 4
        let copy := fun (kind : SegKind) (held : HeldState) => t.arc.copies = s.arc.copies.set i
            (some { kind := kind, base := f.base, capacity := f.capacityLess1 + 1, count := f.count, tag := f.tag, held := held })
          ∧ t.arc.has .handRefused = s.arc.has .handRefused ∧ t.arc.lastRefused = s.arc.lastRefused
        (¬known → refused .kind)
        ∧ (known → f.capacityLess1 + 1 < 16 → refused .capacity)
        ∧ (known → 16 ≤ f.capacityLess1 + 1 → f.base % 64 ≠ 0 → refused .align)
        ∧ (16 ≤ f.capacityLess1 + 1 → f.base % 64 = 0 →
          (f.kindCode = 1 →
            (f.count = 0 ∨ f.capacityLess1 + 1 < f.count → refused .count)
            ∧ (1 ≤ f.count → f.count ≤ f.capacityLess1 + 1 → 8 ≤ s.arc.requests.length → refused .full)
            ∧ (1 ≤ f.count → f.count ≤ f.capacityLess1 + 1 → s.arc.requests.length < 8 →
              wrote .queued .none ∧ copy .request .queued ∧ StarvationNoted s.arc.starved s t
              ∧ t.arc.requests = s.arc.requests ++ [i] ∧ t.arc.lent = s.arc.lent))
          ∧ ∀ st : Sys2Proof.Stream, f.kindCode = (match st with | .arrival => 2 | .auction => 3 | .evidence => 4) →
            (16 ≤ (s.arc.lent.get st).length → refused .full)
            ∧ ((s.arc.lent.get st).length < 16 → wrote .lent .none ∧ copy (.journal st) .lent
              ∧ t.arc.lent = s.arc.lent.put st (s.arc.lent.get st ++ [i]) ∧ t.arc.starved.get st = false
              ∧ StarvationNoted (s.arc.starved.put st false) s t ∧ t.arc.requests = s.arc.requests)))

/-- R157 to R159, R177, R178, R135: a link reset begins by hot reset or by LINK_RESET, withdraws the request processor, and a
second cause joins the first. It waits while a burst, a trailer, a status, entry or slot write, or an entry or slot read is in flight;
then it takes effect: every segment is host-owned, the registers return to reset, the request segment is abandoned, and the RESET
record carries the causes gathered, those of a RESET still pending among them. The burst buffer and staging stay.
Dropping the writes held back is log 16, the flag of a waiting MARK log 22, the slot phase after a withdrawal log 43. -/
def Obligations.link_reset_begins_joins_and_takes_effect : Prop :=
  ∀ (s : State) (v : RegWord), s.osc.phase = .running →
    (∀ (c : Instr) (causes : LinkCauses), c = .linkHot ∧ causes = ⟨true, false⟩ ∨ c = .linkReset v ∧ causes = ⟨false, true⟩ →
      (∀ old, s.arc.linkReset = some old → exec c s
        = .next { s with arc := { s.arc with linkReset := some ⟨old.hot || causes.hot, old.soft || causes.soft⟩ } })
      ∧ (s.arc.linkReset = none → ∃ t, exec c s = .next t
        ∧ t.arc = { s.arc with linkReset := some causes, hand := none, handHeld := [] }
        ∧ t.rqp.withdrawn = s.rqp.cur.isSome
        ∧ (s.rqp.phase = .offered ∨ (∃ st, s.rqp.phase = .answering (.cutBurst st)) → t.rqp.phase = .idle)
        ∧ (s.rqp.phase ≠ .offered → (∀ st, s.rqp.phase ≠ .answering (.cutBurst st)) → t.rqp.phase = s.rqp.phase)
        ∧ t.evu.queue = s.evu.queue.map (fun q => { q with asked := false })
        ∧ t = { s with arc := t.arc, evu := { s.evu with queue := t.evu.queue },
                       rqp := { s.rqp with withdrawn := t.rqp.withdrawn, phase := t.rqp.phase } }))
    ∧ (s.arc.linkReset = none → exec .linkResetTakesEffect s = .next s)
    ∧ ((∃ st, s.jwr.phase = .inFlight st) ∨ (∃ st, s.arc.closing.get st ≠ []) ∨ s.arc.status.inFlight ≠ none
        ∨ s.arc.entryWrites ≠ [] ∨ s.arc.handRead ≠ none ∨ s.rqp.phase = .reading ∨ (∃ o w, s.rqp.phase = .writing o w)
        ∨ s.rqp.lateWrites ≠ [] →
      exec .linkResetTakesEffect s = .next s)
    ∧ ∀ c, s.arc.linkReset = some c → (∀ st, s.jwr.phase ≠ .inFlight st) → s.arc.closing = ⟨[], [], []⟩ →
      s.arc.status.inFlight = none → s.arc.entryWrites = [] → s.arc.handRead = none → s.rqp.phase ≠ .reading →
      (∀ o w, s.rqp.phase ≠ .writing o w) → s.rqp.lateWrites = [] →
      let room := s.evu.queue.length < 128 ∧ s.stg.staged.evidence.length + s.stg.reserved < 256
      let old : ResetCauses := s.evu.pendingReset.getD ⟨false, false, false, false⟩
      let causes : ResetCauses := ⟨old.power, old.pin, old.linkHot || c.hot, old.linkSoft || c.soft⟩
      ∃ t, exec .linkResetTakesEffect s = .next t
      ∧ t.arc = { Arc.cleared s.arc.messages with
          messaged := s.arc.messaged, status := { s.arc.status with due := false } }
      ∧ t.rqp = { s.rqp with cur := none, phase := .idle, done := 0, withdrawn := false }
      ∧ (room → t.evu = { s.evu with queue := s.evu.queue ++ [⟨⟨s.tsu.xt, s.tsu.leap, s.div.cls, s.tsu.state⟩, s.osc.tick,
          .reset causes s.osc.state, false⟩], pendingReset := none } ∧ t.stg = { s.stg with reserved := s.stg.reserved + 1 })
      ∧ (¬room → t.evu = { s.evu with pendingReset := some causes } ∧ t.stg = s.stg)
      ∧ t = { s with arc := t.arc, rqp := t.rqp, evu := t.evu, stg := t.stg }

/-! ### Requests -/

/-- R155, R157, R161 to R165, R176, R177, R182: the request processor takes the head of its queue as RUNNING at slot 0; a slot read
is offered to its owner, or answered BAD_KIND; a slot written moves on to the next one, or ends the segment DONE with its fill; an
access that fails ends it FAULTED; each end sets REQ_DONE and takes the index from the queue. A withdrawn processor moves to no other slot.
An answer is two writes: the result area, bytes 2 to 7 and 16 to 63 of the slot, each byte of a field or 0, and then the outcome byte.
A slot completes when both writes have; an error of either sets WRITE_FAULT at its own completion, and the write left in flight after
it is waited for by a link reset. The slot read in flight covers the 64 bytes of the slot. That a take with nothing to take changes
nothing is log 2; that a command completes one write, log 41; the slot phase and the slots completed of a withdrawn slot, logs 43
and 46; that no write of a result completes before the tick that still forms it ends, log 45. -/
def Obligations.request_slots_are_read_run_and_written : Prop :=
  ∀ (s : State), s.osc.phase = .running →
    let runs := s.arc.enable = true ∧ s.arc.linkReset = none
    let entry := fun (i : Fin 64) (state : EntryState) (reason : SegReason) (fill : Nat) =>
      s.arc.entryWrites ++ [cellsFrom (entryAddr s.arc.area i) (entryBytes state reason fill none none)]
    let ended := fun (t : State) (i : Fin 64) (state : EntryState) (reason : SegReason) (fill : Nat) =>
      t.rqp.cur = none ∧ t.rqp.phase = .idle ∧ t.arc.requests = s.arc.requests.filter (· ≠ i)
        ∧ t.arc.copies = s.arc.copies.set i none ∧ t.arc.entryWrites = entry i state reason fill ∧ t.arc.has .reqDone = true
        ∧ (∀ x : Cause, x ≠ .reqDone → x ≠ .writeFault → t.arc.has x = s.arc.has x)
        ∧ t = { s with rqp := t.rqp, arc := { s.arc with
            requests := t.arc.requests, copies := t.arc.copies, entryWrites := t.arc.entryWrites, cause := t.arc.cause,
            messages := t.arc.messages, messaged := t.arc.messaged } }
    (∀ i rest c, s.rqp.cur = none → s.arc.requests = i :: rest → s.arc.copies[i] = some c →
      (¬runs → exec .requestSegmentTake s = .next s)
      ∧ (runs → exec .requestSegmentTake s = .next { s with
          rqp := { s.rqp with cur := some i, slot := 0, done := 0, phase := .reading }
          arc := { s.arc with copies := s.arc.copies.set i (some { c with held := .running })
                              entryWrites := entry i .running .none 0 } }))
    ∧ (s.rqp.cur.isSome ∨ s.arc.requests = [] → exec .requestSegmentTake s = .next s)
    ∧ (∀ bytes, s.rqp.phase = .reading →
      (s.rqp.withdrawn = true → exec (.slotReadComplete bytes) s = .next { s with rqp := { s.rqp with phase := .idle } })
      ∧ (s.rqp.withdrawn = false → ∀ b, bytes = some b →
        let read : State := { s with rqp := { s.rqp with bytes := b } }
        (byteAt b 0 ∈ knownKinds → exec (.slotReadComplete bytes) s
          = .next { s with rqp := { s.rqp with bytes := b, phase := .offered } })
        ∧ (byteAt b 0 ∉ knownKinds → exec (.slotReadComplete bytes) s = .next (answer .badKind [] read)))
      ∧ (s.rqp.withdrawn = false → bytes = none → ∀ i, s.rqp.cur = some i → ∃ t, exec (.slotReadComplete bytes) s = .next t
        ∧ ended t i .faulted .slotRead s.rqp.done ∧ t.arc.has .writeFault = s.arc.has .writeFault
        ∧ t.rqp.lateWrites = s.rqp.lateWrites))
    ∧ (∀ (o : ReqOutcome) (fields : List Field) i c, s.rqp.cur = some i → s.arc.copies[i] = some c →
      let slot := c.base + 64 * s.rqp.slot
      let byte := fun (k : Nat) => match fields.find? fun f => decide (f.off ≤ k ∧ k < f.off + f.size) with
        | some f => BitVec.ofNat 8 (f.val / 256 ^ (k - f.off))
        | none => 0#8
      ∃ result : LinkWrite, answer o fields s = { s with rqp := { s.rqp with
          phase := .writing o [result, [(slot + 1, BitVec.ofNat 8 o.code)]] } }
        ∧ result.length = 54 ∧ (∀ k, k < 6 → result[k]? = some (slot + 2 + k, byte (2 + k)))
        ∧ ∀ k, k < 48 → result[6 + k]? = some (slot + 16 + k, byte (16 + k)))
    ∧ (∀ i c, s.rqp.phase = .reading → s.rqp.cur = some i → s.arc.copies[i] = some c →
      slotRead s = some (c.base + 64 * s.rqp.slot))
    ∧ (∀ n ok, slotWrites s = s.rqp.lateWrites ++ (match s.rqp.phase with | .writing _ w => w | _ => [])
      ∧ ((slotWrites s).length ≤ n → exec (.slotWriteComplete ⟨n, ok⟩) s = .next s)
      ∧ (n < s.rqp.lateWrites.length →
        let left : State := { s with rqp := { s.rqp with lateWrites := s.rqp.lateWrites.eraseIdx n } }
        exec (.slotWriteComplete ⟨n, true⟩) s = .next left
          ∧ exec (.slotWriteComplete ⟨n, false⟩) s = .next { left with arc := s.arc.raise .writeFault }))
    ∧ ∀ o w i c n, s.rqp.phase = .writing o w → s.rqp.cur = some i → s.arc.copies[i] = some c → n < w.length →
      let which := s.rqp.lateWrites.length + n
      let rest := w.eraseIdx n
      (s.rqp.tickResult ≠ none → ∀ ok, exec (.slotWriteComplete ⟨which, ok⟩) s = .next s)
      ∧ (s.rqp.tickResult = none → (s.rqp.withdrawn = true →
        let left : State := { s with rqp := { s.rqp with phase := if rest = [] then .idle else .writing o rest } }
        exec (.slotWriteComplete ⟨which, true⟩) s = .next left
          ∧ exec (.slotWriteComplete ⟨which, false⟩) s = .next { left with arc := s.arc.raise .writeFault })
      ∧ (s.rqp.withdrawn = false → rest ≠ [] →
        exec (.slotWriteComplete ⟨which, true⟩) s = .next { s with rqp := { s.rqp with phase := .writing o rest } })
      ∧ (s.rqp.withdrawn = false → rest = [] → s.rqp.done + 1 < c.count → exec (.slotWriteComplete ⟨which, true⟩) s = .next { s with
          rqp := { s.rqp with done := s.rqp.done + 1, slot := s.rqp.slot + 1, phase := if runs then .reading else .idle } })
      ∧ (s.rqp.withdrawn = false → rest = [] → c.count ≤ s.rqp.done + 1 → ∃ t, exec (.slotWriteComplete ⟨which, true⟩) s = .next t
        ∧ ended t i .done .none (s.rqp.done + 1) ∧ t.arc.has .writeFault = s.arc.has .writeFault
        ∧ t.rqp.lateWrites = s.rqp.lateWrites)
      ∧ (s.rqp.withdrawn = false → ∃ t, exec (.slotWriteComplete ⟨which, false⟩) s = .next t
        ∧ ended t i .faulted .slotWrite s.rqp.done ∧ t.arc.has .writeFault = true
        ∧ t.rqp.lateWrites = s.rqp.lateWrites ++ rest))

/-! ### Invariants -/

/-- The invariants below hold of the state right after reset: the reset tables of sections 1.10, 2.7, 3.6, 4.7, 5.9, 6.9, 7.5, 8.7 and
9.9, with the world's choices of log 3. -/
def Obligations.invariants_hold_after_reset : Prop :=
  ResetHeld State.reset ∧ EvidenceHeld State.reset ∧ ClassHeld State.reset ∧ StagingHeld State.reset ∧ FifosHeld State.reset
    ∧ QueuesHeld State.reset ∧ RateHeld State.reset ∧ AuctionsHeld State.reset ∧ SettleHeld State.reset
    ∧ SegmentsHeld State.reset

/-- R52, R56, R87, R120: every step keeps one reservation of evidence staging for each record of the evidence queue, both within their
places, and a class in force never better than the bound of the last evaluation gives; and it keeps a part in reset at its reset
tables (R2, R3), where that a part stands at them before it leaves reset is the model's choice (log 4). -/
def Obligations.steps_keep_reservations_and_the_class_law : Prop :=
  ∀ s t : State, ResetHeld s → EvidenceHeld s → ClassHeld s → step s = .next t → ResetHeld t ∧ EvidenceHeld t ∧ ClassHeld t

/-- R69, R83, R86, R98, R144, R146, R147: every step keeps the stagings, the port FIFOs, the notice queue, the lent lists, the request queue
and the burst buffer within their places, the last place of arrival staging and of a FIFO being an open GAP's, and no segment's fill
above its capacity, the private copies agreeing with where the indexes stand. -/
def Obligations.steps_keep_the_buffers_within_their_places : Prop :=
  ∀ s t : State, StagingHeld s → FifosHeld s → QueuesHeld s → SegmentsHeld s → step s = .next t →
    StagingHeld t ∧ FifosHeld t ∧ QueuesHeld t ∧ SegmentsHeld t

/-- R5, R7, R8, R10, R13, R15, R77: every step keeps INC the rounded increment of F plus P and within its range, F and the sets within
theirs, P within ±SLEW_MAX of the set in force and at −SLEW_MAX in SLEWING, CONTINUOUS with SLEWING, the good-pulse count to ACQUIRING,
and SETTLE that of the enabled ports' compensations. -/
def Obligations.steps_keep_the_rate_and_settle : Prop :=
  ∀ s t : State, RateHeld s → SettleHeld s → step s = .next t → RateHeld t ∧ SettleHeld t

/-- R95, R96: every step keeps each group's entry as its state calls for, and the deadline list in order, holding exactly the deadlines
of the groups in SCHEDULED, CALL, WINDOW and DECIDE. -/
def Obligations.steps_keep_the_auction_table_and_the_deadline_list : Prop :=
  ∀ s t : State, AuctionsHeld s → step s = .next t → AuctionsHeld t

/-- R4, R14: XT never decreases: every command but a power-on or pin reset leaves the XT integer at or above its value, or
at the free value that stands for a sum beyond 64 bits (log 6). -/
def Obligations.xt_never_decreases : Prop :=
  ∀ (c : Instr) (s t : State), (∀ straps, c ≠ .powerOnReset straps) → (∀ e, c ≠ .pinReset e) →
    exec c s = .next t → s.tsu.xt ≤ t.tsu.xt ∨ ∃ n, 2 ^ 64 ≤ n ∧ t.tsu.xt = fit64 n
end

