-- ==== Sys2Proof/Laws/State.lean ====
section
/-! SUPPORT. One lemma per field of State for each update that is one record, true by rfl. -/

namespace Sys2Proof.Machine

/-- Two states with the same fields are the same state. -/
theorem State.eq_of_fields {s t : State} (osc : t.osc = s.osc) (tsu : t.tsu = s.tsu) (ref : t.ref = s.ref) (div : t.div = s.div)
    (taps : t.taps = s.taps) (seq : t.seq = s.seq) (stg : t.stg = s.stg) (auc : t.auc = s.auc) (evu : t.evu = s.evu)
    (jwr : t.jwr = s.jwr) (arc : t.arc = s.arc) (rqp : t.rqp = s.rqp) (pending : t.pending = s.pending) : t = s := by
  cases s; cases t; simp_all

/-- A command of a running part has the effect of its operation. -/
theorem live_running {s : State} (h : s.osc.phase = .running) (f : State → State) : live f s = .next (f s) := by
  simp [live, h]

/-- The owner takes an offered request of its kind. -/
theorem takeRequest_offered {s : State} {kind : Nat} (h : s.rqp.phase = .offered) (hk : byteAt s.rqp.bytes 0 = kind)
    (f : List Byte → State → State) : takeRequest kind f s = f s.rqp.bytes s := by simp [takeRequest, h, hk]

@[simp] theorem onArc_osc (f : Arc → Arc) (s : State) : (onArc f s).osc = s.osc := rfl
@[simp] theorem onArc_tsu (f : Arc → Arc) (s : State) : (onArc f s).tsu = s.tsu := rfl
@[simp] theorem onArc_ref (f : Arc → Arc) (s : State) : (onArc f s).ref = s.ref := rfl
@[simp] theorem onArc_div (f : Arc → Arc) (s : State) : (onArc f s).div = s.div := rfl
@[simp] theorem onArc_taps (f : Arc → Arc) (s : State) : (onArc f s).taps = s.taps := rfl
@[simp] theorem onArc_seq (f : Arc → Arc) (s : State) : (onArc f s).seq = s.seq := rfl
@[simp] theorem onArc_stg (f : Arc → Arc) (s : State) : (onArc f s).stg = s.stg := rfl
@[simp] theorem onArc_auc (f : Arc → Arc) (s : State) : (onArc f s).auc = s.auc := rfl
@[simp] theorem onArc_evu (f : Arc → Arc) (s : State) : (onArc f s).evu = s.evu := rfl
@[simp] theorem onArc_jwr (f : Arc → Arc) (s : State) : (onArc f s).jwr = s.jwr := rfl
@[simp] theorem onArc_arc (f : Arc → Arc) (s : State) : (onArc f s).arc = f s.arc := rfl
@[simp] theorem onArc_rqp (f : Arc → Arc) (s : State) : (onArc f s).rqp = s.rqp := rfl
@[simp] theorem onArc_pending (f : Arc → Arc) (s : State) : (onArc f s).pending = s.pending := rfl

@[simp] theorem onRef_osc (f : Ref → Ref) (s : State) : (onRef f s).osc = s.osc := rfl
@[simp] theorem onRef_tsu (f : Ref → Ref) (s : State) : (onRef f s).tsu = s.tsu := rfl
@[simp] theorem onRef_ref (f : Ref → Ref) (s : State) : (onRef f s).ref = f s.ref := rfl
@[simp] theorem onRef_div (f : Ref → Ref) (s : State) : (onRef f s).div = s.div := rfl
@[simp] theorem onRef_taps (f : Ref → Ref) (s : State) : (onRef f s).taps = s.taps := rfl
@[simp] theorem onRef_seq (f : Ref → Ref) (s : State) : (onRef f s).seq = s.seq := rfl
@[simp] theorem onRef_stg (f : Ref → Ref) (s : State) : (onRef f s).stg = s.stg := rfl
@[simp] theorem onRef_auc (f : Ref → Ref) (s : State) : (onRef f s).auc = s.auc := rfl
@[simp] theorem onRef_evu (f : Ref → Ref) (s : State) : (onRef f s).evu = s.evu := rfl
@[simp] theorem onRef_jwr (f : Ref → Ref) (s : State) : (onRef f s).jwr = s.jwr := rfl
@[simp] theorem onRef_arc (f : Ref → Ref) (s : State) : (onRef f s).arc = s.arc := rfl
@[simp] theorem onRef_rqp (f : Ref → Ref) (s : State) : (onRef f s).rqp = s.rqp := rfl
@[simp] theorem onRef_pending (f : Ref → Ref) (s : State) : (onRef f s).pending = s.pending := rfl

@[simp] theorem onAcc_osc (f : Accum → Accum) (s : State) : (onAcc f s).osc = s.osc := rfl
@[simp] theorem onAcc_tsu (f : Accum → Accum) (s : State) : (onAcc f s).tsu = s.tsu := rfl
@[simp] theorem onAcc_ref (f : Accum → Accum) (s : State) : (onAcc f s).ref = s.ref := rfl
@[simp] theorem onAcc_div (f : Accum → Accum) (s : State) : (onAcc f s).div = s.div := rfl
@[simp] theorem onAcc_taps (f : Accum → Accum) (s : State) : (onAcc f s).taps = s.taps := rfl
@[simp] theorem onAcc_seq (f : Accum → Accum) (s : State) : (onAcc f s).seq = s.seq := rfl
@[simp] theorem onAcc_stg (f : Accum → Accum) (s : State) : (onAcc f s).stg = s.stg := rfl
@[simp] theorem onAcc_auc (f : Accum → Accum) (s : State) : (onAcc f s).auc = s.auc := rfl
@[simp] theorem onAcc_evu (f : Accum → Accum) (s : State) : (onAcc f s).evu = s.evu.onAcc f := rfl
@[simp] theorem onAcc_jwr (f : Accum → Accum) (s : State) : (onAcc f s).jwr = s.jwr := rfl
@[simp] theorem onAcc_arc (f : Accum → Accum) (s : State) : (onAcc f s).arc = s.arc := rfl
@[simp] theorem onAcc_rqp (f : Accum → Accum) (s : State) : (onAcc f s).rqp = s.rqp := rfl
@[simp] theorem onAcc_pending (f : Accum → Accum) (s : State) : (onAcc f s).pending = s.pending := rfl

@[simp] theorem setPort_osc (n : Fin 8) (p : Port) (s : State) : (setPort n p s).osc = s.osc := rfl
@[simp] theorem setPort_tsu (n : Fin 8) (p : Port) (s : State) : (setPort n p s).tsu = s.tsu := rfl
@[simp] theorem setPort_ref (n : Fin 8) (p : Port) (s : State) : (setPort n p s).ref = s.ref := rfl
@[simp] theorem setPort_div (n : Fin 8) (p : Port) (s : State) : (setPort n p s).div = s.div := rfl
@[simp] theorem setPort_taps (n : Fin 8) (p : Port) (s : State) : (setPort n p s).taps = s.taps.set n p := rfl
@[simp] theorem setPort_seq (n : Fin 8) (p : Port) (s : State) : (setPort n p s).seq = s.seq := rfl
@[simp] theorem setPort_stg (n : Fin 8) (p : Port) (s : State) : (setPort n p s).stg = s.stg := rfl
@[simp] theorem setPort_auc (n : Fin 8) (p : Port) (s : State) : (setPort n p s).auc = s.auc := rfl
@[simp] theorem setPort_evu (n : Fin 8) (p : Port) (s : State) : (setPort n p s).evu = s.evu := rfl
@[simp] theorem setPort_jwr (n : Fin 8) (p : Port) (s : State) : (setPort n p s).jwr = s.jwr := rfl
@[simp] theorem setPort_arc (n : Fin 8) (p : Port) (s : State) : (setPort n p s).arc = s.arc := rfl
@[simp] theorem setPort_rqp (n : Fin 8) (p : Port) (s : State) : (setPort n p s).rqp = s.rqp := rfl
@[simp] theorem setPort_pending (n : Fin 8) (p : Port) (s : State) : (setPort n p s).pending = s.pending := rfl

@[simp] theorem setGroup_osc (g : Fin 64) (v : Group) (d : Option (Nat × Tag)) (s : State) : (setGroup g v d s).osc = s.osc := rfl
@[simp] theorem setGroup_tsu (g : Fin 64) (v : Group) (d : Option (Nat × Tag)) (s : State) : (setGroup g v d s).tsu = s.tsu := rfl
@[simp] theorem setGroup_ref (g : Fin 64) (v : Group) (d : Option (Nat × Tag)) (s : State) : (setGroup g v d s).ref = s.ref := rfl
@[simp] theorem setGroup_div (g : Fin 64) (v : Group) (d : Option (Nat × Tag)) (s : State) : (setGroup g v d s).div = s.div := rfl
@[simp] theorem setGroup_taps (g : Fin 64) (v : Group) (d : Option (Nat × Tag)) (s : State) : (setGroup g v d s).taps = s.taps := rfl
@[simp] theorem setGroup_seq (g : Fin 64) (v : Group) (d : Option (Nat × Tag)) (s : State) : (setGroup g v d s).seq = s.seq := rfl
@[simp] theorem setGroup_stg (g : Fin 64) (v : Group) (d : Option (Nat × Tag)) (s : State) : (setGroup g v d s).stg = s.stg := rfl
@[simp] theorem setGroup_evu (g : Fin 64) (v : Group) (d : Option (Nat × Tag)) (s : State) : (setGroup g v d s).evu = s.evu := rfl
@[simp] theorem setGroup_jwr (g : Fin 64) (v : Group) (d : Option (Nat × Tag)) (s : State) : (setGroup g v d s).jwr = s.jwr := rfl
@[simp] theorem setGroup_arc (g : Fin 64) (v : Group) (d : Option (Nat × Tag)) (s : State) : (setGroup g v d s).arc = s.arc := rfl
@[simp] theorem setGroup_rqp (g : Fin 64) (v : Group) (d : Option (Nat × Tag)) (s : State) : (setGroup g v d s).rqp = s.rqp := rfl
@[simp] theorem setGroup_pending (g : Fin 64) (v : Group) (d : Option (Nat × Tag)) (s : State) : (setGroup g v d s).pending = s.pending := rfl

@[simp] theorem setPhase_osc (p : ResetPhase) (s : State) : (setPhase p s).osc = { s.osc with phase := p } := rfl
@[simp] theorem setPhase_tsu (p : ResetPhase) (s : State) : (setPhase p s).tsu = s.tsu := rfl
@[simp] theorem setPhase_ref (p : ResetPhase) (s : State) : (setPhase p s).ref = s.ref := rfl
@[simp] theorem setPhase_div (p : ResetPhase) (s : State) : (setPhase p s).div = s.div := rfl
@[simp] theorem setPhase_taps (p : ResetPhase) (s : State) : (setPhase p s).taps = s.taps := rfl
@[simp] theorem setPhase_seq (p : ResetPhase) (s : State) : (setPhase p s).seq = s.seq := rfl
@[simp] theorem setPhase_stg (p : ResetPhase) (s : State) : (setPhase p s).stg = s.stg := rfl
@[simp] theorem setPhase_auc (p : ResetPhase) (s : State) : (setPhase p s).auc = s.auc := rfl
@[simp] theorem setPhase_evu (p : ResetPhase) (s : State) : (setPhase p s).evu = s.evu := rfl
@[simp] theorem setPhase_jwr (p : ResetPhase) (s : State) : (setPhase p s).jwr = s.jwr := rfl
@[simp] theorem setPhase_arc (p : ResetPhase) (s : State) : (setPhase p s).arc = s.arc := rfl
@[simp] theorem setPhase_rqp (p : ResetPhase) (s : State) : (setPhase p s).rqp = s.rqp := rfl
@[simp] theorem setPhase_pending (p : ResetPhase) (s : State) : (setPhase p s).pending = s.pending := rfl

@[simp] theorem setOsc_osc (o : OscState) (s : State) : (setOsc o s).osc = { s.osc with state := o } := rfl
@[simp] theorem setOsc_tsu (o : OscState) (s : State) : (setOsc o s).tsu = s.tsu := rfl
@[simp] theorem setOsc_ref (o : OscState) (s : State) : (setOsc o s).ref = s.ref := rfl
@[simp] theorem setOsc_div (o : OscState) (s : State) : (setOsc o s).div = s.div := rfl
@[simp] theorem setOsc_taps (o : OscState) (s : State) : (setOsc o s).taps = s.taps := rfl
@[simp] theorem setOsc_seq (o : OscState) (s : State) : (setOsc o s).seq = s.seq := rfl
@[simp] theorem setOsc_stg (o : OscState) (s : State) : (setOsc o s).stg = s.stg := rfl
@[simp] theorem setOsc_auc (o : OscState) (s : State) : (setOsc o s).auc = s.auc := rfl
@[simp] theorem setOsc_evu (o : OscState) (s : State) : (setOsc o s).evu = s.evu := rfl
@[simp] theorem setOsc_jwr (o : OscState) (s : State) : (setOsc o s).jwr = s.jwr := rfl
@[simp] theorem setOsc_arc (o : OscState) (s : State) : (setOsc o s).arc = s.arc := rfl
@[simp] theorem setOsc_rqp (o : OscState) (s : State) : (setOsc o s).rqp = s.rqp := rfl
@[simp] theorem setOsc_pending (o : OscState) (s : State) : (setOsc o s).pending = s.pending := rfl

@[simp] theorem raise_osc (c : Cause) (s : State) : (raise c s).osc = s.osc := rfl
@[simp] theorem raise_tsu (c : Cause) (s : State) : (raise c s).tsu = s.tsu := rfl
@[simp] theorem raise_ref (c : Cause) (s : State) : (raise c s).ref = s.ref := rfl
@[simp] theorem raise_div (c : Cause) (s : State) : (raise c s).div = s.div := rfl
@[simp] theorem raise_taps (c : Cause) (s : State) : (raise c s).taps = s.taps := rfl
@[simp] theorem raise_seq (c : Cause) (s : State) : (raise c s).seq = s.seq := rfl
@[simp] theorem raise_stg (c : Cause) (s : State) : (raise c s).stg = s.stg := rfl
@[simp] theorem raise_auc (c : Cause) (s : State) : (raise c s).auc = s.auc := rfl
@[simp] theorem raise_evu (c : Cause) (s : State) : (raise c s).evu = s.evu := rfl
@[simp] theorem raise_jwr (c : Cause) (s : State) : (raise c s).jwr = s.jwr := rfl
@[simp] theorem raise_arc (c : Cause) (s : State) : (raise c s).arc = s.arc.raise c := rfl
@[simp] theorem raise_rqp (c : Cause) (s : State) : (raise c s).rqp = s.rqp := rfl
@[simp] theorem raise_pending (c : Cause) (s : State) : (raise c s).pending = s.pending := rfl

@[simp] theorem answer_osc (o : ReqOutcome) (fs : List Field) (s : State) : (answer o fs s).osc = s.osc := rfl
@[simp] theorem answer_tsu (o : ReqOutcome) (fs : List Field) (s : State) : (answer o fs s).tsu = s.tsu := rfl
@[simp] theorem answer_ref (o : ReqOutcome) (fs : List Field) (s : State) : (answer o fs s).ref = s.ref := rfl
@[simp] theorem answer_div (o : ReqOutcome) (fs : List Field) (s : State) : (answer o fs s).div = s.div := rfl
@[simp] theorem answer_taps (o : ReqOutcome) (fs : List Field) (s : State) : (answer o fs s).taps = s.taps := rfl
@[simp] theorem answer_seq (o : ReqOutcome) (fs : List Field) (s : State) : (answer o fs s).seq = s.seq := rfl
@[simp] theorem answer_stg (o : ReqOutcome) (fs : List Field) (s : State) : (answer o fs s).stg = s.stg := rfl
@[simp] theorem answer_auc (o : ReqOutcome) (fs : List Field) (s : State) : (answer o fs s).auc = s.auc := rfl
@[simp] theorem answer_evu (o : ReqOutcome) (fs : List Field) (s : State) : (answer o fs s).evu = s.evu := rfl
@[simp] theorem answer_jwr (o : ReqOutcome) (fs : List Field) (s : State) : (answer o fs s).jwr = s.jwr := rfl
@[simp] theorem answer_arc (o : ReqOutcome) (fs : List Field) (s : State) : (answer o fs s).arc = s.arc := rfl
@[simp] theorem answer_pending (o : ReqOutcome) (fs : List Field) (s : State) : (answer o fs s).pending = s.pending := rfl

@[simp] theorem readXt_osc (s : State) : (readXt s).osc = s.osc := rfl
@[simp] theorem readXt_tsu (s : State) : (readXt s).tsu = { s.tsu with xtRead := true } := rfl
@[simp] theorem readXt_ref (s : State) : (readXt s).ref = s.ref := rfl
@[simp] theorem readXt_div (s : State) : (readXt s).div = s.div := rfl
@[simp] theorem readXt_taps (s : State) : (readXt s).taps = s.taps := rfl
@[simp] theorem readXt_seq (s : State) : (readXt s).seq = s.seq := rfl
@[simp] theorem readXt_stg (s : State) : (readXt s).stg = s.stg := rfl
@[simp] theorem readXt_auc (s : State) : (readXt s).auc = s.auc := rfl
@[simp] theorem readXt_evu (s : State) : (readXt s).evu = s.evu := rfl
@[simp] theorem readXt_jwr (s : State) : (readXt s).jwr = s.jwr := rfl
@[simp] theorem readXt_arc (s : State) : (readXt s).arc = s.arc := rfl
@[simp] theorem readXt_rqp (s : State) : (readXt s).rqp = s.rqp := rfl
@[simp] theorem readXt_pending (s : State) : (readXt s).pending = s.pending := rfl

@[simp] theorem answerNow_osc (o : ReqOutcome) (fs : List Field) (s : State) : (answerNow o fs s).osc = s.osc := rfl
@[simp] theorem answerNow_tsu (o : ReqOutcome) (fs : List Field) (s : State) : (answerNow o fs s).tsu = { s.tsu with xtRead := true } := rfl
@[simp] theorem answerNow_ref (o : ReqOutcome) (fs : List Field) (s : State) : (answerNow o fs s).ref = s.ref := rfl
@[simp] theorem answerNow_div (o : ReqOutcome) (fs : List Field) (s : State) : (answerNow o fs s).div = s.div := rfl
@[simp] theorem answerNow_taps (o : ReqOutcome) (fs : List Field) (s : State) : (answerNow o fs s).taps = s.taps := rfl
@[simp] theorem answerNow_seq (o : ReqOutcome) (fs : List Field) (s : State) : (answerNow o fs s).seq = s.seq := rfl
@[simp] theorem answerNow_stg (o : ReqOutcome) (fs : List Field) (s : State) : (answerNow o fs s).stg = s.stg := rfl
@[simp] theorem answerNow_auc (o : ReqOutcome) (fs : List Field) (s : State) : (answerNow o fs s).auc = s.auc := rfl
@[simp] theorem answerNow_evu (o : ReqOutcome) (fs : List Field) (s : State) : (answerNow o fs s).evu = s.evu := rfl
@[simp] theorem answerNow_jwr (o : ReqOutcome) (fs : List Field) (s : State) : (answerNow o fs s).jwr = s.jwr := rfl
@[simp] theorem answerNow_arc (o : ReqOutcome) (fs : List Field) (s : State) : (answerNow o fs s).arc = s.arc := rfl
@[simp] theorem answerNow_rqp (o : ReqOutcome) (fs : List Field) (s : State) : (answerNow o fs s).rqp = (answer o fs s).rqp := rfl
@[simp] theorem answerNow_pending (o : ReqOutcome) (fs : List Field) (s : State) : (answerNow o fs s).pending = s.pending := rfl

@[simp] theorem answerForTick_osc (r : TickResult) (fs : List Field) (s : State) : (answerForTick r fs s).osc = s.osc := rfl
@[simp] theorem answerForTick_tsu (r : TickResult) (fs : List Field) (s : State) : (answerForTick r fs s).tsu = s.tsu := rfl
@[simp] theorem answerForTick_ref (r : TickResult) (fs : List Field) (s : State) : (answerForTick r fs s).ref = s.ref := rfl
@[simp] theorem answerForTick_div (r : TickResult) (fs : List Field) (s : State) : (answerForTick r fs s).div = s.div := rfl
@[simp] theorem answerForTick_taps (r : TickResult) (fs : List Field) (s : State) : (answerForTick r fs s).taps = s.taps := rfl
@[simp] theorem answerForTick_seq (r : TickResult) (fs : List Field) (s : State) : (answerForTick r fs s).seq = s.seq := rfl
@[simp] theorem answerForTick_stg (r : TickResult) (fs : List Field) (s : State) : (answerForTick r fs s).stg = s.stg := rfl
@[simp] theorem answerForTick_auc (r : TickResult) (fs : List Field) (s : State) : (answerForTick r fs s).auc = s.auc := rfl
@[simp] theorem answerForTick_evu (r : TickResult) (fs : List Field) (s : State) : (answerForTick r fs s).evu = s.evu := rfl
@[simp] theorem answerForTick_jwr (r : TickResult) (fs : List Field) (s : State) : (answerForTick r fs s).jwr = s.jwr := rfl
@[simp] theorem answerForTick_arc (r : TickResult) (fs : List Field) (s : State) : (answerForTick r fs s).arc = s.arc := rfl
@[simp] theorem answerForTick_pending (r : TickResult) (fs : List Field) (s : State) : (answerForTick r fs s).pending = s.pending := rfl
@[simp] theorem answerForTick_rqp (r : TickResult) (fs : List Field) (s : State) :
    (answerForTick r fs s).rqp = { (answer .ok fs s).rqp with tickResult := some r } := rfl

@[simp] theorem await_osc (w : Wait) (s : State) : (await w s).osc = s.osc := rfl
@[simp] theorem await_tsu (w : Wait) (s : State) : (await w s).tsu = s.tsu := rfl
@[simp] theorem await_ref (w : Wait) (s : State) : (await w s).ref = s.ref := rfl
@[simp] theorem await_div (w : Wait) (s : State) : (await w s).div = s.div := rfl
@[simp] theorem await_taps (w : Wait) (s : State) : (await w s).taps = s.taps := rfl
@[simp] theorem await_seq (w : Wait) (s : State) : (await w s).seq = s.seq := rfl
@[simp] theorem await_stg (w : Wait) (s : State) : (await w s).stg = s.stg := rfl
@[simp] theorem await_auc (w : Wait) (s : State) : (await w s).auc = s.auc := rfl
@[simp] theorem await_evu (w : Wait) (s : State) : (await w s).evu = s.evu := rfl
@[simp] theorem await_jwr (w : Wait) (s : State) : (await w s).jwr = s.jwr := rfl
@[simp] theorem await_arc (w : Wait) (s : State) : (await w s).arc = s.arc := rfl
@[simp] theorem await_rqp (w : Wait) (s : State) : (await w s).rqp = { s.rqp with phase := .answering w } := rfl
@[simp] theorem await_pending (w : Wait) (s : State) : (await w s).pending = s.pending := rfl

@[simp] theorem setSlotPhase_osc (p : SlotPhase) (s : State) : (setSlotPhase p s).osc = s.osc := rfl
@[simp] theorem setSlotPhase_tsu (p : SlotPhase) (s : State) : (setSlotPhase p s).tsu = s.tsu := rfl
@[simp] theorem setSlotPhase_ref (p : SlotPhase) (s : State) : (setSlotPhase p s).ref = s.ref := rfl
@[simp] theorem setSlotPhase_div (p : SlotPhase) (s : State) : (setSlotPhase p s).div = s.div := rfl
@[simp] theorem setSlotPhase_taps (p : SlotPhase) (s : State) : (setSlotPhase p s).taps = s.taps := rfl
@[simp] theorem setSlotPhase_seq (p : SlotPhase) (s : State) : (setSlotPhase p s).seq = s.seq := rfl
@[simp] theorem setSlotPhase_stg (p : SlotPhase) (s : State) : (setSlotPhase p s).stg = s.stg := rfl
@[simp] theorem setSlotPhase_auc (p : SlotPhase) (s : State) : (setSlotPhase p s).auc = s.auc := rfl
@[simp] theorem setSlotPhase_evu (p : SlotPhase) (s : State) : (setSlotPhase p s).evu = s.evu := rfl
@[simp] theorem setSlotPhase_jwr (p : SlotPhase) (s : State) : (setSlotPhase p s).jwr = s.jwr := rfl
@[simp] theorem setSlotPhase_arc (p : SlotPhase) (s : State) : (setSlotPhase p s).arc = s.arc := rfl
@[simp] theorem setSlotPhase_rqp (p : SlotPhase) (s : State) : (setSlotPhase p s).rqp = { s.rqp with phase := p } := rfl
@[simp] theorem setSlotPhase_pending (p : SlotPhase) (s : State) : (setSlotPhase p s).pending = s.pending := rfl

@[simp] theorem pushEvidence_osc (b : EvBody) (asked : Bool) (s : State) : (pushEvidence b asked s).osc = s.osc := rfl
@[simp] theorem pushEvidence_tsu (b : EvBody) (asked : Bool) (s : State) : (pushEvidence b asked s).tsu = s.tsu := rfl
@[simp] theorem pushEvidence_ref (b : EvBody) (asked : Bool) (s : State) : (pushEvidence b asked s).ref = s.ref := rfl
@[simp] theorem pushEvidence_div (b : EvBody) (asked : Bool) (s : State) : (pushEvidence b asked s).div = s.div := rfl
@[simp] theorem pushEvidence_taps (b : EvBody) (asked : Bool) (s : State) : (pushEvidence b asked s).taps = s.taps := rfl
@[simp] theorem pushEvidence_seq (b : EvBody) (asked : Bool) (s : State) : (pushEvidence b asked s).seq = s.seq := rfl
@[simp] theorem pushEvidence_stg (b : EvBody) (asked : Bool) (s : State) : (pushEvidence b asked s).stg = { s.stg with reserved := s.stg.reserved + 1 } := rfl
@[simp] theorem pushEvidence_auc (b : EvBody) (asked : Bool) (s : State) : (pushEvidence b asked s).auc = s.auc := rfl
@[simp] theorem pushEvidence_jwr (b : EvBody) (asked : Bool) (s : State) : (pushEvidence b asked s).jwr = s.jwr := rfl
@[simp] theorem pushEvidence_arc (b : EvBody) (asked : Bool) (s : State) : (pushEvidence b asked s).arc = s.arc := rfl
@[simp] theorem pushEvidence_rqp (b : EvBody) (asked : Bool) (s : State) : (pushEvidence b asked s).rqp = s.rqp := rfl
@[simp] theorem pushEvidence_pending (b : EvBody) (asked : Bool) (s : State) : (pushEvidence b asked s).pending = s.pending := rfl

@[simp] theorem suppress_osc (s : State) : (suppress s).osc = s.osc := rfl
@[simp] theorem suppress_tsu (s : State) : (suppress s).tsu = s.tsu := rfl
@[simp] theorem suppress_ref (s : State) : (suppress s).ref = s.ref := rfl
@[simp] theorem suppress_div (s : State) : (suppress s).div = s.div := rfl
@[simp] theorem suppress_taps (s : State) : (suppress s).taps = s.taps := rfl
@[simp] theorem suppress_seq (s : State) : (suppress s).seq = s.seq := rfl
@[simp] theorem suppress_stg (s : State) : (suppress s).stg = s.stg := rfl
@[simp] theorem suppress_auc (s : State) : (suppress s).auc = s.auc := rfl
@[simp] theorem suppress_jwr (s : State) : (suppress s).jwr = s.jwr := rfl
@[simp] theorem suppress_arc (s : State) : (suppress s).arc = s.arc := rfl
@[simp] theorem suppress_rqp (s : State) : (suppress s).rqp = s.rqp := rfl
@[simp] theorem suppress_pending (s : State) : (suppress s).pending = s.pending := rfl

@[simp] theorem pushNotice_osc (n : Notice) (stamp : Nat) (s : State) : (pushNotice n stamp s).osc = s.osc := rfl
@[simp] theorem pushNotice_tsu (n : Notice) (stamp : Nat) (s : State) : (pushNotice n stamp s).tsu = s.tsu := rfl
@[simp] theorem pushNotice_ref (n : Notice) (stamp : Nat) (s : State) : (pushNotice n stamp s).ref = s.ref := rfl
@[simp] theorem pushNotice_div (n : Notice) (stamp : Nat) (s : State) : (pushNotice n stamp s).div = s.div := rfl
@[simp] theorem pushNotice_taps (n : Notice) (stamp : Nat) (s : State) : (pushNotice n stamp s).taps = s.taps := rfl
@[simp] theorem pushNotice_seq (n : Notice) (stamp : Nat) (s : State) : (pushNotice n stamp s).seq = s.seq := rfl
@[simp] theorem pushNotice_stg (n : Notice) (stamp : Nat) (s : State) : (pushNotice n stamp s).stg = s.stg := rfl
@[simp] theorem pushNotice_evu (n : Notice) (stamp : Nat) (s : State) : (pushNotice n stamp s).evu = s.evu := rfl
@[simp] theorem pushNotice_jwr (n : Notice) (stamp : Nat) (s : State) : (pushNotice n stamp s).jwr = s.jwr := rfl
@[simp] theorem pushNotice_arc (n : Notice) (stamp : Nat) (s : State) : (pushNotice n stamp s).arc = s.arc := rfl
@[simp] theorem pushNotice_rqp (n : Notice) (stamp : Nat) (s : State) : (pushNotice n stamp s).rqp = s.rqp := rfl
@[simp] theorem pushNotice_pending (n : Notice) (stamp : Nat) (s : State) : (pushNotice n stamp s).pending = s.pending := rfl

@[simp] theorem issueStatus_osc (s : State) : (issueStatus s).osc = s.osc := rfl
@[simp] theorem issueStatus_tsu (s : State) : (issueStatus s).tsu = s.tsu := rfl
@[simp] theorem issueStatus_ref (s : State) : (issueStatus s).ref = s.ref := rfl
@[simp] theorem issueStatus_div (s : State) : (issueStatus s).div = s.div := rfl
@[simp] theorem issueStatus_taps (s : State) : (issueStatus s).taps = s.taps := rfl
@[simp] theorem issueStatus_seq (s : State) : (issueStatus s).seq = s.seq := rfl
@[simp] theorem issueStatus_stg (s : State) : (issueStatus s).stg = s.stg := rfl
@[simp] theorem issueStatus_auc (s : State) : (issueStatus s).auc = s.auc := rfl
@[simp] theorem issueStatus_evu (s : State) : (issueStatus s).evu = s.evu := rfl
@[simp] theorem issueStatus_jwr (s : State) : (issueStatus s).jwr = s.jwr := rfl
@[simp] theorem issueStatus_rqp (s : State) : (issueStatus s).rqp = s.rqp := rfl
@[simp] theorem issueStatus_pending (s : State) : (issueStatus s).pending = s.pending := rfl

@[simp] theorem updateGate_osc (n : Notice) (s : State) : (updateGate n s).osc = s.osc := rfl
@[simp] theorem updateGate_tsu (n : Notice) (s : State) : (updateGate n s).tsu = s.tsu := rfl
@[simp] theorem updateGate_ref (n : Notice) (s : State) : (updateGate n s).ref = s.ref := rfl
@[simp] theorem updateGate_div (n : Notice) (s : State) : (updateGate n s).div = s.div := rfl
@[simp] theorem updateGate_taps (n : Notice) (s : State) : (updateGate n s).taps = s.taps := rfl
@[simp] theorem updateGate_stg (n : Notice) (s : State) : (updateGate n s).stg = s.stg := rfl
@[simp] theorem updateGate_auc (n : Notice) (s : State) : (updateGate n s).auc = s.auc := rfl
@[simp] theorem updateGate_evu (n : Notice) (s : State) : (updateGate n s).evu = s.evu := rfl
@[simp] theorem updateGate_jwr (n : Notice) (s : State) : (updateGate n s).jwr = s.jwr := rfl
@[simp] theorem updateGate_arc (n : Notice) (s : State) : (updateGate n s).arc = s.arc := rfl
@[simp] theorem updateGate_rqp (n : Notice) (s : State) : (updateGate n s).rqp = s.rqp := rfl
@[simp] theorem updateGate_pending (n : Notice) (s : State) : (updateGate n s).pending = s.pending := rfl

@[simp] theorem stage_osc (hdr : Header) (b : RecBody) (s : State) : (stage hdr b s).osc = s.osc := rfl
@[simp] theorem stage_tsu (hdr : Header) (b : RecBody) (s : State) : (stage hdr b s).tsu = s.tsu := rfl
@[simp] theorem stage_ref (hdr : Header) (b : RecBody) (s : State) : (stage hdr b s).ref = s.ref := rfl
@[simp] theorem stage_div (hdr : Header) (b : RecBody) (s : State) : (stage hdr b s).div = s.div := rfl
@[simp] theorem stage_taps (hdr : Header) (b : RecBody) (s : State) : (stage hdr b s).taps = s.taps := rfl
@[simp] theorem stage_seq (hdr : Header) (b : RecBody) (s : State) : (stage hdr b s).seq = { s.seq with counter := nextNumber s.seq.counter } := rfl
@[simp] theorem stage_auc (hdr : Header) (b : RecBody) (s : State) : (stage hdr b s).auc = s.auc := rfl
@[simp] theorem stage_evu (hdr : Header) (b : RecBody) (s : State) : (stage hdr b s).evu = s.evu := rfl
@[simp] theorem stage_jwr (hdr : Header) (b : RecBody) (s : State) : (stage hdr b s).jwr = s.jwr := rfl
@[simp] theorem stage_arc (hdr : Header) (b : RecBody) (s : State) : (stage hdr b s).arc = s.arc := rfl
@[simp] theorem stage_rqp (hdr : Header) (b : RecBody) (s : State) : (stage hdr b s).rqp = s.rqp := rfl
@[simp] theorem stage_pending (hdr : Header) (b : RecBody) (s : State) : (stage hdr b s).pending = s.pending := rfl

@[simp] theorem stageOrdinary_osc (hdr : Header) (b : RecBody) (s : State) : (stageOrdinary hdr b s).osc = s.osc := rfl
@[simp] theorem stageOrdinary_tsu (hdr : Header) (b : RecBody) (s : State) : (stageOrdinary hdr b s).tsu = s.tsu := rfl
@[simp] theorem stageOrdinary_ref (hdr : Header) (b : RecBody) (s : State) : (stageOrdinary hdr b s).ref = s.ref := rfl
@[simp] theorem stageOrdinary_div (hdr : Header) (b : RecBody) (s : State) : (stageOrdinary hdr b s).div = s.div := rfl
@[simp] theorem stageOrdinary_taps (hdr : Header) (b : RecBody) (s : State) : (stageOrdinary hdr b s).taps = s.taps := rfl
@[simp] theorem stageOrdinary_seq (hdr : Header) (b : RecBody) (s : State) : (stageOrdinary hdr b s).seq = { s.seq with counter := nextNumber s.seq.counter } := rfl
@[simp] theorem stageOrdinary_auc (hdr : Header) (b : RecBody) (s : State) : (stageOrdinary hdr b s).auc = s.auc := rfl
@[simp] theorem stageOrdinary_evu (hdr : Header) (b : RecBody) (s : State) : (stageOrdinary hdr b s).evu = s.evu := rfl
@[simp] theorem stageOrdinary_jwr (hdr : Header) (b : RecBody) (s : State) : (stageOrdinary hdr b s).jwr = s.jwr := rfl
@[simp] theorem stageOrdinary_arc (hdr : Header) (b : RecBody) (s : State) : (stageOrdinary hdr b s).arc = s.arc := rfl
@[simp] theorem stageOrdinary_rqp (hdr : Header) (b : RecBody) (s : State) : (stageOrdinary hdr b s).rqp = s.rqp := rfl
@[simp] theorem stageOrdinary_pending (hdr : Header) (b : RecBody) (s : State) : (stageOrdinary hdr b s).pending = s.pending := rfl

@[simp] theorem reportSettle_osc (n : Fin 8) (c : Option Nat) (s : State) : (reportSettle n c s).osc = s.osc := rfl
@[simp] theorem reportSettle_tsu (n : Fin 8) (c : Option Nat) (s : State) : (reportSettle n c s).tsu = s.tsu := rfl
@[simp] theorem reportSettle_ref (n : Fin 8) (c : Option Nat) (s : State) : (reportSettle n c s).ref = s.ref := rfl
@[simp] theorem reportSettle_div (n : Fin 8) (c : Option Nat) (s : State) : (reportSettle n c s).div = s.div := rfl
@[simp] theorem reportSettle_taps (n : Fin 8) (c : Option Nat) (s : State) : (reportSettle n c s).taps = s.taps := rfl
@[simp] theorem reportSettle_stg (n : Fin 8) (c : Option Nat) (s : State) : (reportSettle n c s).stg = s.stg := rfl
@[simp] theorem reportSettle_auc (n : Fin 8) (c : Option Nat) (s : State) : (reportSettle n c s).auc = s.auc := rfl
@[simp] theorem reportSettle_evu (n : Fin 8) (c : Option Nat) (s : State) : (reportSettle n c s).evu = s.evu := rfl
@[simp] theorem reportSettle_jwr (n : Fin 8) (c : Option Nat) (s : State) : (reportSettle n c s).jwr = s.jwr := rfl
@[simp] theorem reportSettle_arc (n : Fin 8) (c : Option Nat) (s : State) : (reportSettle n c s).arc = s.arc := rfl
@[simp] theorem reportSettle_rqp (n : Fin 8) (c : Option Nat) (s : State) : (reportSettle n c s).rqp = s.rqp := rfl
@[simp] theorem reportSettle_pending (n : Fin 8) (c : Option Nat) (s : State) : (reportSettle n c s).pending = s.pending := rfl

@[simp] theorem emptyBuffer_osc (s : State) : (emptyBuffer s).osc = s.osc := rfl
@[simp] theorem emptyBuffer_tsu (s : State) : (emptyBuffer s).tsu = s.tsu := rfl
@[simp] theorem emptyBuffer_ref (s : State) : (emptyBuffer s).ref = s.ref := rfl
@[simp] theorem emptyBuffer_div (s : State) : (emptyBuffer s).div = s.div := rfl
@[simp] theorem emptyBuffer_taps (s : State) : (emptyBuffer s).taps = s.taps := rfl
@[simp] theorem emptyBuffer_seq (s : State) : (emptyBuffer s).seq = s.seq := rfl
@[simp] theorem emptyBuffer_stg (s : State) : (emptyBuffer s).stg = s.stg := rfl
@[simp] theorem emptyBuffer_auc (s : State) : (emptyBuffer s).auc = s.auc := rfl
@[simp] theorem emptyBuffer_evu (s : State) : (emptyBuffer s).evu = s.evu := rfl
@[simp] theorem emptyBuffer_jwr (s : State) : (emptyBuffer s).jwr = Jwr.cleared := rfl
@[simp] theorem emptyBuffer_arc (s : State) : (emptyBuffer s).arc = s.arc := rfl
@[simp] theorem emptyBuffer_rqp (s : State) : (emptyBuffer s).rqp = s.rqp := rfl
@[simp] theorem emptyBuffer_pending (s : State) : (emptyBuffer s).pending = s.pending := rfl

@[simp] theorem closeOpen_osc (st : Stream) (g : OpenSeg) (r : SegReason) (s : State) : (closeOpen st g r s).osc = s.osc := rfl
@[simp] theorem closeOpen_tsu (st : Stream) (g : OpenSeg) (r : SegReason) (s : State) : (closeOpen st g r s).tsu = s.tsu := rfl
@[simp] theorem closeOpen_ref (st : Stream) (g : OpenSeg) (r : SegReason) (s : State) : (closeOpen st g r s).ref = s.ref := rfl
@[simp] theorem closeOpen_div (st : Stream) (g : OpenSeg) (r : SegReason) (s : State) : (closeOpen st g r s).div = s.div := rfl
@[simp] theorem closeOpen_taps (st : Stream) (g : OpenSeg) (r : SegReason) (s : State) : (closeOpen st g r s).taps = s.taps := rfl
@[simp] theorem closeOpen_seq (st : Stream) (g : OpenSeg) (r : SegReason) (s : State) : (closeOpen st g r s).seq = s.seq := rfl
@[simp] theorem closeOpen_stg (st : Stream) (g : OpenSeg) (r : SegReason) (s : State) : (closeOpen st g r s).stg = s.stg := rfl
@[simp] theorem closeOpen_auc (st : Stream) (g : OpenSeg) (r : SegReason) (s : State) : (closeOpen st g r s).auc = s.auc := rfl
@[simp] theorem closeOpen_evu (st : Stream) (g : OpenSeg) (r : SegReason) (s : State) : (closeOpen st g r s).evu = s.evu := rfl
@[simp] theorem closeOpen_jwr (st : Stream) (g : OpenSeg) (r : SegReason) (s : State) : (closeOpen st g r s).jwr = s.jwr := rfl
@[simp] theorem closeOpen_rqp (st : Stream) (g : OpenSeg) (r : SegReason) (s : State) : (closeOpen st g r s).rqp = s.rqp := rfl
@[simp] theorem closeOpen_pending (st : Stream) (g : OpenSeg) (r : SegReason) (s : State) : (closeOpen st g r s).pending = s.pending := rfl

@[simp] theorem takeStaged_osc (st : Stream) (n : Nat) (s : State) : (takeStaged st n s).osc = s.osc := rfl
@[simp] theorem takeStaged_tsu (st : Stream) (n : Nat) (s : State) : (takeStaged st n s).tsu = s.tsu := rfl
@[simp] theorem takeStaged_ref (st : Stream) (n : Nat) (s : State) : (takeStaged st n s).ref = s.ref := rfl
@[simp] theorem takeStaged_div (st : Stream) (n : Nat) (s : State) : (takeStaged st n s).div = s.div := rfl
@[simp] theorem takeStaged_taps (st : Stream) (n : Nat) (s : State) : (takeStaged st n s).taps = s.taps := rfl
@[simp] theorem takeStaged_seq (st : Stream) (n : Nat) (s : State) : (takeStaged st n s).seq = s.seq := rfl
@[simp] theorem takeStaged_auc (st : Stream) (n : Nat) (s : State) : (takeStaged st n s).auc = s.auc := rfl
@[simp] theorem takeStaged_evu (st : Stream) (n : Nat) (s : State) : (takeStaged st n s).evu = s.evu := rfl
@[simp] theorem takeStaged_jwr (st : Stream) (n : Nat) (s : State) : (takeStaged st n s).jwr = s.jwr := rfl
@[simp] theorem takeStaged_arc (st : Stream) (n : Nat) (s : State) : (takeStaged st n s).arc = s.arc := rfl
@[simp] theorem takeStaged_rqp (st : Stream) (n : Nat) (s : State) : (takeStaged st n s).rqp = s.rqp := rfl
@[simp] theorem takeStaged_pending (st : Stream) (n : Nat) (s : State) : (takeStaged st n s).pending = s.pending := rfl

@[simp] theorem takeSegment_osc (i : Fin 64) (s : State) : (takeSegment i s).osc = s.osc := rfl
@[simp] theorem takeSegment_tsu (i : Fin 64) (s : State) : (takeSegment i s).tsu = s.tsu := rfl
@[simp] theorem takeSegment_ref (i : Fin 64) (s : State) : (takeSegment i s).ref = s.ref := rfl
@[simp] theorem takeSegment_div (i : Fin 64) (s : State) : (takeSegment i s).div = s.div := rfl
@[simp] theorem takeSegment_taps (i : Fin 64) (s : State) : (takeSegment i s).taps = s.taps := rfl
@[simp] theorem takeSegment_seq (i : Fin 64) (s : State) : (takeSegment i s).seq = s.seq := rfl
@[simp] theorem takeSegment_stg (i : Fin 64) (s : State) : (takeSegment i s).stg = s.stg := rfl
@[simp] theorem takeSegment_auc (i : Fin 64) (s : State) : (takeSegment i s).auc = s.auc := rfl
@[simp] theorem takeSegment_evu (i : Fin 64) (s : State) : (takeSegment i s).evu = s.evu := rfl
@[simp] theorem takeSegment_jwr (i : Fin 64) (s : State) : (takeSegment i s).jwr = s.jwr := rfl
@[simp] theorem takeSegment_pending (i : Fin 64) (s : State) : (takeSegment i s).pending = s.pending := rfl

@[simp] theorem tick_tsu (s : State) : (tick s).tsu = { s.tsu.advance with xtRead := false } := rfl
@[simp] theorem tick_ref (s : State) : (tick s).ref = s.ref := rfl
@[simp] theorem tick_div (s : State) : (tick s).div = s.div := rfl
@[simp] theorem tick_taps (s : State) : (tick s).taps = s.taps := rfl
@[simp] theorem tick_seq (s : State) : (tick s).seq = { s.seq with released := false } := rfl
@[simp] theorem tick_stg (s : State) : (tick s).stg = s.stg := rfl
@[simp] theorem tick_auc (s : State) : (tick s).auc = s.auc := rfl
@[simp] theorem tick_evu (s : State) : (tick s).evu = s.evu := rfl
@[simp] theorem tick_jwr (s : State) : (tick s).jwr = s.jwr := rfl
@[simp] theorem tick_arc (s : State) : (tick s).arc = { s.arc with messaged := false } := rfl
@[simp] theorem tick_rqp (s : State) : (tick s).rqp = endTickResult s := rfl
@[simp] theorem tick_pending (s : State) : (tick s).pending = s.pending := rfl

end Sys2Proof.Machine
end

