-- ==== Sys2Proof/Laws/Frames.lean ====
section
/-! SUPPORT. The frame of each shared operation: the fields of State it leaves as they are. -/

namespace Sys2Proof.Machine

variable (s : State)

@[simp] theorem flushReset_osc : (flushReset s).osc = s.osc := by unfold flushReset; (repeat' split) <;> simp
@[simp] theorem flushReset_tsu : (flushReset s).tsu = s.tsu := by unfold flushReset; (repeat' split) <;> simp
@[simp] theorem flushReset_ref : (flushReset s).ref = s.ref := by unfold flushReset; (repeat' split) <;> simp
@[simp] theorem flushReset_div : (flushReset s).div = s.div := by unfold flushReset; (repeat' split) <;> simp
@[simp] theorem flushReset_taps : (flushReset s).taps = s.taps := by unfold flushReset; (repeat' split) <;> simp
@[simp] theorem flushReset_seq : (flushReset s).seq = s.seq := by unfold flushReset; (repeat' split) <;> simp
@[simp] theorem flushReset_auc : (flushReset s).auc = s.auc := by unfold flushReset; (repeat' split) <;> simp
@[simp] theorem flushReset_jwr : (flushReset s).jwr = s.jwr := by unfold flushReset; (repeat' split) <;> simp
@[simp] theorem flushReset_arc : (flushReset s).arc = s.arc := by unfold flushReset; (repeat' split) <;> simp
@[simp] theorem flushReset_rqp : (flushReset s).rqp = s.rqp := by unfold flushReset; (repeat' split) <;> simp
@[simp] theorem flushReset_pending : (flushReset s).pending = s.pending := by unfold flushReset; (repeat' split) <;> simp

@[simp] theorem makeEvidence_osc (b : EvBody) : (makeEvidence b s).osc = s.osc := by unfold makeEvidence; (repeat' split) <;> simp
@[simp] theorem makeEvidence_tsu (b : EvBody) : (makeEvidence b s).tsu = s.tsu := by unfold makeEvidence; (repeat' split) <;> simp
@[simp] theorem makeEvidence_ref (b : EvBody) : (makeEvidence b s).ref = s.ref := by unfold makeEvidence; (repeat' split) <;> simp
@[simp] theorem makeEvidence_div (b : EvBody) : (makeEvidence b s).div = s.div := by unfold makeEvidence; (repeat' split) <;> simp
@[simp] theorem makeEvidence_taps (b : EvBody) : (makeEvidence b s).taps = s.taps := by unfold makeEvidence; (repeat' split) <;> simp
@[simp] theorem makeEvidence_seq (b : EvBody) : (makeEvidence b s).seq = s.seq := by unfold makeEvidence; (repeat' split) <;> simp
@[simp] theorem makeEvidence_auc (b : EvBody) : (makeEvidence b s).auc = s.auc := by unfold makeEvidence; (repeat' split) <;> simp
@[simp] theorem makeEvidence_jwr (b : EvBody) : (makeEvidence b s).jwr = s.jwr := by unfold makeEvidence; (repeat' split) <;> simp
@[simp] theorem makeEvidence_arc (b : EvBody) : (makeEvidence b s).arc = s.arc := by unfold makeEvidence; (repeat' split) <;> simp
@[simp] theorem makeEvidence_rqp (b : EvBody) : (makeEvidence b s).rqp = s.rqp := by unfold makeEvidence; (repeat' split) <;> simp
@[simp] theorem makeEvidence_pending (b : EvBody) : (makeEvidence b s).pending = s.pending := by unfold makeEvidence; (repeat' split) <;> simp

@[simp] theorem statusEvent_osc : (statusEvent s).osc = s.osc := by unfold statusEvent; (repeat' split) <;> simp
@[simp] theorem statusEvent_tsu : (statusEvent s).tsu = s.tsu := by unfold statusEvent; (repeat' split) <;> simp
@[simp] theorem statusEvent_ref : (statusEvent s).ref = s.ref := by unfold statusEvent; (repeat' split) <;> simp
@[simp] theorem statusEvent_div : (statusEvent s).div = s.div := by unfold statusEvent; (repeat' split) <;> simp
@[simp] theorem statusEvent_taps : (statusEvent s).taps = s.taps := by unfold statusEvent; (repeat' split) <;> simp
@[simp] theorem statusEvent_seq : (statusEvent s).seq = s.seq := by unfold statusEvent; (repeat' split) <;> simp
@[simp] theorem statusEvent_stg : (statusEvent s).stg = s.stg := by unfold statusEvent; (repeat' split) <;> simp
@[simp] theorem statusEvent_auc : (statusEvent s).auc = s.auc := by unfold statusEvent; (repeat' split) <;> simp
@[simp] theorem statusEvent_evu : (statusEvent s).evu = s.evu := by unfold statusEvent; (repeat' split) <;> simp
@[simp] theorem statusEvent_jwr : (statusEvent s).jwr = s.jwr := by unfold statusEvent; (repeat' split) <;> simp
@[simp] theorem statusEvent_rqp : (statusEvent s).rqp = s.rqp := by unfold statusEvent; (repeat' split) <;> simp
@[simp] theorem statusEvent_pending : (statusEvent s).pending = s.pending := by unfold statusEvent; (repeat' split) <;> simp

@[simp] theorem noteStarved_osc (st : Stream) : (noteStarved st s).osc = s.osc := by unfold noteStarved; (repeat' split) <;> simp
@[simp] theorem noteStarved_tsu (st : Stream) : (noteStarved st s).tsu = s.tsu := by unfold noteStarved; (repeat' split) <;> simp
@[simp] theorem noteStarved_ref (st : Stream) : (noteStarved st s).ref = s.ref := by unfold noteStarved; (repeat' split) <;> simp
@[simp] theorem noteStarved_div (st : Stream) : (noteStarved st s).div = s.div := by unfold noteStarved; (repeat' split) <;> simp
@[simp] theorem noteStarved_taps (st : Stream) : (noteStarved st s).taps = s.taps := by unfold noteStarved; (repeat' split) <;> simp
@[simp] theorem noteStarved_seq (st : Stream) : (noteStarved st s).seq = s.seq := by unfold noteStarved; (repeat' split) <;> simp
@[simp] theorem noteStarved_stg (st : Stream) : (noteStarved st s).stg = s.stg := by unfold noteStarved; (repeat' split) <;> simp
@[simp] theorem noteStarved_auc (st : Stream) : (noteStarved st s).auc = s.auc := by unfold noteStarved; (repeat' split) <;> simp
@[simp] theorem noteStarved_evu (st : Stream) : (noteStarved st s).evu = s.evu := by unfold noteStarved; (repeat' split) <;> simp
@[simp] theorem noteStarved_jwr (st : Stream) : (noteStarved st s).jwr = s.jwr := by unfold noteStarved; (repeat' split) <;> simp
@[simp] theorem noteStarved_rqp (st : Stream) : (noteStarved st s).rqp = s.rqp := by unfold noteStarved; (repeat' split) <;> simp
@[simp] theorem noteStarved_pending (st : Stream) : (noteStarved st s).pending = s.pending := by unfold noteStarved; (repeat' split) <;> simp

@[simp] theorem checkStarved_osc : (checkStarved s).osc = s.osc := by simp [checkStarved]
@[simp] theorem checkStarved_tsu : (checkStarved s).tsu = s.tsu := by simp [checkStarved]
@[simp] theorem checkStarved_ref : (checkStarved s).ref = s.ref := by simp [checkStarved]
@[simp] theorem checkStarved_div : (checkStarved s).div = s.div := by simp [checkStarved]
@[simp] theorem checkStarved_taps : (checkStarved s).taps = s.taps := by simp [checkStarved]
@[simp] theorem checkStarved_seq : (checkStarved s).seq = s.seq := by simp [checkStarved]
@[simp] theorem checkStarved_stg : (checkStarved s).stg = s.stg := by simp [checkStarved]
@[simp] theorem checkStarved_auc : (checkStarved s).auc = s.auc := by simp [checkStarved]
@[simp] theorem checkStarved_evu : (checkStarved s).evu = s.evu := by simp [checkStarved]
@[simp] theorem checkStarved_jwr : (checkStarved s).jwr = s.jwr := by simp [checkStarved]
@[simp] theorem checkStarved_rqp : (checkStarved s).rqp = s.rqp := by simp [checkStarved]
@[simp] theorem checkStarved_pending : (checkStarved s).pending = s.pending := by simp [checkStarved]

@[simp] theorem deliver_osc (o : ReqOutcome) (fs : List Field) : (deliver o fs s).osc = s.osc := by unfold deliver; (repeat' split) <;> simp
@[simp] theorem deliver_tsu (o : ReqOutcome) (fs : List Field) : (deliver o fs s).tsu = s.tsu := by unfold deliver; (repeat' split) <;> simp
@[simp] theorem deliver_ref (o : ReqOutcome) (fs : List Field) : (deliver o fs s).ref = s.ref := by unfold deliver; (repeat' split) <;> simp
@[simp] theorem deliver_div (o : ReqOutcome) (fs : List Field) : (deliver o fs s).div = s.div := by unfold deliver; (repeat' split) <;> simp
@[simp] theorem deliver_taps (o : ReqOutcome) (fs : List Field) : (deliver o fs s).taps = s.taps := by unfold deliver; (repeat' split) <;> simp
@[simp] theorem deliver_seq (o : ReqOutcome) (fs : List Field) : (deliver o fs s).seq = s.seq := by unfold deliver; (repeat' split) <;> simp
@[simp] theorem deliver_stg (o : ReqOutcome) (fs : List Field) : (deliver o fs s).stg = s.stg := by unfold deliver; (repeat' split) <;> simp
@[simp] theorem deliver_auc (o : ReqOutcome) (fs : List Field) : (deliver o fs s).auc = s.auc := by unfold deliver; (repeat' split) <;> simp
@[simp] theorem deliver_evu (o : ReqOutcome) (fs : List Field) : (deliver o fs s).evu = s.evu := by unfold deliver; (repeat' split) <;> simp
@[simp] theorem deliver_jwr (o : ReqOutcome) (fs : List Field) : (deliver o fs s).jwr = s.jwr := by unfold deliver; (repeat' split) <;> simp
@[simp] theorem deliver_arc (o : ReqOutcome) (fs : List Field) : (deliver o fs s).arc = s.arc := by unfold deliver; (repeat' split) <;> simp
@[simp] theorem deliver_pending (o : ReqOutcome) (fs : List Field) : (deliver o fs s).pending = s.pending := by unfold deliver; (repeat' split) <;> simp

@[simp] theorem attemptSummary_osc : (attemptSummary s).osc = s.osc := by unfold attemptSummary; dsimp only; (repeat' split) <;> simp
@[simp] theorem attemptSummary_tsu : (attemptSummary s).tsu = s.tsu := by unfold attemptSummary; dsimp only; (repeat' split) <;> simp
@[simp] theorem attemptSummary_ref : (attemptSummary s).ref = s.ref := by unfold attemptSummary; dsimp only; (repeat' split) <;> simp
@[simp] theorem attemptSummary_div : (attemptSummary s).div = s.div := by unfold attemptSummary; dsimp only; (repeat' split) <;> simp
@[simp] theorem attemptSummary_taps : (attemptSummary s).taps = s.taps := by unfold attemptSummary; dsimp only; (repeat' split) <;> simp
@[simp] theorem attemptSummary_seq : (attemptSummary s).seq = s.seq := by unfold attemptSummary; dsimp only; (repeat' split) <;> simp
@[simp] theorem attemptSummary_auc : (attemptSummary s).auc = s.auc := by unfold attemptSummary; dsimp only; (repeat' split) <;> simp
@[simp] theorem attemptSummary_jwr : (attemptSummary s).jwr = s.jwr := by unfold attemptSummary; dsimp only; (repeat' split) <;> simp
@[simp] theorem attemptSummary_arc : (attemptSummary s).arc = s.arc := by unfold attemptSummary; dsimp only; (repeat' split) <;> simp
@[simp] theorem attemptSummary_rqp : (attemptSummary s).rqp = s.rqp := by unfold attemptSummary; dsimp only; (repeat' split) <;> simp
@[simp] theorem attemptSummary_pending : (attemptSummary s).pending = s.pending := by unfold attemptSummary; dsimp only; (repeat' split) <;> simp

@[simp] theorem summaryStep_osc : (summaryStep s).osc = s.osc := by unfold summaryStep; (repeat' split) <;> simp
@[simp] theorem summaryStep_tsu : (summaryStep s).tsu = s.tsu := by unfold summaryStep; (repeat' split) <;> simp
@[simp] theorem summaryStep_ref : (summaryStep s).ref = s.ref := by unfold summaryStep; (repeat' split) <;> simp
@[simp] theorem summaryStep_div : (summaryStep s).div = s.div := by unfold summaryStep; (repeat' split) <;> simp
@[simp] theorem summaryStep_taps : (summaryStep s).taps = s.taps := by unfold summaryStep; (repeat' split) <;> simp
@[simp] theorem summaryStep_seq : (summaryStep s).seq = s.seq := by unfold summaryStep; (repeat' split) <;> simp
@[simp] theorem summaryStep_auc : (summaryStep s).auc = s.auc := by unfold summaryStep; (repeat' split) <;> simp
@[simp] theorem summaryStep_jwr : (summaryStep s).jwr = s.jwr := by unfold summaryStep; (repeat' split) <;> simp
@[simp] theorem summaryStep_arc : (summaryStep s).arc = s.arc := by unfold summaryStep; (repeat' split) <;> simp
@[simp] theorem summaryStep_rqp : (summaryStep s).rqp = s.rqp := by unfold summaryStep; (repeat' split) <;> simp
@[simp] theorem summaryStep_pending : (summaryStep s).pending = s.pending := by unfold summaryStep; (repeat' split) <;> simp

@[simp] theorem reportClass_osc (old : Cls) : (reportClass old s).osc = s.osc := by unfold reportClass; (repeat' split) <;> simp
@[simp] theorem reportClass_tsu (old : Cls) : (reportClass old s).tsu = s.tsu := by unfold reportClass; (repeat' split) <;> simp
@[simp] theorem reportClass_ref (old : Cls) : (reportClass old s).ref = s.ref := by unfold reportClass; (repeat' split) <;> simp
@[simp] theorem reportClass_div (old : Cls) : (reportClass old s).div = s.div := by unfold reportClass; (repeat' split) <;> simp
@[simp] theorem reportClass_taps (old : Cls) : (reportClass old s).taps = s.taps := by unfold reportClass; (repeat' split) <;> simp
@[simp] theorem reportClass_seq (old : Cls) : (reportClass old s).seq = s.seq := by unfold reportClass; (repeat' split) <;> simp
@[simp] theorem reportClass_auc (old : Cls) : (reportClass old s).auc = s.auc := by unfold reportClass; (repeat' split) <;> simp
@[simp] theorem reportClass_jwr (old : Cls) : (reportClass old s).jwr = s.jwr := by unfold reportClass; (repeat' split) <;> simp
@[simp] theorem reportClass_rqp (old : Cls) : (reportClass old s).rqp = s.rqp := by unfold reportClass; (repeat' split) <;> simp
@[simp] theorem reportClass_pending (old : Cls) : (reportClass old s).pending = s.pending := by unfold reportClass; (repeat' split) <;> simp

@[simp] theorem reportEvaluation_osc (old : Cls) : (reportEvaluation old s).osc = s.osc := by simp [reportEvaluation]
@[simp] theorem reportEvaluation_tsu (old : Cls) : (reportEvaluation old s).tsu = s.tsu := by simp [reportEvaluation]
@[simp] theorem reportEvaluation_ref (old : Cls) : (reportEvaluation old s).ref = s.ref := by simp [reportEvaluation]
@[simp] theorem reportEvaluation_div (old : Cls) : (reportEvaluation old s).div = s.div := by simp [reportEvaluation]
@[simp] theorem reportEvaluation_taps (old : Cls) : (reportEvaluation old s).taps = s.taps := by simp [reportEvaluation]
@[simp] theorem reportEvaluation_seq (old : Cls) : (reportEvaluation old s).seq = s.seq := by simp [reportEvaluation]
@[simp] theorem reportEvaluation_auc (old : Cls) : (reportEvaluation old s).auc = s.auc := by simp [reportEvaluation]
@[simp] theorem reportEvaluation_jwr (old : Cls) : (reportEvaluation old s).jwr = s.jwr := by simp [reportEvaluation]
@[simp] theorem reportEvaluation_rqp (old : Cls) : (reportEvaluation old s).rqp = s.rqp := by simp [reportEvaluation]
@[simp] theorem reportEvaluation_pending (old : Cls) : (reportEvaluation old s).pending = s.pending := by simp [reportEvaluation]

@[simp] theorem evaluateIn_osc (ts : TsState) : (evaluateIn ts s).osc = s.osc := by simp [evaluateIn]
@[simp] theorem evaluate_osc : (evaluate s).osc = s.osc := by simp [evaluate]
@[simp] theorem evaluateIn_tsu (ts : TsState) : (evaluateIn ts s).tsu = s.tsu := by simp [evaluateIn]
@[simp] theorem evaluate_tsu : (evaluate s).tsu = s.tsu := by simp [evaluate]
@[simp] theorem evaluateIn_ref (ts : TsState) : (evaluateIn ts s).ref = s.ref := by simp [evaluateIn]
@[simp] theorem evaluate_ref : (evaluate s).ref = s.ref := by simp [evaluate]
@[simp] theorem evaluateIn_taps (ts : TsState) : (evaluateIn ts s).taps = s.taps := by simp [evaluateIn]
@[simp] theorem evaluate_taps : (evaluate s).taps = s.taps := by simp [evaluate]
@[simp] theorem evaluateIn_seq (ts : TsState) : (evaluateIn ts s).seq = s.seq := by simp [evaluateIn]
@[simp] theorem evaluate_seq : (evaluate s).seq = s.seq := by simp [evaluate]
@[simp] theorem evaluateIn_auc (ts : TsState) : (evaluateIn ts s).auc = s.auc := by simp [evaluateIn]
@[simp] theorem evaluate_auc : (evaluate s).auc = s.auc := by simp [evaluate]
@[simp] theorem evaluateIn_jwr (ts : TsState) : (evaluateIn ts s).jwr = s.jwr := by simp [evaluateIn]
@[simp] theorem evaluate_jwr : (evaluate s).jwr = s.jwr := by simp [evaluate]
@[simp] theorem evaluateIn_rqp (ts : TsState) : (evaluateIn ts s).rqp = s.rqp := by simp [evaluateIn]
@[simp] theorem evaluate_rqp : (evaluate s).rqp = s.rqp := by simp [evaluate]
@[simp] theorem evaluateIn_pending (ts : TsState) : (evaluateIn ts s).pending = s.pending := by simp [evaluateIn]
@[simp] theorem evaluate_pending : (evaluate s).pending = s.pending := by simp [evaluate]

@[simp] theorem evaluatePulse_osc (uMod : Nat) (theta : Int) : (evaluatePulse uMod theta s).osc = s.osc := by simp [evaluatePulse]
@[simp] theorem evaluatePulse_tsu (uMod : Nat) (theta : Int) : (evaluatePulse uMod theta s).tsu = s.tsu := by simp [evaluatePulse]
@[simp] theorem evaluatePulse_ref (uMod : Nat) (theta : Int) : (evaluatePulse uMod theta s).ref = s.ref := by simp [evaluatePulse]
@[simp] theorem evaluatePulse_taps (uMod : Nat) (theta : Int) : (evaluatePulse uMod theta s).taps = s.taps := by simp [evaluatePulse]
@[simp] theorem evaluatePulse_seq (uMod : Nat) (theta : Int) : (evaluatePulse uMod theta s).seq = s.seq := by simp [evaluatePulse]
@[simp] theorem evaluatePulse_auc (uMod : Nat) (theta : Int) : (evaluatePulse uMod theta s).auc = s.auc := by simp [evaluatePulse]
@[simp] theorem evaluatePulse_jwr (uMod : Nat) (theta : Int) : (evaluatePulse uMod theta s).jwr = s.jwr := by simp [evaluatePulse]
@[simp] theorem evaluatePulse_rqp (uMod : Nat) (theta : Int) : (evaluatePulse uMod theta s).rqp = s.rqp := by simp [evaluatePulse]
@[simp] theorem evaluatePulse_pending (uMod : Nat) (theta : Int) : (evaluatePulse uMod theta s).pending = s.pending := by simp [evaluatePulse]

@[simp] theorem beginHoldover_osc (u0 : Nat) : (beginHoldover u0 s).osc = s.osc := by simp [beginHoldover]
@[simp] theorem beginHoldover_tsu (u0 : Nat) : (beginHoldover u0 s).tsu = s.tsu := by simp [beginHoldover]
@[simp] theorem beginHoldover_ref (u0 : Nat) : (beginHoldover u0 s).ref = s.ref := by simp [beginHoldover]
@[simp] theorem beginHoldover_taps (u0 : Nat) : (beginHoldover u0 s).taps = s.taps := by simp [beginHoldover]
@[simp] theorem beginHoldover_seq (u0 : Nat) : (beginHoldover u0 s).seq = s.seq := by simp [beginHoldover]
@[simp] theorem beginHoldover_auc (u0 : Nat) : (beginHoldover u0 s).auc = s.auc := by simp [beginHoldover]
@[simp] theorem beginHoldover_jwr (u0 : Nat) : (beginHoldover u0 s).jwr = s.jwr := by simp [beginHoldover]
@[simp] theorem beginHoldover_rqp (u0 : Nat) : (beginHoldover u0 s).rqp = s.rqp := by simp [beginHoldover]
@[simp] theorem beginHoldover_pending (u0 : Nat) : (beginHoldover u0 s).pending = s.pending := by simp [beginHoldover]

@[simp] theorem secondIn_osc (ts : TsState) : (secondIn ts s).osc = s.osc := by unfold secondIn; (repeat' split) <;> simp
/-- A holdover second leaves of the timescale unit all but that this tick's XT has been read. -/
theorem secondIn_tsu (ts : TsState) : ∃ b, (secondIn ts s).tsu = { s.tsu with xtRead := b } := by
  unfold secondIn; split
  · exact ⟨true, by simp⟩
  · exact ⟨s.tsu.xtRead, rfl⟩
@[simp] theorem secondIn_ref (ts : TsState) : (secondIn ts s).ref = s.ref := by unfold secondIn; (repeat' split) <;> simp
@[simp] theorem secondIn_taps (ts : TsState) : (secondIn ts s).taps = s.taps := by unfold secondIn; (repeat' split) <;> simp
@[simp] theorem secondIn_seq (ts : TsState) : (secondIn ts s).seq = s.seq := by unfold secondIn; (repeat' split) <;> simp
@[simp] theorem secondIn_auc (ts : TsState) : (secondIn ts s).auc = s.auc := by unfold secondIn; (repeat' split) <;> simp
@[simp] theorem secondIn_jwr (ts : TsState) : (secondIn ts s).jwr = s.jwr := by unfold secondIn; (repeat' split) <;> simp
@[simp] theorem secondIn_rqp (ts : TsState) : (secondIn ts s).rqp = s.rqp := by unfold secondIn; (repeat' split) <;> simp
@[simp] theorem secondIn_pending (ts : TsState) : (secondIn ts s).pending = s.pending := by unfold secondIn; (repeat' split) <;> simp

@[simp] theorem applyTrace_osc (set : TraceSet) : (applyTrace set s).osc = s.osc := by simp [applyTrace]
@[simp] theorem applyTrace_tsu (set : TraceSet) : (applyTrace set s).tsu = s.tsu := by simp [applyTrace]
@[simp] theorem applyTrace_ref (set : TraceSet) : (applyTrace set s).ref = s.ref := by simp [applyTrace]
@[simp] theorem applyTrace_taps (set : TraceSet) : (applyTrace set s).taps = s.taps := by simp [applyTrace]
@[simp] theorem applyTrace_seq (set : TraceSet) : (applyTrace set s).seq = s.seq := by simp [applyTrace]
@[simp] theorem applyTrace_auc (set : TraceSet) : (applyTrace set s).auc = s.auc := by simp [applyTrace]
@[simp] theorem applyTrace_jwr (set : TraceSet) : (applyTrace set s).jwr = s.jwr := by simp [applyTrace]
@[simp] theorem applyTrace_rqp (set : TraceSet) : (applyTrace set s).rqp = s.rqp := by simp [applyTrace]
@[simp] theorem applyTrace_pending (set : TraceSet) : (applyTrace set s).pending = s.pending := by simp [applyTrace]

@[simp] theorem pruneSpans_osc : (pruneSpans s).osc = s.osc := by unfold pruneSpans; (repeat' split) <;> simp
@[simp] theorem pruneSpans_tsu : (pruneSpans s).tsu = s.tsu := by unfold pruneSpans; (repeat' split) <;> simp
@[simp] theorem pruneSpans_ref : (pruneSpans s).ref = s.ref := by unfold pruneSpans; (repeat' split) <;> simp
@[simp] theorem pruneSpans_div : (pruneSpans s).div = s.div := by unfold pruneSpans; (repeat' split) <;> simp
@[simp] theorem pruneSpans_taps : (pruneSpans s).taps = s.taps := by unfold pruneSpans; (repeat' split) <;> simp
@[simp] theorem pruneSpans_seq : (pruneSpans s).seq = s.seq := by unfold pruneSpans; (repeat' split) <;> simp
@[simp] theorem pruneSpans_stg : (pruneSpans s).stg = s.stg := by unfold pruneSpans; (repeat' split) <;> simp
@[simp] theorem pruneSpans_evu : (pruneSpans s).evu = s.evu := by unfold pruneSpans; (repeat' split) <;> simp
@[simp] theorem pruneSpans_jwr : (pruneSpans s).jwr = s.jwr := by unfold pruneSpans; (repeat' split) <;> simp
@[simp] theorem pruneSpans_arc : (pruneSpans s).arc = s.arc := by unfold pruneSpans; (repeat' split) <;> simp
@[simp] theorem pruneSpans_rqp : (pruneSpans s).rqp = s.rqp := by unfold pruneSpans; (repeat' split) <;> simp
@[simp] theorem pruneSpans_pending : (pruneSpans s).pending = s.pending := by unfold pruneSpans; (repeat' split) <;> simp

@[simp] theorem handleStart_osc (d : Deadline) : (handleStart d s).osc = s.osc := by simp [handleStart]
@[simp] theorem handleStart_tsu (d : Deadline) : (handleStart d s).tsu = s.tsu := by simp [handleStart]
@[simp] theorem handleStart_ref (d : Deadline) : (handleStart d s).ref = s.ref := by simp [handleStart]
@[simp] theorem handleStart_div (d : Deadline) : (handleStart d s).div = s.div := by simp [handleStart]
@[simp] theorem handleStart_taps (d : Deadline) : (handleStart d s).taps = s.taps := by simp [handleStart]
@[simp] theorem handleStart_seq (d : Deadline) : (handleStart d s).seq = s.seq := by simp [handleStart]
@[simp] theorem handleStart_stg (d : Deadline) : (handleStart d s).stg = s.stg := by simp [handleStart]
@[simp] theorem handleStart_evu (d : Deadline) : (handleStart d s).evu = s.evu := by simp [handleStart]
@[simp] theorem handleStart_jwr (d : Deadline) : (handleStart d s).jwr = s.jwr := by simp [handleStart]
@[simp] theorem handleStart_arc (d : Deadline) : (handleStart d s).arc = s.arc := by simp [handleStart]
@[simp] theorem handleStart_rqp (d : Deadline) : (handleStart d s).rqp = s.rqp := by simp [handleStart]
@[simp] theorem handleStart_pending (d : Deadline) : (handleStart d s).pending = s.pending := by simp [handleStart]

@[simp] theorem enterDecide_osc (g : Fin 64) (v : Group) (r cutoff : Nat) (fl : NoticeFlags) : (enterDecide g v r cutoff fl s).osc = s.osc := by simp [enterDecide]
@[simp] theorem enterDecide_tsu (g : Fin 64) (v : Group) (r cutoff : Nat) (fl : NoticeFlags) : (enterDecide g v r cutoff fl s).tsu = s.tsu := by simp [enterDecide]
@[simp] theorem enterDecide_ref (g : Fin 64) (v : Group) (r cutoff : Nat) (fl : NoticeFlags) : (enterDecide g v r cutoff fl s).ref = s.ref := by simp [enterDecide]
@[simp] theorem enterDecide_div (g : Fin 64) (v : Group) (r cutoff : Nat) (fl : NoticeFlags) : (enterDecide g v r cutoff fl s).div = s.div := by simp [enterDecide]
@[simp] theorem enterDecide_taps (g : Fin 64) (v : Group) (r cutoff : Nat) (fl : NoticeFlags) : (enterDecide g v r cutoff fl s).taps = s.taps := by simp [enterDecide]
@[simp] theorem enterDecide_seq (g : Fin 64) (v : Group) (r cutoff : Nat) (fl : NoticeFlags) : (enterDecide g v r cutoff fl s).seq = s.seq := by simp [enterDecide]
@[simp] theorem enterDecide_jwr (g : Fin 64) (v : Group) (r cutoff : Nat) (fl : NoticeFlags) : (enterDecide g v r cutoff fl s).jwr = s.jwr := by simp [enterDecide]
@[simp] theorem enterDecide_rqp (g : Fin 64) (v : Group) (r cutoff : Nat) (fl : NoticeFlags) : (enterDecide g v r cutoff fl s).rqp = s.rqp := by simp [enterDecide]
@[simp] theorem enterDecide_pending (g : Fin 64) (v : Group) (r cutoff : Nat) (fl : NoticeFlags) : (enterDecide g v r cutoff fl s).pending = s.pending := by simp [enterDecide]

@[simp] theorem drawOffset_osc (w : Nat) : (drawOffset w s).2.osc = s.osc := by unfold drawOffset; split <;> rfl
@[simp] theorem drawOffset_tsu (w : Nat) : (drawOffset w s).2.tsu = s.tsu := by unfold drawOffset; split <;> rfl
@[simp] theorem drawOffset_ref (w : Nat) : (drawOffset w s).2.ref = s.ref := by unfold drawOffset; split <;> rfl
@[simp] theorem drawOffset_div (w : Nat) : (drawOffset w s).2.div = s.div := by unfold drawOffset; split <;> rfl
@[simp] theorem drawOffset_taps (w : Nat) : (drawOffset w s).2.taps = s.taps := by unfold drawOffset; split <;> rfl
@[simp] theorem drawOffset_seq (w : Nat) : (drawOffset w s).2.seq = s.seq := by unfold drawOffset; split <;> rfl
@[simp] theorem drawOffset_stg (w : Nat) : (drawOffset w s).2.stg = s.stg := by unfold drawOffset; split <;> rfl
@[simp] theorem drawOffset_evu (w : Nat) : (drawOffset w s).2.evu = s.evu := by unfold drawOffset; split <;> rfl
@[simp] theorem drawOffset_jwr (w : Nat) : (drawOffset w s).2.jwr = s.jwr := by unfold drawOffset; split <;> rfl
@[simp] theorem drawOffset_arc (w : Nat) : (drawOffset w s).2.arc = s.arc := by unfold drawOffset; split <;> rfl
@[simp] theorem drawOffset_rqp (w : Nat) : (drawOffset w s).2.rqp = s.rqp := by unfold drawOffset; split <;> rfl
@[simp] theorem drawOffset_pending (w : Nat) : (drawOffset w s).2.pending = s.pending := by unfold drawOffset; split <;> rfl

@[simp] theorem handleEnd_osc (d : Deadline) : (handleEnd d s).osc = s.osc := by unfold handleEnd; dsimp only; (repeat' split) <;> simp
@[simp] theorem handleEnd_tsu (d : Deadline) : (handleEnd d s).tsu = s.tsu := by unfold handleEnd; dsimp only; (repeat' split) <;> simp
@[simp] theorem handleEnd_ref (d : Deadline) : (handleEnd d s).ref = s.ref := by unfold handleEnd; dsimp only; (repeat' split) <;> simp
@[simp] theorem handleEnd_div (d : Deadline) : (handleEnd d s).div = s.div := by unfold handleEnd; dsimp only; (repeat' split) <;> simp
@[simp] theorem handleEnd_taps (d : Deadline) : (handleEnd d s).taps = s.taps := by unfold handleEnd; dsimp only; (repeat' split) <;> simp
@[simp] theorem handleEnd_seq (d : Deadline) : (handleEnd d s).seq = s.seq := by unfold handleEnd; dsimp only; (repeat' split) <;> simp
@[simp] theorem handleEnd_jwr (d : Deadline) : (handleEnd d s).jwr = s.jwr := by unfold handleEnd; dsimp only; (repeat' split) <;> simp
@[simp] theorem handleEnd_rqp (d : Deadline) : (handleEnd d s).rqp = s.rqp := by unfold handleEnd; dsimp only; (repeat' split) <;> simp
@[simp] theorem handleEnd_pending (d : Deadline) : (handleEnd d s).pending = s.pending := by unfold handleEnd; dsimp only; (repeat' split) <;> simp

@[simp] theorem handleCutoff_osc (d : Deadline) : (handleCutoff d s).osc = s.osc := by simp [handleCutoff]
@[simp] theorem handleCutoff_tsu (d : Deadline) : (handleCutoff d s).tsu = s.tsu := by simp [handleCutoff]
@[simp] theorem handleCutoff_ref (d : Deadline) : (handleCutoff d s).ref = s.ref := by simp [handleCutoff]
@[simp] theorem handleCutoff_div (d : Deadline) : (handleCutoff d s).div = s.div := by simp [handleCutoff]
@[simp] theorem handleCutoff_taps (d : Deadline) : (handleCutoff d s).taps = s.taps := by simp [handleCutoff]
@[simp] theorem handleCutoff_seq (d : Deadline) : (handleCutoff d s).seq = s.seq := by simp [handleCutoff]
@[simp] theorem handleCutoff_jwr (d : Deadline) : (handleCutoff d s).jwr = s.jwr := by simp [handleCutoff]
@[simp] theorem handleCutoff_rqp (d : Deadline) : (handleCutoff d s).rqp = s.rqp := by simp [handleCutoff]
@[simp] theorem handleCutoff_pending (d : Deadline) : (handleCutoff d s).pending = s.pending := by simp [handleCutoff]

@[simp] theorem handleLimit_osc (d : Deadline) : (handleLimit d s).osc = s.osc := by unfold handleLimit; dsimp only; (repeat' split) <;> simp
@[simp] theorem handleLimit_tsu (d : Deadline) : (handleLimit d s).tsu = s.tsu := by unfold handleLimit; dsimp only; (repeat' split) <;> simp
@[simp] theorem handleLimit_ref (d : Deadline) : (handleLimit d s).ref = s.ref := by unfold handleLimit; dsimp only; (repeat' split) <;> simp
@[simp] theorem handleLimit_div (d : Deadline) : (handleLimit d s).div = s.div := by unfold handleLimit; dsimp only; (repeat' split) <;> simp
@[simp] theorem handleLimit_taps (d : Deadline) : (handleLimit d s).taps = s.taps := by unfold handleLimit; dsimp only; (repeat' split) <;> simp
@[simp] theorem handleLimit_seq (d : Deadline) : (handleLimit d s).seq = s.seq := by unfold handleLimit; dsimp only; (repeat' split) <;> simp
@[simp] theorem handleLimit_stg (d : Deadline) : (handleLimit d s).stg = s.stg := by unfold handleLimit; dsimp only; (repeat' split) <;> simp
@[simp] theorem handleLimit_evu (d : Deadline) : (handleLimit d s).evu = s.evu := by unfold handleLimit; dsimp only; (repeat' split) <;> simp
@[simp] theorem handleLimit_jwr (d : Deadline) : (handleLimit d s).jwr = s.jwr := by unfold handleLimit; dsimp only; (repeat' split) <;> simp
@[simp] theorem handleLimit_arc (d : Deadline) : (handleLimit d s).arc = s.arc := by unfold handleLimit; dsimp only; (repeat' split) <;> simp
@[simp] theorem handleLimit_rqp (d : Deadline) : (handleLimit d s).rqp = s.rqp := by unfold handleLimit; dsimp only; (repeat' split) <;> simp
@[simp] theorem handleLimit_pending (d : Deadline) : (handleLimit d s).pending = s.pending := by unfold handleLimit; dsimp only; (repeat' split) <;> simp

@[simp] theorem handleDeadline_osc (d : Deadline) : (handleDeadline d s).osc = s.osc := by unfold handleDeadline; (repeat' split) <;> simp
@[simp] theorem handleDeadline_tsu (d : Deadline) : (handleDeadline d s).tsu = s.tsu := by unfold handleDeadline; (repeat' split) <;> simp
@[simp] theorem handleDeadline_ref (d : Deadline) : (handleDeadline d s).ref = s.ref := by unfold handleDeadline; (repeat' split) <;> simp
@[simp] theorem handleDeadline_div (d : Deadline) : (handleDeadline d s).div = s.div := by unfold handleDeadline; (repeat' split) <;> simp
@[simp] theorem handleDeadline_taps (d : Deadline) : (handleDeadline d s).taps = s.taps := by unfold handleDeadline; (repeat' split) <;> simp
@[simp] theorem handleDeadline_seq (d : Deadline) : (handleDeadline d s).seq = s.seq := by unfold handleDeadline; (repeat' split) <;> simp
@[simp] theorem handleDeadline_jwr (d : Deadline) : (handleDeadline d s).jwr = s.jwr := by unfold handleDeadline; (repeat' split) <;> simp
@[simp] theorem handleDeadline_rqp (d : Deadline) : (handleDeadline d s).rqp = s.rqp := by unfold handleDeadline; (repeat' split) <;> simp
@[simp] theorem handleDeadline_pending (d : Deadline) : (handleDeadline d s).pending = s.pending := by unfold handleDeadline; (repeat' split) <;> simp

@[simp] theorem handleReady_osc : (handleReady s).osc = s.osc := by unfold handleReady; (repeat' split) <;> simp
@[simp] theorem handleReady_tsu : (handleReady s).tsu = s.tsu := by unfold handleReady; (repeat' split) <;> simp
@[simp] theorem handleReady_ref : (handleReady s).ref = s.ref := by unfold handleReady; (repeat' split) <;> simp
@[simp] theorem handleReady_div : (handleReady s).div = s.div := by unfold handleReady; (repeat' split) <;> simp
@[simp] theorem handleReady_taps : (handleReady s).taps = s.taps := by unfold handleReady; (repeat' split) <;> simp
@[simp] theorem handleReady_seq : (handleReady s).seq = s.seq := by unfold handleReady; (repeat' split) <;> simp
@[simp] theorem handleReady_jwr : (handleReady s).jwr = s.jwr := by unfold handleReady; (repeat' split) <;> simp
@[simp] theorem handleReady_rqp : (handleReady s).rqp = s.rqp := by unfold handleReady; (repeat' split) <;> simp
@[simp] theorem handleReady_pending : (handleReady s).pending = s.pending := by unfold handleReady; (repeat' split) <;> simp

@[simp] theorem handleTagged_osc (t : Tag) : (handleTagged t s).osc = s.osc := by unfold handleTagged; (repeat' split) <;> simp
@[simp] theorem handleTagged_tsu (t : Tag) : (handleTagged t s).tsu = s.tsu := by unfold handleTagged; (repeat' split) <;> simp
@[simp] theorem handleTagged_ref (t : Tag) : (handleTagged t s).ref = s.ref := by unfold handleTagged; (repeat' split) <;> simp
@[simp] theorem handleTagged_div (t : Tag) : (handleTagged t s).div = s.div := by unfold handleTagged; (repeat' split) <;> simp
@[simp] theorem handleTagged_taps (t : Tag) : (handleTagged t s).taps = s.taps := by unfold handleTagged; (repeat' split) <;> simp
@[simp] theorem handleTagged_seq (t : Tag) : (handleTagged t s).seq = s.seq := by unfold handleTagged; (repeat' split) <;> simp
@[simp] theorem handleTagged_jwr (t : Tag) : (handleTagged t s).jwr = s.jwr := by unfold handleTagged; (repeat' split) <;> simp
@[simp] theorem handleTagged_rqp (t : Tag) : (handleTagged t s).rqp = s.rqp := by unfold handleTagged; (repeat' split) <;> simp
@[simp] theorem handleTagged_pending (t : Tag) : (handleTagged t s).pending = s.pending := by unfold handleTagged; (repeat' split) <;> simp

@[simp] theorem cascade_osc (n : Nat) : (cascade n s).osc = s.osc := by
  induction n generalizing s with
  | zero => rfl
  | succ n ih => unfold cascade; split <;> simp [ih]
@[simp] theorem cascade_tsu (n : Nat) : (cascade n s).tsu = s.tsu := by
  induction n generalizing s with
  | zero => rfl
  | succ n ih => unfold cascade; split <;> simp [ih]
@[simp] theorem cascade_ref (n : Nat) : (cascade n s).ref = s.ref := by
  induction n generalizing s with
  | zero => rfl
  | succ n ih => unfold cascade; split <;> simp [ih]
@[simp] theorem cascade_div (n : Nat) : (cascade n s).div = s.div := by
  induction n generalizing s with
  | zero => rfl
  | succ n ih => unfold cascade; split <;> simp [ih]
@[simp] theorem cascade_taps (n : Nat) : (cascade n s).taps = s.taps := by
  induction n generalizing s with
  | zero => rfl
  | succ n ih => unfold cascade; split <;> simp [ih]
@[simp] theorem cascade_seq (n : Nat) : (cascade n s).seq = s.seq := by
  induction n generalizing s with
  | zero => rfl
  | succ n ih => unfold cascade; split <;> simp [ih]
@[simp] theorem cascade_jwr (n : Nat) : (cascade n s).jwr = s.jwr := by
  induction n generalizing s with
  | zero => rfl
  | succ n ih => unfold cascade; split <;> simp [ih]
@[simp] theorem cascade_rqp (n : Nat) : (cascade n s).rqp = s.rqp := by
  induction n generalizing s with
  | zero => rfl
  | succ n ih => unfold cascade; split <;> simp [ih]
@[simp] theorem cascade_pending (n : Nat) : (cascade n s).pending = s.pending := by
  induction n generalizing s with
  | zero => rfl
  | succ n ih => unfold cascade; split <;> simp [ih]

@[simp] theorem Report.act_osc (r : Report) : (Report.act r s).osc = s.osc := by
  cases r <;> simp [Report.act]
@[simp] theorem Report.act_tsu (r : Report) : (Report.act r s).tsu = s.tsu := by
  cases r <;> simp [Report.act]
@[simp] theorem Report.act_ref (r : Report) : (Report.act r s).ref = s.ref := by
  cases r <;> simp [Report.act]
@[simp] theorem Report.act_taps (r : Report) : (Report.act r s).taps = s.taps := by
  cases r <;> simp [Report.act]
@[simp] theorem Report.act_seq (r : Report) : (Report.act r s).seq = s.seq := by
  cases r <;> simp [Report.act]
@[simp] theorem Report.act_auc (r : Report) : (Report.act r s).auc = s.auc := by
  cases r <;> simp [Report.act]
@[simp] theorem Report.act_jwr (r : Report) : (Report.act r s).jwr = s.jwr := by
  cases r <;> simp [Report.act]
@[simp] theorem Report.act_rqp (r : Report) : (Report.act r s).rqp = s.rqp := by
  cases r <;> simp [Report.act]
@[simp] theorem Report.act_pending (r : Report) : (Report.act r s).pending = s.pending := by
  cases r <;> simp [Report.act]

/-- What an act of a group request may change: the auction timer, an evidence record with its reservation, the slot, and that this
tick's XT has been read. -/
def GroupFrame (s t : State) : Prop :=
  t = { s with
    tsu := { s.tsu with xtRead := t.tsu.xtRead }, auc := t.auc
    evu := { s.evu with queue := t.evu.queue, acc := t.evu.acc, pendingReset := t.evu.pendingReset }
    stg := { s.stg with reserved := t.stg.reserved }, rqp := { s.rqp with phase := t.rqp.phase, tickResult := t.rqp.tickResult } }

theorem GroupFrame.refl (s : State) : GroupFrame s s := rfl

theorem GroupFrame.trans {s t u : State} (h : GroupFrame s t) (k : GroupFrame t u) : GroupFrame s u := by
  unfold GroupFrame at h k ⊢
  rw [k, h]

theorem GroupFrame.answer {s t : State} (h : GroupFrame s t) (o : ReqOutcome) (fs : List Field) :
    GroupFrame s (answer o fs t) := by
  unfold GroupFrame at h ⊢
  rw [h]; rfl

theorem GroupFrame.answerForTick {s t : State} (h : GroupFrame s t) (r : TickResult) (fs : List Field) :
    GroupFrame s (answerForTick r fs (readXt t)) := by
  unfold GroupFrame at h ⊢
  rw [h]; rfl

theorem GroupFrame.answerNow {s t : State} (h : GroupFrame s t) (o : ReqOutcome) (fs : List Field) :
    GroupFrame s (answerNow o fs t) := by
  unfold GroupFrame at h ⊢
  rw [h]; rfl

theorem GroupFrame.setGroup {s t : State} (h : GroupFrame s t) (g : Fin 64) (v : Group) (d : Option (Nat × Tag)) :
    GroupFrame s (setGroup g v d t) := by
  unfold GroupFrame at h ⊢
  rw [h]; rfl

theorem GroupFrame.pushNotice {s t : State} (h : GroupFrame s t) (n : Notice) (x : Nat) : GroupFrame s (pushNotice n x t) := by
  unfold GroupFrame at h ⊢
  rw [h]; rfl

theorem GroupFrame.makeEvidence {s t : State} (h : GroupFrame s t) (b : EvBody) : GroupFrame s (makeEvidence b t) := by
  refine h.trans ?_
  unfold GroupFrame Machine.makeEvidence flushReset
  (repeat' split) <;> rfl

theorem GroupFrame.whenRoom {s : State} {f : State → State} (h : GroupFrame s (f s)) : GroupFrame s (whenRoom f s) := by
  unfold Machine.whenRoom; split
  · exact h
  · exact .refl s

theorem takeSchedule_frame (b : List Byte) (s : State) : GroupFrame s (takeSchedule b s) := by
  unfold takeSchedule acceptSchedule refuseGroup
  dsimp only
  (repeat' split) <;> first
    | exact (GroupFrame.refl s).answer _ _
    | exact ((GroupFrame.refl s).setGroup _ _ _).answerNow _ _
    | exact .whenRoom ((((GroupFrame.refl s).setGroup _ _ _).pushNotice _ _).answerNow _ _)

theorem takeAmend_frame (b : List Byte) (s : State) : GroupFrame s (takeAmend b s) := by
  unfold takeAmend acceptAmend amendTo refuseGroup
  dsimp only
  (repeat' split) <;> first
    | exact (GroupFrame.refl s).answer _ _
    | exact ((GroupFrame.refl s).setGroup _ _ _).answerForTick _ _
    | exact .whenRoom ((((GroupFrame.refl s).setGroup _ _ _).pushNotice _ _).answerNow _ _)

theorem takeCancel_frame (b : List Byte) (s : State) : GroupFrame s (takeCancel b s) := by
  unfold takeCancel refuseGroup
  dsimp only
  (repeat' split) <;> try exact (GroupFrame.refl s).answer _ _
  all_goals
    refine .whenRoom ?_
    unfold acceptCancel
    dsimp only
    refine GroupFrame.answerNow ?_ _ _
    split
    · exact (((GroupFrame.refl s).setGroup _ _ _).pushNotice _ _).makeEvidence _
    · exact ((GroupFrame.refl s).setGroup _ _ _).pushNotice _ _

theorem takeDecide_frame (b : List Byte) (s : State) : GroupFrame s (takeDecide b s) := by
  unfold takeDecide refuseGroup
  dsimp only
  (repeat' split) <;> first
    | exact (GroupFrame.refl s).answer _ _
    | exact (GroupFrame.refl s).answerNow _ _
    | exact .whenRoom ((((GroupFrame.refl s).setGroup _ _ _).pushNotice _ _).answerNow _ _)

theorem takeClear_frame (b : List Byte) (s : State) : GroupFrame s (takeClear b s) := by
  unfold takeClear refuseGroup
  dsimp only
  (repeat' split) <;> first
    | exact (GroupFrame.refl s).answer _ _
    | exact .whenRoom ((((GroupFrame.refl s).setGroup _ _ _).pushNotice _ _).answerNow _ _)

theorem takeQueryGroup_frame (b : List Byte) (s : State) : GroupFrame s (takeQueryGroup b s) := by
  unfold takeQueryGroup
  split
  · exact (GroupFrame.refl s).answerNow _ _
  · exact (GroupFrame.refl s).answer _ _

theorem GroupFrame.takeRequest {s t : State} (h : GroupFrame s t) (kind : Nat) {f : List Byte → State → State}
    (hf : ∀ b u, GroupFrame u (f b u)) : GroupFrame s (takeRequest kind f t) := by
  unfold Machine.takeRequest; split
  · exact h.trans (hf _ _)
  · exact h

/-- A group request taken among the reports of a step leaves every other block as it is. -/
theorem takeGroupRequest_frame (s : State) : GroupFrame s (takeGroupRequest s) :=
  ((((((GroupFrame.refl s).takeRequest _ takeSchedule_frame).takeRequest _ takeAmend_frame).takeRequest _
    takeCancel_frame).takeRequest _ takeDecide_frame).takeRequest _ takeClear_frame).takeRequest _ takeQueryGroup_frame

@[simp] theorem takeGroupRequest_osc : (takeGroupRequest s).osc = s.osc := by rw [takeGroupRequest_frame s]
@[simp] theorem takeGroupRequest_ref : (takeGroupRequest s).ref = s.ref := by rw [takeGroupRequest_frame s]
@[simp] theorem takeGroupRequest_div : (takeGroupRequest s).div = s.div := by rw [takeGroupRequest_frame s]
@[simp] theorem takeGroupRequest_taps : (takeGroupRequest s).taps = s.taps := by rw [takeGroupRequest_frame s]
@[simp] theorem takeGroupRequest_seq : (takeGroupRequest s).seq = s.seq := by rw [takeGroupRequest_frame s]
@[simp] theorem takeGroupRequest_jwr : (takeGroupRequest s).jwr = s.jwr := by rw [takeGroupRequest_frame s]
@[simp] theorem takeGroupRequest_arc : (takeGroupRequest s).arc = s.arc := by rw [takeGroupRequest_frame s]
@[simp] theorem takeGroupRequest_pending : (takeGroupRequest s).pending = s.pending := by rw [takeGroupRequest_frame s]

/-- What every report, deadline, SUMMARY, holdover second and group request keeps, the reports of a step keep in every order. -/
theorem runOrder_keeps {P : State → Prop} (report : ∀ (r : Report) t, P t → P (r.act t)) (ready : ∀ t, P t → P (handleReady t))
    (summary : ∀ t, P t → P (summaryStep t)) (second : ∀ old t, P t → P (secondIn old t))
    (group : ∀ t, P t → P (takeGroupRequest t)) (step : Option Nat) (old : TsState) (ps : List Pick) (rs : List Report) {s : State}
    (h : P s) : P (runOrder step old ps rs s) := by
  have fold : ∀ (rs : List Report) (t : State), P t → P (rs.foldl (fun t r => r.act t) t) := by
    intro rs
    induction rs with
    | nil => exact fun _ h => h
    | cons r rs ih => exact fun t h => ih _ (report r t h)
  have all : ∀ (n : Nat) (t : State), P t → P (cascade n t) := by
    intro n
    induction n with
    | zero => exact fun _ h => h
    | succ n ih =>
      intro t h
      unfold cascade; split
      · exact ih _ (ready t h)
      · exact h
  cases step with
  | none => exact fold rs s h
  | some S =>
    show P (runStep old ps rs s)
    induction ps generalizing rs s with
    | nil => exact summary _ (all _ _ (fold rs s h))
    | cons p ps ih =>
      cases p with
      | report => cases rs with
        | nil => exact ih [] h
        | cons r rs => exact ih rs (report r s h)
      | deadline => exact ih rs (ready s h)
      | summary => exact ih rs (summary s h)
      | second =>
        refine ih rs ?_
        show P (secondBefore old s)
        unfold secondBefore; split
        · exact second old s h
        · exact h
      | groupRequest => exact ih rs (group s h)
      | request => exact fold rs s h

@[simp] theorem runOrder_osc (step : Option Nat) (old : TsState) (ps : List Pick) (rs : List Report) :
    (runOrder step old ps rs s).osc = s.osc := by
  refine runOrder_keeps (P := fun t => t.osc = s.osc) ?_ ?_ ?_ ?_ ?_ _ _ _ _ rfl <;> intros <;> simp_all
@[simp] theorem runOrder_ref (step : Option Nat) (old : TsState) (ps : List Pick) (rs : List Report) :
    (runOrder step old ps rs s).ref = s.ref := by
  refine runOrder_keeps (P := fun t => t.ref = s.ref) ?_ ?_ ?_ ?_ ?_ _ _ _ _ rfl <;> intros <;> simp_all
@[simp] theorem runOrder_taps (step : Option Nat) (old : TsState) (ps : List Pick) (rs : List Report) :
    (runOrder step old ps rs s).taps = s.taps := by
  refine runOrder_keeps (P := fun t => t.taps = s.taps) ?_ ?_ ?_ ?_ ?_ _ _ _ _ rfl <;> intros <;> simp_all
@[simp] theorem runOrder_port (step : Option Nat) (old : TsState) (ps : List Pick) (rs : List Report) (n : Fin 8) :
    port (runOrder step old ps rs s) n = port s n := by simp only [port, runOrder_taps]
@[simp] theorem runOrder_seq (step : Option Nat) (old : TsState) (ps : List Pick) (rs : List Report) :
    (runOrder step old ps rs s).seq = s.seq := by
  refine runOrder_keeps (P := fun t => t.seq = s.seq) ?_ ?_ ?_ ?_ ?_ _ _ _ _ rfl <;> intros <;> simp_all
@[simp] theorem runOrder_jwr (step : Option Nat) (old : TsState) (ps : List Pick) (rs : List Report) :
    (runOrder step old ps rs s).jwr = s.jwr := by
  refine runOrder_keeps (P := fun t => t.jwr = s.jwr) ?_ ?_ ?_ ?_ ?_ _ _ _ _ rfl <;> intros <;> simp_all
@[simp] theorem runOrder_pending (step : Option Nat) (old : TsState) (ps : List Pick) (rs : List Report) :
    (runOrder step old ps rs s).pending = s.pending := by
  refine runOrder_keeps (P := fun t => t.pending = s.pending) ?_ ?_ ?_ ?_ ?_ _ _ _ _ rfl <;> intros <;> simp_all

/-- The reports of a step leave of the timescale unit all but that this tick's XT has been read. -/
theorem runOrder_tsu (step : Option Nat) (old : TsState) (ps : List Pick) (rs : List Report) :
    ∃ b, (runOrder step old ps rs s).tsu = { s.tsu with xtRead := b } := by
  refine runOrder_keeps (P := fun t => ∃ b, t.tsu = { s.tsu with xtRead := b }) ?_ ?_ ?_ ?_ ?_ _ _ _ _ ⟨s.tsu.xtRead, rfl⟩
  · intro r t h; simpa using h
  · intro t h; simpa using h
  · intro t h; simpa using h
  · intro old t h
    obtain ⟨b, hb⟩ := h
    obtain ⟨c, hc⟩ := secondIn_tsu t old
    exact ⟨c, by rw [hc, hb]⟩
  · intro t h
    obtain ⟨b, hb⟩ := h
    exact ⟨(takeGroupRequest t).tsu.xtRead, by rw [takeGroupRequest_frame t, hb]⟩

@[simp] theorem runOrder_xt (step : Option Nat) (old : TsState) (ps : List Pick) (rs : List Report) :
    (runOrder step old ps rs s).tsu.xt = s.tsu.xt := by
  obtain ⟨b, hb⟩ := runOrder_tsu s step old ps rs
  rw [hb]

/-- Without an offered group request nothing is taken among the reports of a step. -/
theorem takeGroupRequest_none (h : s.rqp.phase = .offered → byteAt s.rqp.bytes 0 ∉ [0x10, 0x11, 0x12, 0x13, 0x14, 0x15]) :
    takeGroupRequest s = s := by
  have none : ∀ k ∈ [0x10, 0x11, 0x12, 0x13, 0x14, 0x15], ∀ f, takeRequest k f s = s := by
    intro k hk f
    unfold takeRequest
    split
    · exact absurd (‹_ ∧ _›.2 ▸ hk) (h ‹_ ∧ _›.1)
    · rfl
  unfold takeGroupRequest
  rw [none 0x10 (by decide), none 0x11 (by decide), none 0x12 (by decide), none 0x13 (by decide), none 0x14 (by decide),
    none 0x15 (by decide)]

/-- The reports of a step leave the slot as it is but for the phase, and whole where no group request is offered. -/
theorem runOrder_rqp (step : Option Nat) (old : TsState) (ps : List Pick) (rs : List Report) :
    (∃ p r, (runOrder step old ps rs s).rqp = { s.rqp with phase := p, tickResult := r })
    ∧ ((s.rqp.phase = .offered → byteAt s.rqp.bytes 0 ∉ [0x10, 0x11, 0x12, 0x13, 0x14, 0x15]) →
      (runOrder step old ps rs s).rqp = s.rqp) := by
  constructor
  · refine runOrder_keeps (P := fun t => ∃ p r, t.rqp = { s.rqp with phase := p, tickResult := r }) ?_ ?_ ?_ ?_ ?_ _ _ _ _
      ⟨s.rqp.phase, s.rqp.tickResult, rfl⟩
    · intro r t h; simpa using h
    · intro t h; simpa using h
    · intro t h; simpa using h
    · intro old t h; simpa using h
    · intro t h
      obtain ⟨p, r, hp⟩ := h
      exact ⟨(takeGroupRequest t).rqp.phase, (takeGroupRequest t).rqp.tickResult, by rw [takeGroupRequest_frame t, hp]⟩
  · intro hn
    refine runOrder_keeps (P := fun t => t.rqp = s.rqp) ?_ ?_ ?_ ?_ ?_ _ _ _ _ rfl
    · intro r t h; simpa using h
    · intro t h; simpa using h
    · intro t h; simpa using h
    · intro old t h; simpa using h
    · intro t h
      rw [takeGroupRequest_none t (by rw [h]; exact hn), h]

@[simp] theorem moveReadings_osc (S : Nat) : (moveReadings S s).osc = s.osc := rfl
@[simp] theorem moveReadings_tsu (S : Nat) : (moveReadings S s).tsu = s.tsu := rfl
@[simp] theorem moveReadings_ref (S : Nat) : (moveReadings S s).ref = s.ref := rfl
@[simp] theorem moveReadings_div (S : Nat) : (moveReadings S s).div = s.div.moved s.tsu.xt S := rfl
@[simp] theorem moveReadings_stg (S : Nat) : (moveReadings S s).stg = s.stg := rfl
@[simp] theorem moveReadings_auc (S : Nat) : (moveReadings S s).auc = s.auc := rfl
@[simp] theorem moveReadings_jwr (S : Nat) : (moveReadings S s).jwr = s.jwr := rfl
@[simp] theorem moveReadings_arc (S : Nat) : (moveReadings S s).arc = s.arc := rfl
@[simp] theorem moveReadings_rqp (S : Nat) : (moveReadings S s).rqp = s.rqp := rfl
@[simp] theorem moveReadings_pending (S : Nat) : (moveReadings S s).pending = s.pending := rfl

@[simp] theorem applyMove_osc (m : Move) : (applyMove m s).osc = s.osc := by unfold applyMove; (repeat' split) <;> simp
/-- A move leaves of the divergence monitor all but the base instant of a spell begun at this tick. -/
theorem applyMove_div (m : Move) : ∃ b, (applyMove m s).div = { s.div with base := b } := by
  unfold applyMove; split
  · exact ⟨s.div.base, rfl⟩
  · simp only [pruneSpans_div]; exact ⟨_, rfl⟩
@[simp] theorem applyMove_stg (m : Move) : (applyMove m s).stg = s.stg := by unfold applyMove; (repeat' split) <;> simp
@[simp] theorem applyMove_jwr (m : Move) : (applyMove m s).jwr = s.jwr := by unfold applyMove; (repeat' split) <;> simp
@[simp] theorem applyMove_arc (m : Move) : (applyMove m s).arc = s.arc := by unfold applyMove; (repeat' split) <;> simp
@[simp] theorem applyMove_rqp (m : Move) : (applyMove m s).rqp = s.rqp := by unfold applyMove; (repeat' split) <;> simp
@[simp] theorem applyMove_pending (m : Move) : (applyMove m s).pending = s.pending := by unfold applyMove; (repeat' split) <;> simp

/-! A step leaves of a port all but the reading of a frame in progress, and of the SEQ and the EVU all but the stamps of entries of
this tick. -/

@[simp] theorem moveReadings_port_state (S : Nat) (n : Fin 8) : (port (moveReadings S s) n).state = (port s n).state := by simp [port, moveReadings, Port.moved]
@[simp] theorem moveReadings_port_present (S : Nat) (n : Fin 8) : (port (moveReadings S s) n).present = (port s n).present := by simp [port, moveReadings, Port.moved]
@[simp] theorem moveReadings_port_armEnd (S : Nat) (n : Fin 8) : (port (moveReadings S s) n).armEnd = (port s n).armEnd := by simp [port, moveReadings, Port.moved]
@[simp] theorem moveReadings_port_config (S : Nat) (n : Fin 8) : (port (moveReadings S s) n).config = (port s n).config := by simp [port, moveReadings, Port.moved]
@[simp] theorem moveReadings_port_fifo (S : Nat) (n : Fin 8) : (port (moveReadings S s) n).fifo = (port s n).fifo := by simp [port, moveReadings, Port.moved]
@[simp] theorem moveReadings_port_counters (S : Nat) (n : Fin 8) : (port (moveReadings S s) n).counters = (port s n).counters := by simp [port, moveReadings, Port.moved]
@[simp] theorem moveReadings_seq_counter (S : Nat) : (moveReadings S s).seq.counter = s.seq.counter := by simp [moveReadings]
@[simp] theorem moveReadings_seq_settle (S : Nat) : (moveReadings S s).seq.settle = s.seq.settle := by simp [moveReadings]
@[simp] theorem moveReadings_seq_comps (S : Nat) : (moveReadings S s).seq.comps = s.seq.comps := by simp [moveReadings]
@[simp] theorem moveReadings_seq_gates (S : Nat) : (moveReadings S s).seq.gates = s.seq.gates := by simp [moveReadings]
@[simp] theorem moveReadings_seq_released (S : Nat) : (moveReadings S s).seq.released = s.seq.released := by simp [moveReadings]
@[simp] theorem moveReadings_evu_chain (S : Nat) : (moveReadings S s).evu.chain = s.evu.chain := by simp [moveReadings, Evu.moved]
@[simp] theorem moveReadings_evu_acc (S : Nat) : (moveReadings S s).evu.acc = s.evu.acc := by simp [moveReadings, Evu.moved]
@[simp] theorem moveReadings_evu_pendingReset (S : Nat) : (moveReadings S s).evu.pendingReset = s.evu.pendingReset := by simp [moveReadings, Evu.moved]
@[simp] theorem moveReadings_queue_length (S : Nat) : (moveReadings S s).evu.queue.length = s.evu.queue.length := by simp [moveReadings, Evu.moved]

@[simp] theorem applyMove_port_state (m : Move) (n : Fin 8) : (port (applyMove m s) n).state = (port s n).state := by unfold applyMove; split <;> simp [port, moveReadings, Port.moved]
@[simp] theorem applyMove_port_present (m : Move) (n : Fin 8) : (port (applyMove m s) n).present = (port s n).present := by unfold applyMove; split <;> simp [port, moveReadings, Port.moved]
@[simp] theorem applyMove_port_armEnd (m : Move) (n : Fin 8) : (port (applyMove m s) n).armEnd = (port s n).armEnd := by unfold applyMove; split <;> simp [port, moveReadings, Port.moved]
@[simp] theorem applyMove_port_config (m : Move) (n : Fin 8) : (port (applyMove m s) n).config = (port s n).config := by unfold applyMove; split <;> simp [port, moveReadings, Port.moved]
@[simp] theorem applyMove_port_fifo (m : Move) (n : Fin 8) : (port (applyMove m s) n).fifo = (port s n).fifo := by unfold applyMove; split <;> simp [port, moveReadings, Port.moved]
@[simp] theorem applyMove_port_counters (m : Move) (n : Fin 8) : (port (applyMove m s) n).counters = (port s n).counters := by unfold applyMove; split <;> simp [port, moveReadings, Port.moved]
@[simp] theorem applyMove_seq_counter (m : Move) : (applyMove m s).seq.counter = s.seq.counter := by unfold applyMove; (repeat' split) <;> simp
@[simp] theorem applyMove_seq_settle (m : Move) : (applyMove m s).seq.settle = s.seq.settle := by unfold applyMove; (repeat' split) <;> simp
@[simp] theorem applyMove_seq_comps (m : Move) : (applyMove m s).seq.comps = s.seq.comps := by unfold applyMove; (repeat' split) <;> simp
@[simp] theorem applyMove_seq_gates (m : Move) : (applyMove m s).seq.gates = s.seq.gates := by unfold applyMove; (repeat' split) <;> simp
@[simp] theorem applyMove_seq_released (m : Move) : (applyMove m s).seq.released = s.seq.released := by unfold applyMove; (repeat' split) <;> simp
@[simp] theorem applyMove_evu_chain (m : Move) : (applyMove m s).evu.chain = s.evu.chain := by unfold applyMove; (repeat' split) <;> simp
@[simp] theorem applyMove_evu_acc (m : Move) : (applyMove m s).evu.acc = s.evu.acc := by unfold applyMove; (repeat' split) <;> simp
@[simp] theorem applyMove_evu_pendingReset (m : Move) : (applyMove m s).evu.pendingReset = s.evu.pendingReset := by unfold applyMove; (repeat' split) <;> simp
@[simp] theorem applyMove_queue_length (m : Move) : (applyMove m s).evu.queue.length = s.evu.queue.length := by unfold applyMove; (repeat' split) <;> simp

@[simp] theorem lossAtTsu_osc : (lossAtTsu s).osc = s.osc := by unfold lossAtTsu; (repeat' split) <;> simp
@[simp] theorem lossAtTsu_ref : (lossAtTsu s).ref = s.ref := by unfold lossAtTsu; (repeat' split) <;> simp
@[simp] theorem lossAtTsu_taps : (lossAtTsu s).taps = s.taps := by unfold lossAtTsu; (repeat' split) <;> simp
@[simp] theorem lossAtTsu_seq : (lossAtTsu s).seq = s.seq := by unfold lossAtTsu; (repeat' split) <;> simp
@[simp] theorem lossAtTsu_auc : (lossAtTsu s).auc = s.auc := by unfold lossAtTsu; (repeat' split) <;> simp
@[simp] theorem lossAtTsu_jwr : (lossAtTsu s).jwr = s.jwr := by unfold lossAtTsu; (repeat' split) <;> simp
@[simp] theorem lossAtTsu_rqp : (lossAtTsu s).rqp = s.rqp := by unfold lossAtTsu; (repeat' split) <;> simp
@[simp] theorem lossAtTsu_pending : (lossAtTsu s).pending = s.pending := by unfold lossAtTsu; (repeat' split) <;> simp

@[simp] theorem acceptSetTime_osc (v u0 : Nat) (o : List Pick) : (acceptSetTime v u0 o s).osc = s.osc := by simp [acceptSetTime]
@[simp] theorem acceptSetTime_jwr (v u0 : Nat) (o : List Pick) : (acceptSetTime v u0 o s).jwr = s.jwr := by simp [acceptSetTime]
@[simp] theorem acceptSetTime_pending (v u0 : Nat) (o : List Pick) : (acceptSetTime v u0 o s).pending = s.pending := by simp [acceptSetTime]

@[simp] theorem acceptSetTime_port_state (v u0 : Nat) (o : List Pick) (n : Fin 8) : (port (acceptSetTime v u0 o s) n).state = (port s n).state := by simp [acceptSetTime]
@[simp] theorem acceptSetTime_port_present (v u0 : Nat) (o : List Pick) (n : Fin 8) : (port (acceptSetTime v u0 o s) n).present = (port s n).present := by simp [acceptSetTime]
@[simp] theorem acceptSetTime_port_armEnd (v u0 : Nat) (o : List Pick) (n : Fin 8) : (port (acceptSetTime v u0 o s) n).armEnd = (port s n).armEnd := by simp [acceptSetTime]
@[simp] theorem acceptSetTime_port_config (v u0 : Nat) (o : List Pick) (n : Fin 8) : (port (acceptSetTime v u0 o s) n).config = (port s n).config := by simp [acceptSetTime]
@[simp] theorem acceptSetTime_port_fifo (v u0 : Nat) (o : List Pick) (n : Fin 8) : (port (acceptSetTime v u0 o s) n).fifo = (port s n).fifo := by simp [acceptSetTime]
@[simp] theorem acceptSetTime_port_counters (v u0 : Nat) (o : List Pick) (n : Fin 8) : (port (acceptSetTime v u0 o s) n).counters = (port s n).counters := by simp [acceptSetTime]
@[simp] theorem acceptSetTime_seq_counter (v u0 : Nat) (o : List Pick) : (acceptSetTime v u0 o s).seq.counter = s.seq.counter := by simp [acceptSetTime]
@[simp] theorem acceptSetTime_seq_settle (v u0 : Nat) (o : List Pick) : (acceptSetTime v u0 o s).seq.settle = s.seq.settle := by simp [acceptSetTime]
@[simp] theorem acceptSetTime_seq_comps (v u0 : Nat) (o : List Pick) : (acceptSetTime v u0 o s).seq.comps = s.seq.comps := by simp [acceptSetTime]
@[simp] theorem acceptSetTime_seq_gates (v u0 : Nat) (o : List Pick) : (acceptSetTime v u0 o s).seq.gates = s.seq.gates := by simp [acceptSetTime]
@[simp] theorem acceptSetTime_seq_released (v u0 : Nat) (o : List Pick) : (acceptSetTime v u0 o s).seq.released = s.seq.released := by simp [acceptSetTime]

@[simp] theorem rejectPulse_osc (r : RefReason) (sub : SubReason) : (rejectPulse r sub s).osc = s.osc := by unfold rejectPulse; (repeat' split) <;> simp
@[simp] theorem rejectPulse_tsu (r : RefReason) (sub : SubReason) : (rejectPulse r sub s).tsu = s.tsu := by unfold rejectPulse; (repeat' split) <;> simp
@[simp] theorem rejectPulse_div (r : RefReason) (sub : SubReason) : (rejectPulse r sub s).div = s.div := by unfold rejectPulse; (repeat' split) <;> simp
@[simp] theorem rejectPulse_taps (r : RefReason) (sub : SubReason) : (rejectPulse r sub s).taps = s.taps := by unfold rejectPulse; (repeat' split) <;> simp
@[simp] theorem rejectPulse_seq (r : RefReason) (sub : SubReason) : (rejectPulse r sub s).seq = s.seq := by unfold rejectPulse; (repeat' split) <;> simp
@[simp] theorem rejectPulse_auc (r : RefReason) (sub : SubReason) : (rejectPulse r sub s).auc = s.auc := by unfold rejectPulse; (repeat' split) <;> simp
@[simp] theorem rejectPulse_jwr (r : RefReason) (sub : SubReason) : (rejectPulse r sub s).jwr = s.jwr := by unfold rejectPulse; (repeat' split) <;> simp
@[simp] theorem rejectPulse_rqp (r : RefReason) (sub : SubReason) : (rejectPulse r sub s).rqp = s.rqp := by unfold rejectPulse; (repeat' split) <;> simp
@[simp] theorem rejectPulse_pending (r : RefReason) (sub : SubReason) : (rejectPulse r sub s).pending = s.pending := by unfold rejectPulse; (repeat' split) <;> simp

@[simp] theorem abortRead_osc (sub : SubReason) : (abortRead sub s).osc = s.osc := by simp [abortRead]
@[simp] theorem abortRead_tsu (sub : SubReason) : (abortRead sub s).tsu = s.tsu := by simp [abortRead]
@[simp] theorem abortRead_div (sub : SubReason) : (abortRead sub s).div = s.div := by simp [abortRead]
@[simp] theorem abortRead_taps (sub : SubReason) : (abortRead sub s).taps = s.taps := by simp [abortRead]
@[simp] theorem abortRead_seq (sub : SubReason) : (abortRead sub s).seq = s.seq := by simp [abortRead]
@[simp] theorem abortRead_auc (sub : SubReason) : (abortRead sub s).auc = s.auc := by simp [abortRead]
@[simp] theorem abortRead_jwr (sub : SubReason) : (abortRead sub s).jwr = s.jwr := by simp [abortRead]
@[simp] theorem abortRead_rqp (sub : SubReason) : (abortRead sub s).rqp = s.rqp := by simp [abortRead]
@[simp] theorem abortRead_pending (sub : SubReason) : (abortRead sub s).pending = s.pending := by simp [abortRead]

@[simp] theorem acceptPulse_osc (q : Pulse) (w : Window) (o : List Pick) : (acceptPulse q w o s).osc = s.osc := by unfold acceptPulse; dsimp only; split <;> simp
@[simp] theorem acceptPulse_jwr (q : Pulse) (w : Window) (o : List Pick) : (acceptPulse q w o s).jwr = s.jwr := by unfold acceptPulse; dsimp only; split <;> simp
@[simp] theorem acceptPulse_pending (q : Pulse) (w : Window) (o : List Pick) : (acceptPulse q w o s).pending = s.pending := by unfold acceptPulse; dsimp only; split <;> simp

@[simp] theorem decidePulse_osc (q : Pulse) (w : Window) (o : List Pick) : (decidePulse q w o s).osc = s.osc := by unfold decidePulse; (repeat' split) <;> simp
@[simp] theorem decidePulse_jwr (q : Pulse) (w : Window) (o : List Pick) : (decidePulse q w o s).jwr = s.jwr := by unfold decidePulse; (repeat' split) <;> simp
@[simp] theorem decidePulse_pending (q : Pulse) (w : Window) (o : List Pick) : (decidePulse q w o s).pending = s.pending := by unfold decidePulse; (repeat' split) <;> simp

@[simp] theorem acceptPulse_port_state (q : Pulse) (w : Window) (o : List Pick) (n : Fin 8) : (port (acceptPulse q w o s) n).state = (port s n).state := by
  unfold acceptPulse; dsimp only; split
  · simp
  · simp; rfl
@[simp] theorem acceptPulse_port_present (q : Pulse) (w : Window) (o : List Pick) (n : Fin 8) : (port (acceptPulse q w o s) n).present = (port s n).present := by
  unfold acceptPulse; dsimp only; split
  · simp
  · simp; rfl
@[simp] theorem acceptPulse_port_armEnd (q : Pulse) (w : Window) (o : List Pick) (n : Fin 8) : (port (acceptPulse q w o s) n).armEnd = (port s n).armEnd := by
  unfold acceptPulse; dsimp only; split
  · simp
  · simp; rfl
@[simp] theorem acceptPulse_port_config (q : Pulse) (w : Window) (o : List Pick) (n : Fin 8) : (port (acceptPulse q w o s) n).config = (port s n).config := by
  unfold acceptPulse; dsimp only; split
  · simp
  · simp; rfl
@[simp] theorem acceptPulse_port_fifo (q : Pulse) (w : Window) (o : List Pick) (n : Fin 8) : (port (acceptPulse q w o s) n).fifo = (port s n).fifo := by
  unfold acceptPulse; dsimp only; split
  · simp
  · simp; rfl
@[simp] theorem acceptPulse_port_counters (q : Pulse) (w : Window) (o : List Pick) (n : Fin 8) : (port (acceptPulse q w o s) n).counters = (port s n).counters := by
  unfold acceptPulse; dsimp only; split
  · simp
  · simp; rfl
@[simp] theorem acceptPulse_seq_counter (q : Pulse) (w : Window) (o : List Pick) : (acceptPulse q w o s).seq.counter = s.seq.counter := by unfold acceptPulse; dsimp only; split <;> simp
@[simp] theorem acceptPulse_seq_settle (q : Pulse) (w : Window) (o : List Pick) : (acceptPulse q w o s).seq.settle = s.seq.settle := by unfold acceptPulse; dsimp only; split <;> simp
@[simp] theorem acceptPulse_seq_comps (q : Pulse) (w : Window) (o : List Pick) : (acceptPulse q w o s).seq.comps = s.seq.comps := by unfold acceptPulse; dsimp only; split <;> simp
@[simp] theorem acceptPulse_seq_gates (q : Pulse) (w : Window) (o : List Pick) : (acceptPulse q w o s).seq.gates = s.seq.gates := by unfold acceptPulse; dsimp only; split <;> simp
@[simp] theorem acceptPulse_seq_released (q : Pulse) (w : Window) (o : List Pick) : (acceptPulse q w o s).seq.released = s.seq.released := by unfold acceptPulse; dsimp only; split <;> simp

@[simp] theorem decidePulse_port_state (q : Pulse) (w : Window) (o : List Pick) (n : Fin 8) : (port (decidePulse q w o s) n).state = (port s n).state := by
  unfold decidePulse; split
  · exact acceptPulse_port_state s q w o n
  · simp [port]
@[simp] theorem decidePulse_port_present (q : Pulse) (w : Window) (o : List Pick) (n : Fin 8) : (port (decidePulse q w o s) n).present = (port s n).present := by
  unfold decidePulse; split
  · exact acceptPulse_port_present s q w o n
  · simp [port]
@[simp] theorem decidePulse_port_armEnd (q : Pulse) (w : Window) (o : List Pick) (n : Fin 8) : (port (decidePulse q w o s) n).armEnd = (port s n).armEnd := by
  unfold decidePulse; split
  · exact acceptPulse_port_armEnd s q w o n
  · simp [port]
@[simp] theorem decidePulse_port_config (q : Pulse) (w : Window) (o : List Pick) (n : Fin 8) : (port (decidePulse q w o s) n).config = (port s n).config := by
  unfold decidePulse; split
  · exact acceptPulse_port_config s q w o n
  · simp [port]
@[simp] theorem decidePulse_port_fifo (q : Pulse) (w : Window) (o : List Pick) (n : Fin 8) : (port (decidePulse q w o s) n).fifo = (port s n).fifo := by
  unfold decidePulse; split
  · exact acceptPulse_port_fifo s q w o n
  · simp [port]
@[simp] theorem decidePulse_port_counters (q : Pulse) (w : Window) (o : List Pick) (n : Fin 8) : (port (decidePulse q w o s) n).counters = (port s n).counters := by
  unfold decidePulse; split
  · exact acceptPulse_port_counters s q w o n
  · simp [port]
@[simp] theorem decidePulse_seq_counter (q : Pulse) (w : Window) (o : List Pick) : (decidePulse q w o s).seq.counter = s.seq.counter := by unfold decidePulse; (repeat' split) <;> simp
@[simp] theorem decidePulse_seq_settle (q : Pulse) (w : Window) (o : List Pick) : (decidePulse q w o s).seq.settle = s.seq.settle := by unfold decidePulse; (repeat' split) <;> simp
@[simp] theorem decidePulse_seq_comps (q : Pulse) (w : Window) (o : List Pick) : (decidePulse q w o s).seq.comps = s.seq.comps := by unfold decidePulse; (repeat' split) <;> simp
@[simp] theorem decidePulse_seq_gates (q : Pulse) (w : Window) (o : List Pick) : (decidePulse q w o s).seq.gates = s.seq.gates := by unfold decidePulse; (repeat' split) <;> simp
@[simp] theorem decidePulse_seq_released (q : Pulse) (w : Window) (o : List Pick) : (decidePulse q w o s).seq.released = s.seq.released := by unfold decidePulse; (repeat' split) <;> simp

@[simp] theorem loseReference_osc : (loseReference s).osc = s.osc := by unfold loseReference; (repeat' split) <;> simp
@[simp] theorem loseReference_tsu : (loseReference s).tsu = s.tsu := by unfold loseReference; (repeat' split) <;> simp
@[simp] theorem loseReference_div : (loseReference s).div = s.div := by unfold loseReference; (repeat' split) <;> simp
@[simp] theorem loseReference_taps : (loseReference s).taps = s.taps := by unfold loseReference; (repeat' split) <;> simp
@[simp] theorem loseReference_seq : (loseReference s).seq = s.seq := by unfold loseReference; (repeat' split) <;> simp
@[simp] theorem loseReference_auc : (loseReference s).auc = s.auc := by unfold loseReference; (repeat' split) <;> simp
@[simp] theorem loseReference_jwr : (loseReference s).jwr = s.jwr := by unfold loseReference; (repeat' split) <;> simp
@[simp] theorem loseReference_rqp : (loseReference s).rqp = s.rqp := by unfold loseReference; (repeat' split) <;> simp
@[simp] theorem loseReference_pending : (loseReference s).pending = s.pending := by unfold loseReference; (repeat' split) <;> simp

@[simp] theorem changeOsc_tsu (o : OscState) : (changeOsc o s).tsu = s.tsu := by simp [changeOsc]
@[simp] theorem changeOsc_ref (o : OscState) : (changeOsc o s).ref = s.ref := by simp [changeOsc]
@[simp] theorem changeOsc_taps (o : OscState) : (changeOsc o s).taps = s.taps := by simp [changeOsc]
@[simp] theorem changeOsc_seq (o : OscState) : (changeOsc o s).seq = s.seq := by simp [changeOsc]
@[simp] theorem changeOsc_auc (o : OscState) : (changeOsc o s).auc = s.auc := by simp [changeOsc]
@[simp] theorem changeOsc_jwr (o : OscState) : (changeOsc o s).jwr = s.jwr := by simp [changeOsc]
@[simp] theorem changeOsc_rqp (o : OscState) : (changeOsc o s).rqp = s.rqp := by simp [changeOsc]
@[simp] theorem changeOsc_pending (o : OscState) : (changeOsc o s).pending = s.pending := by simp [changeOsc]

@[simp] theorem movePort_osc (n : Fin 8) (p : Port) : (movePort n p s).osc = s.osc := by simp [movePort]
@[simp] theorem movePort_tsu (n : Fin 8) (p : Port) : (movePort n p s).tsu = s.tsu := by simp [movePort]
@[simp] theorem movePort_ref (n : Fin 8) (p : Port) : (movePort n p s).ref = s.ref := by simp [movePort]
@[simp] theorem movePort_div (n : Fin 8) (p : Port) : (movePort n p s).div = s.div := by simp [movePort]
@[simp] theorem movePort_seq (n : Fin 8) (p : Port) : (movePort n p s).seq = s.seq := by simp [movePort]
@[simp] theorem movePort_auc (n : Fin 8) (p : Port) : (movePort n p s).auc = s.auc := by simp [movePort]
@[simp] theorem movePort_jwr (n : Fin 8) (p : Port) : (movePort n p s).jwr = s.jwr := by simp [movePort]
@[simp] theorem movePort_arc (n : Fin 8) (p : Port) : (movePort n p s).arc = s.arc := by simp [movePort]
@[simp] theorem movePort_rqp (n : Fin 8) (p : Port) : (movePort n p s).rqp = s.rqp := by simp [movePort]
@[simp] theorem movePort_pending (n : Fin 8) (p : Port) : (movePort n p s).pending = s.pending := by simp [movePort]

@[simp] theorem enterFifo_osc (n : Fin 8) (h : Header) (c : Nat) (a : Arrival) (p : Port) : (enterFifo n h c a p s).osc = s.osc := by unfold enterFifo; (repeat' split) <;> simp
@[simp] theorem enterFifo_tsu (n : Fin 8) (h : Header) (c : Nat) (a : Arrival) (p : Port) : (enterFifo n h c a p s).tsu = s.tsu := by unfold enterFifo; (repeat' split) <;> simp
@[simp] theorem enterFifo_ref (n : Fin 8) (h : Header) (c : Nat) (a : Arrival) (p : Port) : (enterFifo n h c a p s).ref = s.ref := by unfold enterFifo; (repeat' split) <;> simp
@[simp] theorem enterFifo_div (n : Fin 8) (h : Header) (c : Nat) (a : Arrival) (p : Port) : (enterFifo n h c a p s).div = s.div := by unfold enterFifo; (repeat' split) <;> simp
@[simp] theorem enterFifo_seq (n : Fin 8) (h : Header) (c : Nat) (a : Arrival) (p : Port) : (enterFifo n h c a p s).seq = s.seq := by unfold enterFifo; (repeat' split) <;> simp
@[simp] theorem enterFifo_stg (n : Fin 8) (h : Header) (c : Nat) (a : Arrival) (p : Port) : (enterFifo n h c a p s).stg = s.stg := by unfold enterFifo; (repeat' split) <;> simp
@[simp] theorem enterFifo_auc (n : Fin 8) (h : Header) (c : Nat) (a : Arrival) (p : Port) : (enterFifo n h c a p s).auc = s.auc := by unfold enterFifo; (repeat' split) <;> simp
@[simp] theorem enterFifo_jwr (n : Fin 8) (h : Header) (c : Nat) (a : Arrival) (p : Port) : (enterFifo n h c a p s).jwr = s.jwr := by unfold enterFifo; (repeat' split) <;> simp
@[simp] theorem enterFifo_arc (n : Fin 8) (h : Header) (c : Nat) (a : Arrival) (p : Port) : (enterFifo n h c a p s).arc = s.arc := by unfold enterFifo; (repeat' split) <;> simp
@[simp] theorem enterFifo_rqp (n : Fin 8) (h : Header) (c : Nat) (a : Arrival) (p : Port) : (enterFifo n h c a p s).rqp = s.rqp := by unfold enterFifo; (repeat' split) <;> simp
@[simp] theorem enterFifo_pending (n : Fin 8) (h : Header) (c : Nat) (a : Arrival) (p : Port) : (enterFifo n h c a p s).pending = s.pending := by unfold enterFifo; (repeat' split) <;> simp

@[simp] theorem finishFrame_osc (n : Fin 8) (r : Reading) (fr : List Byte) (p : Port) : (finishFrame n r fr p s).osc = s.osc := by unfold finishFrame; dsimp only; (repeat' split) <;> simp
@[simp] theorem finishFrame_tsu (n : Fin 8) (r : Reading) (fr : List Byte) (p : Port) : (finishFrame n r fr p s).tsu = s.tsu := by unfold finishFrame; dsimp only; (repeat' split) <;> simp
@[simp] theorem finishFrame_ref (n : Fin 8) (r : Reading) (fr : List Byte) (p : Port) : (finishFrame n r fr p s).ref = s.ref := by unfold finishFrame; dsimp only; (repeat' split) <;> simp
@[simp] theorem finishFrame_div (n : Fin 8) (r : Reading) (fr : List Byte) (p : Port) : (finishFrame n r fr p s).div = s.div := by unfold finishFrame; dsimp only; (repeat' split) <;> simp
@[simp] theorem finishFrame_seq (n : Fin 8) (r : Reading) (fr : List Byte) (p : Port) : (finishFrame n r fr p s).seq = s.seq := by unfold finishFrame; dsimp only; (repeat' split) <;> simp
@[simp] theorem finishFrame_stg (n : Fin 8) (r : Reading) (fr : List Byte) (p : Port) : (finishFrame n r fr p s).stg = s.stg := by unfold finishFrame; dsimp only; (repeat' split) <;> simp
@[simp] theorem finishFrame_auc (n : Fin 8) (r : Reading) (fr : List Byte) (p : Port) : (finishFrame n r fr p s).auc = s.auc := by unfold finishFrame; dsimp only; (repeat' split) <;> simp
@[simp] theorem finishFrame_jwr (n : Fin 8) (r : Reading) (fr : List Byte) (p : Port) : (finishFrame n r fr p s).jwr = s.jwr := by unfold finishFrame; dsimp only; (repeat' split) <;> simp
@[simp] theorem finishFrame_arc (n : Fin 8) (r : Reading) (fr : List Byte) (p : Port) : (finishFrame n r fr p s).arc = s.arc := by unfold finishFrame; dsimp only; (repeat' split) <;> simp
@[simp] theorem finishFrame_rqp (n : Fin 8) (r : Reading) (fr : List Byte) (p : Port) : (finishFrame n r fr p s).rqp = s.rqp := by unfold finishFrame; dsimp only; (repeat' split) <;> simp
@[simp] theorem finishFrame_pending (n : Fin 8) (r : Reading) (fr : List Byte) (p : Port) : (finishFrame n r fr p s).pending = s.pending := by unfold finishFrame; dsimp only; (repeat' split) <;> simp

@[simp] theorem configPortRecord_osc (n : Fin 8) (k : Nat) (p : Port) : (configPortRecord n k p s).osc = s.osc := by simp [configPortRecord]
@[simp] theorem configPortRecord_tsu (n : Fin 8) (k : Nat) (p : Port) : (configPortRecord n k p s).tsu = s.tsu := by simp [configPortRecord]
@[simp] theorem configPortRecord_ref (n : Fin 8) (k : Nat) (p : Port) : (configPortRecord n k p s).ref = s.ref := by simp [configPortRecord]
@[simp] theorem configPortRecord_div (n : Fin 8) (k : Nat) (p : Port) : (configPortRecord n k p s).div = s.div := by simp [configPortRecord]
@[simp] theorem configPortRecord_taps (n : Fin 8) (k : Nat) (p : Port) : (configPortRecord n k p s).taps = s.taps := by simp [configPortRecord]
@[simp] theorem configPortRecord_seq (n : Fin 8) (k : Nat) (p : Port) : (configPortRecord n k p s).seq = s.seq := by simp [configPortRecord]
@[simp] theorem configPortRecord_auc (n : Fin 8) (k : Nat) (p : Port) : (configPortRecord n k p s).auc = s.auc := by simp [configPortRecord]
@[simp] theorem configPortRecord_jwr (n : Fin 8) (k : Nat) (p : Port) : (configPortRecord n k p s).jwr = s.jwr := by simp [configPortRecord]
@[simp] theorem configPortRecord_arc (n : Fin 8) (k : Nat) (p : Port) : (configPortRecord n k p s).arc = s.arc := by simp [configPortRecord]
@[simp] theorem configPortRecord_rqp (n : Fin 8) (k : Nat) (p : Port) : (configPortRecord n k p s).rqp = s.rqp := by simp [configPortRecord]
@[simp] theorem configPortRecord_pending (n : Fin 8) (k : Nat) (p : Port) : (configPortRecord n k p s).pending = s.pending := by simp [configPortRecord]

@[simp] theorem stageLoss_osc (h : Header) (lost last : Nat) : (stageLoss h lost last s).osc = s.osc := by unfold stageLoss; (repeat' split) <;> simp
@[simp] theorem stageLoss_tsu (h : Header) (lost last : Nat) : (stageLoss h lost last s).tsu = s.tsu := by unfold stageLoss; (repeat' split) <;> simp
@[simp] theorem stageLoss_ref (h : Header) (lost last : Nat) : (stageLoss h lost last s).ref = s.ref := by unfold stageLoss; (repeat' split) <;> simp
@[simp] theorem stageLoss_div (h : Header) (lost last : Nat) : (stageLoss h lost last s).div = s.div := by unfold stageLoss; (repeat' split) <;> simp
@[simp] theorem stageLoss_taps (h : Header) (lost last : Nat) : (stageLoss h lost last s).taps = s.taps := by unfold stageLoss; (repeat' split) <;> simp
@[simp] theorem stageLoss_auc (h : Header) (lost last : Nat) : (stageLoss h lost last s).auc = s.auc := by unfold stageLoss; (repeat' split) <;> simp
@[simp] theorem stageLoss_evu (h : Header) (lost last : Nat) : (stageLoss h lost last s).evu = s.evu := by unfold stageLoss; (repeat' split) <;> simp
@[simp] theorem stageLoss_jwr (h : Header) (lost last : Nat) : (stageLoss h lost last s).jwr = s.jwr := by unfold stageLoss; (repeat' split) <;> simp
@[simp] theorem stageLoss_arc (h : Header) (lost last : Nat) : (stageLoss h lost last s).arc = s.arc := by unfold stageLoss; (repeat' split) <;> simp
@[simp] theorem stageLoss_rqp (h : Header) (lost last : Nat) : (stageLoss h lost last s).rqp = s.rqp := by unfold stageLoss; (repeat' split) <;> simp
@[simp] theorem stageLoss_pending (h : Header) (lost last : Nat) : (stageLoss h lost last s).pending = s.pending := by unfold stageLoss; (repeat' split) <;> simp

@[simp] theorem releaseArrival_osc (n : Fin 8) (h : Header) (a : Arrival) : (releaseArrival n h a s).osc = s.osc := by unfold releaseArrival; (repeat' split) <;> simp
@[simp] theorem releaseArrival_tsu (n : Fin 8) (h : Header) (a : Arrival) : (releaseArrival n h a s).tsu = s.tsu := by unfold releaseArrival; (repeat' split) <;> simp
@[simp] theorem releaseArrival_ref (n : Fin 8) (h : Header) (a : Arrival) : (releaseArrival n h a s).ref = s.ref := by unfold releaseArrival; (repeat' split) <;> simp
@[simp] theorem releaseArrival_div (n : Fin 8) (h : Header) (a : Arrival) : (releaseArrival n h a s).div = s.div := by unfold releaseArrival; (repeat' split) <;> simp
@[simp] theorem releaseArrival_taps (n : Fin 8) (h : Header) (a : Arrival) : (releaseArrival n h a s).taps = s.taps := by unfold releaseArrival; (repeat' split) <;> simp
@[simp] theorem releaseArrival_auc (n : Fin 8) (h : Header) (a : Arrival) : (releaseArrival n h a s).auc = s.auc := by unfold releaseArrival; (repeat' split) <;> simp
@[simp] theorem releaseArrival_jwr (n : Fin 8) (h : Header) (a : Arrival) : (releaseArrival n h a s).jwr = s.jwr := by unfold releaseArrival; (repeat' split) <;> simp
@[simp] theorem releaseArrival_arc (n : Fin 8) (h : Header) (a : Arrival) : (releaseArrival n h a s).arc = s.arc := by unfold releaseArrival; (repeat' split) <;> simp
@[simp] theorem releaseArrival_rqp (n : Fin 8) (h : Header) (a : Arrival) : (releaseArrival n h a s).rqp = s.rqp := by unfold releaseArrival; (repeat' split) <;> simp
@[simp] theorem releaseArrival_pending (n : Fin 8) (h : Header) (a : Arrival) : (releaseArrival n h a s).pending = s.pending := by unfold releaseArrival; (repeat' split) <;> simp

@[simp] theorem releaseGap_osc (n : Fin 8) (h : Header) (lost last : Nat) : (releaseGap n h lost last s).osc = s.osc := by unfold releaseGap; (repeat' split) <;> simp
@[simp] theorem releaseGap_tsu (n : Fin 8) (h : Header) (lost last : Nat) : (releaseGap n h lost last s).tsu = s.tsu := by unfold releaseGap; (repeat' split) <;> simp
@[simp] theorem releaseGap_ref (n : Fin 8) (h : Header) (lost last : Nat) : (releaseGap n h lost last s).ref = s.ref := by unfold releaseGap; (repeat' split) <;> simp
@[simp] theorem releaseGap_div (n : Fin 8) (h : Header) (lost last : Nat) : (releaseGap n h lost last s).div = s.div := by unfold releaseGap; (repeat' split) <;> simp
@[simp] theorem releaseGap_taps (n : Fin 8) (h : Header) (lost last : Nat) : (releaseGap n h lost last s).taps = s.taps := by unfold releaseGap; (repeat' split) <;> simp
@[simp] theorem releaseGap_auc (n : Fin 8) (h : Header) (lost last : Nat) : (releaseGap n h lost last s).auc = s.auc := by unfold releaseGap; (repeat' split) <;> simp
@[simp] theorem releaseGap_evu (n : Fin 8) (h : Header) (lost last : Nat) : (releaseGap n h lost last s).evu = s.evu := by unfold releaseGap; (repeat' split) <;> simp
@[simp] theorem releaseGap_jwr (n : Fin 8) (h : Header) (lost last : Nat) : (releaseGap n h lost last s).jwr = s.jwr := by unfold releaseGap; (repeat' split) <;> simp
@[simp] theorem releaseGap_arc (n : Fin 8) (h : Header) (lost last : Nat) : (releaseGap n h lost last s).arc = s.arc := by unfold releaseGap; (repeat' split) <;> simp
@[simp] theorem releaseGap_rqp (n : Fin 8) (h : Header) (lost last : Nat) : (releaseGap n h lost last s).rqp = s.rqp := by unfold releaseGap; (repeat' split) <;> simp
@[simp] theorem releaseGap_pending (n : Fin 8) (h : Header) (lost last : Nat) : (releaseGap n h lost last s).pending = s.pending := by unfold releaseGap; (repeat' split) <;> simp

@[simp] theorem releaseStamp_osc (e : StampEntry) : (releaseStamp e s).osc = s.osc := by unfold releaseStamp; dsimp only; (repeat' split) <;> simp
@[simp] theorem releaseStamp_tsu (e : StampEntry) : (releaseStamp e s).tsu = s.tsu := by unfold releaseStamp; dsimp only; (repeat' split) <;> simp
@[simp] theorem releaseStamp_ref (e : StampEntry) : (releaseStamp e s).ref = s.ref := by unfold releaseStamp; dsimp only; (repeat' split) <;> simp
@[simp] theorem releaseStamp_div (e : StampEntry) : (releaseStamp e s).div = s.div := by unfold releaseStamp; dsimp only; (repeat' split) <;> simp
@[simp] theorem releaseStamp_taps (e : StampEntry) : (releaseStamp e s).taps = s.taps := by unfold releaseStamp; dsimp only; (repeat' split) <;> simp
@[simp] theorem releaseStamp_auc (e : StampEntry) : (releaseStamp e s).auc = s.auc := by unfold releaseStamp; dsimp only; (repeat' split) <;> simp
@[simp] theorem releaseStamp_evu (e : StampEntry) : (releaseStamp e s).evu = s.evu := by unfold releaseStamp; dsimp only; (repeat' split) <;> simp
@[simp] theorem releaseStamp_jwr (e : StampEntry) : (releaseStamp e s).jwr = s.jwr := by unfold releaseStamp; dsimp only; (repeat' split) <;> simp
@[simp] theorem releaseStamp_arc (e : StampEntry) : (releaseStamp e s).arc = s.arc := by unfold releaseStamp; dsimp only; (repeat' split) <;> simp
@[simp] theorem releaseStamp_pending (e : StampEntry) : (releaseStamp e s).pending = s.pending := by unfold releaseStamp; dsimp only; (repeat' split) <;> simp

@[simp] theorem releaseNotice_osc (q : QueuedNotice) : (releaseNotice q s).osc = s.osc := by unfold releaseNotice; (repeat' split) <;> simp
@[simp] theorem releaseNotice_tsu (q : QueuedNotice) : (releaseNotice q s).tsu = s.tsu := by unfold releaseNotice; (repeat' split) <;> simp
@[simp] theorem releaseNotice_ref (q : QueuedNotice) : (releaseNotice q s).ref = s.ref := by unfold releaseNotice; (repeat' split) <;> simp
@[simp] theorem releaseNotice_div (q : QueuedNotice) : (releaseNotice q s).div = s.div := by unfold releaseNotice; (repeat' split) <;> simp
@[simp] theorem releaseNotice_taps (q : QueuedNotice) : (releaseNotice q s).taps = s.taps := by unfold releaseNotice; (repeat' split) <;> simp
@[simp] theorem releaseNotice_auc (q : QueuedNotice) : (releaseNotice q s).auc = s.auc := by unfold releaseNotice; (repeat' split) <;> simp
@[simp] theorem releaseNotice_jwr (q : QueuedNotice) : (releaseNotice q s).jwr = s.jwr := by unfold releaseNotice; (repeat' split) <;> simp
@[simp] theorem releaseNotice_arc (q : QueuedNotice) : (releaseNotice q s).arc = s.arc := by unfold releaseNotice; (repeat' split) <;> simp
@[simp] theorem releaseNotice_rqp (q : QueuedNotice) : (releaseNotice q s).rqp = s.rqp := by unfold releaseNotice; (repeat' split) <;> simp
@[simp] theorem releaseNotice_pending (q : QueuedNotice) : (releaseNotice q s).pending = s.pending := by unfold releaseNotice; (repeat' split) <;> simp

@[simp] theorem releaseEvidence_osc (q : QueuedEvidence) : (releaseEvidence q s).osc = s.osc := by unfold releaseEvidence; (repeat' split) <;> simp
@[simp] theorem releaseEvidence_tsu (q : QueuedEvidence) : (releaseEvidence q s).tsu = s.tsu := by unfold releaseEvidence; (repeat' split) <;> simp
@[simp] theorem releaseEvidence_ref (q : QueuedEvidence) : (releaseEvidence q s).ref = s.ref := by unfold releaseEvidence; (repeat' split) <;> simp
@[simp] theorem releaseEvidence_div (q : QueuedEvidence) : (releaseEvidence q s).div = s.div := by unfold releaseEvidence; (repeat' split) <;> simp
@[simp] theorem releaseEvidence_taps (q : QueuedEvidence) : (releaseEvidence q s).taps = s.taps := by unfold releaseEvidence; (repeat' split) <;> simp
@[simp] theorem releaseEvidence_auc (q : QueuedEvidence) : (releaseEvidence q s).auc = s.auc := by unfold releaseEvidence; (repeat' split) <;> simp
@[simp] theorem releaseEvidence_jwr (q : QueuedEvidence) : (releaseEvidence q s).jwr = s.jwr := by unfold releaseEvidence; (repeat' split) <;> simp
@[simp] theorem releaseEvidence_arc (q : QueuedEvidence) : (releaseEvidence q s).arc = s.arc := by unfold releaseEvidence; (repeat' split) <;> simp
@[simp] theorem releaseEvidence_pending (q : QueuedEvidence) : (releaseEvidence q s).pending = s.pending := by unfold releaseEvidence; (repeat' split) <;> simp

@[simp] theorem takeHead_osc (src : Source) : (takeHead src s).osc = s.osc := by
  unfold takeHead; repeat' split
  all_goals simp
@[simp] theorem takeHead_tsu (src : Source) : (takeHead src s).tsu = s.tsu := by
  unfold takeHead; repeat' split
  all_goals simp
@[simp] theorem takeHead_ref (src : Source) : (takeHead src s).ref = s.ref := by
  unfold takeHead; repeat' split
  all_goals simp
@[simp] theorem takeHead_div (src : Source) : (takeHead src s).div = s.div := by
  unfold takeHead; repeat' split
  all_goals simp
@[simp] theorem takeHead_jwr (src : Source) : (takeHead src s).jwr = s.jwr := by
  unfold takeHead; repeat' split
  all_goals simp
@[simp] theorem takeHead_arc (src : Source) : (takeHead src s).arc = s.arc := by
  unfold takeHead; repeat' split
  all_goals simp
@[simp] theorem takeHead_pending (src : Source) : (takeHead src s).pending = s.pending := by
  unfold takeHead; repeat' split
  all_goals simp

@[simp] theorem release_osc : (release s).osc = s.osc := by unfold release; (repeat' split) <;> simp
@[simp] theorem release_tsu : (release s).tsu = s.tsu := by unfold release; (repeat' split) <;> simp
@[simp] theorem release_ref : (release s).ref = s.ref := by unfold release; (repeat' split) <;> simp
@[simp] theorem release_div : (release s).div = s.div := by unfold release; (repeat' split) <;> simp
@[simp] theorem release_jwr : (release s).jwr = s.jwr := by unfold release; (repeat' split) <;> simp
@[simp] theorem release_pending : (release s).pending = s.pending := by unfold release; (repeat' split) <;> simp

@[simp] theorem openOldest_osc (st : Stream) : (openOldest st s).osc = s.osc := by unfold openOldest; (repeat' split) <;> simp
@[simp] theorem openOldest_tsu (st : Stream) : (openOldest st s).tsu = s.tsu := by unfold openOldest; (repeat' split) <;> simp
@[simp] theorem openOldest_ref (st : Stream) : (openOldest st s).ref = s.ref := by unfold openOldest; (repeat' split) <;> simp
@[simp] theorem openOldest_div (st : Stream) : (openOldest st s).div = s.div := by unfold openOldest; (repeat' split) <;> simp
@[simp] theorem openOldest_taps (st : Stream) : (openOldest st s).taps = s.taps := by unfold openOldest; (repeat' split) <;> simp
@[simp] theorem openOldest_seq (st : Stream) : (openOldest st s).seq = s.seq := by unfold openOldest; (repeat' split) <;> simp
@[simp] theorem openOldest_stg (st : Stream) : (openOldest st s).stg = s.stg := by unfold openOldest; (repeat' split) <;> simp
@[simp] theorem openOldest_auc (st : Stream) : (openOldest st s).auc = s.auc := by unfold openOldest; (repeat' split) <;> simp
@[simp] theorem openOldest_evu (st : Stream) : (openOldest st s).evu = s.evu := by unfold openOldest; (repeat' split) <;> simp
@[simp] theorem openOldest_jwr (st : Stream) : (openOldest st s).jwr = s.jwr := by unfold openOldest; (repeat' split) <;> simp
@[simp] theorem openOldest_rqp (st : Stream) : (openOldest st s).rqp = s.rqp := by unfold openOldest; (repeat' split) <;> simp
@[simp] theorem openOldest_pending (st : Stream) : (openOldest st s).pending = s.pending := by unfold openOldest; (repeat' split) <;> simp

@[simp] theorem withOpen_osc (st : Stream) : (withOpen st s).osc = s.osc := by unfold withOpen; (repeat' split) <;> simp
@[simp] theorem withOpen_tsu (st : Stream) : (withOpen st s).tsu = s.tsu := by unfold withOpen; (repeat' split) <;> simp
@[simp] theorem withOpen_ref (st : Stream) : (withOpen st s).ref = s.ref := by unfold withOpen; (repeat' split) <;> simp
@[simp] theorem withOpen_div (st : Stream) : (withOpen st s).div = s.div := by unfold withOpen; (repeat' split) <;> simp
@[simp] theorem withOpen_taps (st : Stream) : (withOpen st s).taps = s.taps := by unfold withOpen; (repeat' split) <;> simp
@[simp] theorem withOpen_seq (st : Stream) : (withOpen st s).seq = s.seq := by unfold withOpen; (repeat' split) <;> simp
@[simp] theorem withOpen_stg (st : Stream) : (withOpen st s).stg = s.stg := by unfold withOpen; (repeat' split) <;> simp
@[simp] theorem withOpen_auc (st : Stream) : (withOpen st s).auc = s.auc := by unfold withOpen; (repeat' split) <;> simp
@[simp] theorem withOpen_evu (st : Stream) : (withOpen st s).evu = s.evu := by unfold withOpen; (repeat' split) <;> simp
@[simp] theorem withOpen_jwr (st : Stream) : (withOpen st s).jwr = s.jwr := by unfold withOpen; (repeat' split) <;> simp
@[simp] theorem withOpen_rqp (st : Stream) : (withOpen st s).rqp = s.rqp := by unfold withOpen; (repeat' split) <;> simp
@[simp] theorem withOpen_pending (st : Stream) : (withOpen st s).pending = s.pending := by unfold withOpen; (repeat' split) <;> simp

@[simp] theorem sendBurst_osc (st : Stream) (rs : List Record) : (sendBurst st rs s).osc = s.osc := by unfold sendBurst; (repeat' split) <;> simp
@[simp] theorem sendBurst_tsu (st : Stream) (rs : List Record) : (sendBurst st rs s).tsu = s.tsu := by unfold sendBurst; (repeat' split) <;> simp
@[simp] theorem sendBurst_ref (st : Stream) (rs : List Record) : (sendBurst st rs s).ref = s.ref := by unfold sendBurst; (repeat' split) <;> simp
@[simp] theorem sendBurst_div (st : Stream) (rs : List Record) : (sendBurst st rs s).div = s.div := by unfold sendBurst; (repeat' split) <;> simp
@[simp] theorem sendBurst_taps (st : Stream) (rs : List Record) : (sendBurst st rs s).taps = s.taps := by unfold sendBurst; (repeat' split) <;> simp
@[simp] theorem sendBurst_seq (st : Stream) (rs : List Record) : (sendBurst st rs s).seq = s.seq := by unfold sendBurst; (repeat' split) <;> simp
@[simp] theorem sendBurst_stg (st : Stream) (rs : List Record) : (sendBurst st rs s).stg = s.stg := by unfold sendBurst; (repeat' split) <;> simp
@[simp] theorem sendBurst_auc (st : Stream) (rs : List Record) : (sendBurst st rs s).auc = s.auc := by unfold sendBurst; (repeat' split) <;> simp
@[simp] theorem sendBurst_evu (st : Stream) (rs : List Record) : (sendBurst st rs s).evu = s.evu := by unfold sendBurst; (repeat' split) <;> simp
@[simp] theorem sendBurst_arc (st : Stream) (rs : List Record) : (sendBurst st rs s).arc = s.arc := by unfold sendBurst; (repeat' split) <;> simp
@[simp] theorem sendBurst_rqp (st : Stream) (rs : List Record) : (sendBurst st rs s).rqp = s.rqp := by unfold sendBurst; (repeat' split) <;> simp
@[simp] theorem sendBurst_pending (st : Stream) (rs : List Record) : (sendBurst st rs s).pending = s.pending := by unfold sendBurst; (repeat' split) <;> simp

@[simp] theorem newBurst_osc (st : Stream) : (newBurst st s).osc = s.osc := by simp [newBurst]
@[simp] theorem newBurst_tsu (st : Stream) : (newBurst st s).tsu = s.tsu := by simp [newBurst]
@[simp] theorem newBurst_ref (st : Stream) : (newBurst st s).ref = s.ref := by simp [newBurst]
@[simp] theorem newBurst_div (st : Stream) : (newBurst st s).div = s.div := by simp [newBurst]
@[simp] theorem newBurst_taps (st : Stream) : (newBurst st s).taps = s.taps := by simp [newBurst]
@[simp] theorem newBurst_seq (st : Stream) : (newBurst st s).seq = s.seq := by simp [newBurst]
@[simp] theorem newBurst_auc (st : Stream) : (newBurst st s).auc = s.auc := by simp [newBurst]
@[simp] theorem newBurst_evu (st : Stream) : (newBurst st s).evu = s.evu := by simp [newBurst]
@[simp] theorem newBurst_rqp (st : Stream) : (newBurst st s).rqp = s.rqp := by simp [newBurst]
@[simp] theorem newBurst_pending (st : Stream) : (newBurst st s).pending = s.pending := by simp [newBurst]

@[simp] theorem burstStart_osc : (burstStart s).osc = s.osc := by unfold burstStart; (repeat' split) <;> simp
@[simp] theorem burstStart_tsu : (burstStart s).tsu = s.tsu := by unfold burstStart; (repeat' split) <;> simp
@[simp] theorem burstStart_ref : (burstStart s).ref = s.ref := by unfold burstStart; (repeat' split) <;> simp
@[simp] theorem burstStart_div : (burstStart s).div = s.div := by unfold burstStart; (repeat' split) <;> simp
@[simp] theorem burstStart_taps : (burstStart s).taps = s.taps := by unfold burstStart; (repeat' split) <;> simp
@[simp] theorem burstStart_seq : (burstStart s).seq = s.seq := by unfold burstStart; (repeat' split) <;> simp
@[simp] theorem burstStart_auc : (burstStart s).auc = s.auc := by unfold burstStart; (repeat' split) <;> simp
@[simp] theorem burstStart_evu : (burstStart s).evu = s.evu := by unfold burstStart; (repeat' split) <;> simp
@[simp] theorem burstStart_rqp : (burstStart s).rqp = s.rqp := by unfold burstStart; (repeat' split) <;> simp
@[simp] theorem burstStart_pending : (burstStart s).pending = s.pending := by unfold burstStart; (repeat' split) <;> simp

@[simp] theorem answerCut_osc (w : Wait) (fs : List Field) : (answerCut w fs s).osc = s.osc := by unfold answerCut; (repeat' split) <;> simp
@[simp] theorem answerCut_tsu (w : Wait) (fs : List Field) : (answerCut w fs s).tsu = s.tsu := by unfold answerCut; (repeat' split) <;> simp
@[simp] theorem answerCut_ref (w : Wait) (fs : List Field) : (answerCut w fs s).ref = s.ref := by unfold answerCut; (repeat' split) <;> simp
@[simp] theorem answerCut_div (w : Wait) (fs : List Field) : (answerCut w fs s).div = s.div := by unfold answerCut; (repeat' split) <;> simp
@[simp] theorem answerCut_taps (w : Wait) (fs : List Field) : (answerCut w fs s).taps = s.taps := by unfold answerCut; (repeat' split) <;> simp
@[simp] theorem answerCut_seq (w : Wait) (fs : List Field) : (answerCut w fs s).seq = s.seq := by unfold answerCut; (repeat' split) <;> simp
@[simp] theorem answerCut_stg (w : Wait) (fs : List Field) : (answerCut w fs s).stg = s.stg := by unfold answerCut; (repeat' split) <;> simp
@[simp] theorem answerCut_auc (w : Wait) (fs : List Field) : (answerCut w fs s).auc = s.auc := by unfold answerCut; (repeat' split) <;> simp
@[simp] theorem answerCut_evu (w : Wait) (fs : List Field) : (answerCut w fs s).evu = s.evu := by unfold answerCut; (repeat' split) <;> simp
@[simp] theorem answerCut_jwr (w : Wait) (fs : List Field) : (answerCut w fs s).jwr = s.jwr := by unfold answerCut; (repeat' split) <;> simp
@[simp] theorem answerCut_arc (w : Wait) (fs : List Field) : (answerCut w fs s).arc = s.arc := by unfold answerCut; (repeat' split) <;> simp
@[simp] theorem answerCut_pending (w : Wait) (fs : List Field) : (answerCut w fs s).pending = s.pending := by unfold answerCut; (repeat' split) <;> simp

@[simp] theorem awaitTrailer_osc (st : Stream) (i : Fin 64) : (awaitTrailer st i s).osc = s.osc := by unfold awaitTrailer; (repeat' split) <;> simp
@[simp] theorem awaitTrailer_tsu (st : Stream) (i : Fin 64) : (awaitTrailer st i s).tsu = s.tsu := by unfold awaitTrailer; (repeat' split) <;> simp
@[simp] theorem awaitTrailer_ref (st : Stream) (i : Fin 64) : (awaitTrailer st i s).ref = s.ref := by unfold awaitTrailer; (repeat' split) <;> simp
@[simp] theorem awaitTrailer_div (st : Stream) (i : Fin 64) : (awaitTrailer st i s).div = s.div := by unfold awaitTrailer; (repeat' split) <;> simp
@[simp] theorem awaitTrailer_taps (st : Stream) (i : Fin 64) : (awaitTrailer st i s).taps = s.taps := by unfold awaitTrailer; (repeat' split) <;> simp
@[simp] theorem awaitTrailer_seq (st : Stream) (i : Fin 64) : (awaitTrailer st i s).seq = s.seq := by unfold awaitTrailer; (repeat' split) <;> simp
@[simp] theorem awaitTrailer_stg (st : Stream) (i : Fin 64) : (awaitTrailer st i s).stg = s.stg := by unfold awaitTrailer; (repeat' split) <;> simp
@[simp] theorem awaitTrailer_auc (st : Stream) (i : Fin 64) : (awaitTrailer st i s).auc = s.auc := by unfold awaitTrailer; (repeat' split) <;> simp
@[simp] theorem awaitTrailer_evu (st : Stream) (i : Fin 64) : (awaitTrailer st i s).evu = s.evu := by unfold awaitTrailer; (repeat' split) <;> simp
@[simp] theorem awaitTrailer_jwr (st : Stream) (i : Fin 64) : (awaitTrailer st i s).jwr = s.jwr := by unfold awaitTrailer; (repeat' split) <;> simp
@[simp] theorem awaitTrailer_arc (st : Stream) (i : Fin 64) : (awaitTrailer st i s).arc = s.arc := by unfold awaitTrailer; (repeat' split) <;> simp
@[simp] theorem awaitTrailer_pending (st : Stream) (i : Fin 64) : (awaitTrailer st i s).pending = s.pending := by unfold awaitTrailer; (repeat' split) <;> simp

@[simp] theorem burstCloses_osc (st : Stream) (g : OpenSeg) : (burstCloses st g s).osc = s.osc := by simp [burstCloses]
@[simp] theorem burstCloses_tsu (st : Stream) (g : OpenSeg) : (burstCloses st g s).tsu = s.tsu := by simp [burstCloses]
@[simp] theorem burstCloses_ref (st : Stream) (g : OpenSeg) : (burstCloses st g s).ref = s.ref := by simp [burstCloses]
@[simp] theorem burstCloses_div (st : Stream) (g : OpenSeg) : (burstCloses st g s).div = s.div := by simp [burstCloses]
@[simp] theorem burstCloses_taps (st : Stream) (g : OpenSeg) : (burstCloses st g s).taps = s.taps := by simp [burstCloses]
@[simp] theorem burstCloses_seq (st : Stream) (g : OpenSeg) : (burstCloses st g s).seq = s.seq := by simp [burstCloses]
@[simp] theorem burstCloses_stg (st : Stream) (g : OpenSeg) : (burstCloses st g s).stg = s.stg := by simp [burstCloses]
@[simp] theorem burstCloses_auc (st : Stream) (g : OpenSeg) : (burstCloses st g s).auc = s.auc := by simp [burstCloses]
@[simp] theorem burstCloses_evu (st : Stream) (g : OpenSeg) : (burstCloses st g s).evu = s.evu := by simp [burstCloses]
@[simp] theorem burstCloses_pending (st : Stream) (g : OpenSeg) : (burstCloses st g s).pending = s.pending := by simp [burstCloses]

@[simp] theorem burstFills_osc (st : Stream) (g : OpenSeg) : (burstFills st g s).osc = s.osc := by unfold burstFills; dsimp only; (repeat' split) <;> simp
@[simp] theorem burstFills_tsu (st : Stream) (g : OpenSeg) : (burstFills st g s).tsu = s.tsu := by unfold burstFills; dsimp only; (repeat' split) <;> simp
@[simp] theorem burstFills_ref (st : Stream) (g : OpenSeg) : (burstFills st g s).ref = s.ref := by unfold burstFills; dsimp only; (repeat' split) <;> simp
@[simp] theorem burstFills_div (st : Stream) (g : OpenSeg) : (burstFills st g s).div = s.div := by unfold burstFills; dsimp only; (repeat' split) <;> simp
@[simp] theorem burstFills_taps (st : Stream) (g : OpenSeg) : (burstFills st g s).taps = s.taps := by unfold burstFills; dsimp only; (repeat' split) <;> simp
@[simp] theorem burstFills_seq (st : Stream) (g : OpenSeg) : (burstFills st g s).seq = s.seq := by unfold burstFills; dsimp only; (repeat' split) <;> simp
@[simp] theorem burstFills_stg (st : Stream) (g : OpenSeg) : (burstFills st g s).stg = s.stg := by unfold burstFills; dsimp only; (repeat' split) <;> simp
@[simp] theorem burstFills_auc (st : Stream) (g : OpenSeg) : (burstFills st g s).auc = s.auc := by unfold burstFills; dsimp only; (repeat' split) <;> simp
@[simp] theorem burstFills_evu (st : Stream) (g : OpenSeg) : (burstFills st g s).evu = s.evu := by unfold burstFills; dsimp only; (repeat' split) <;> simp
@[simp] theorem burstFills_pending (st : Stream) (g : OpenSeg) : (burstFills st g s).pending = s.pending := by unfold burstFills; dsimp only; (repeat' split) <;> simp

@[simp] theorem burstFails_osc (st : Stream) (g : OpenSeg) : (burstFails st g s).osc = s.osc := by simp [burstFails]
@[simp] theorem burstFails_tsu (st : Stream) (g : OpenSeg) : (burstFails st g s).tsu = s.tsu := by simp [burstFails]
@[simp] theorem burstFails_ref (st : Stream) (g : OpenSeg) : (burstFails st g s).ref = s.ref := by simp [burstFails]
@[simp] theorem burstFails_div (st : Stream) (g : OpenSeg) : (burstFails st g s).div = s.div := by simp [burstFails]
@[simp] theorem burstFails_taps (st : Stream) (g : OpenSeg) : (burstFails st g s).taps = s.taps := by simp [burstFails]
@[simp] theorem burstFails_seq (st : Stream) (g : OpenSeg) : (burstFails st g s).seq = s.seq := by simp [burstFails]
@[simp] theorem burstFails_stg (st : Stream) (g : OpenSeg) : (burstFails st g s).stg = s.stg := by simp [burstFails]
@[simp] theorem burstFails_auc (st : Stream) (g : OpenSeg) : (burstFails st g s).auc = s.auc := by simp [burstFails]
@[simp] theorem burstFails_evu (st : Stream) (g : OpenSeg) : (burstFails st g s).evu = s.evu := by simp [burstFails]
@[simp] theorem burstFails_pending (st : Stream) (g : OpenSeg) : (burstFails st g s).pending = s.pending := by simp [burstFails]

@[simp] theorem burstComplete_osc (ok : Bool) : (burstComplete ok s).osc = s.osc := by unfold burstComplete; dsimp only; (repeat' split) <;> simp
@[simp] theorem burstComplete_tsu (ok : Bool) : (burstComplete ok s).tsu = s.tsu := by unfold burstComplete; dsimp only; (repeat' split) <;> simp
@[simp] theorem burstComplete_ref (ok : Bool) : (burstComplete ok s).ref = s.ref := by unfold burstComplete; dsimp only; (repeat' split) <;> simp
@[simp] theorem burstComplete_div (ok : Bool) : (burstComplete ok s).div = s.div := by unfold burstComplete; dsimp only; (repeat' split) <;> simp
@[simp] theorem burstComplete_taps (ok : Bool) : (burstComplete ok s).taps = s.taps := by unfold burstComplete; dsimp only; (repeat' split) <;> simp
@[simp] theorem burstComplete_seq (ok : Bool) : (burstComplete ok s).seq = s.seq := by unfold burstComplete; dsimp only; (repeat' split) <;> simp
@[simp] theorem burstComplete_stg (ok : Bool) : (burstComplete ok s).stg = s.stg := by unfold burstComplete; dsimp only; (repeat' split) <;> simp
@[simp] theorem burstComplete_auc (ok : Bool) : (burstComplete ok s).auc = s.auc := by unfold burstComplete; dsimp only; (repeat' split) <;> simp
@[simp] theorem burstComplete_evu (ok : Bool) : (burstComplete ok s).evu = s.evu := by unfold burstComplete; dsimp only; (repeat' split) <;> simp
@[simp] theorem burstComplete_pending (ok : Bool) : (burstComplete ok s).pending = s.pending := by unfold burstComplete; dsimp only; (repeat' split) <;> simp

@[simp] theorem trailerComplete_osc (st : Stream) (ok : Bool) : (trailerComplete st ok s).osc = s.osc := by unfold trailerComplete; (repeat' split) <;> simp
@[simp] theorem trailerComplete_tsu (st : Stream) (ok : Bool) : (trailerComplete st ok s).tsu = s.tsu := by unfold trailerComplete; (repeat' split) <;> simp
@[simp] theorem trailerComplete_ref (st : Stream) (ok : Bool) : (trailerComplete st ok s).ref = s.ref := by unfold trailerComplete; (repeat' split) <;> simp
@[simp] theorem trailerComplete_div (st : Stream) (ok : Bool) : (trailerComplete st ok s).div = s.div := by unfold trailerComplete; (repeat' split) <;> simp
@[simp] theorem trailerComplete_taps (st : Stream) (ok : Bool) : (trailerComplete st ok s).taps = s.taps := by unfold trailerComplete; (repeat' split) <;> simp
@[simp] theorem trailerComplete_seq (st : Stream) (ok : Bool) : (trailerComplete st ok s).seq = s.seq := by unfold trailerComplete; (repeat' split) <;> simp
@[simp] theorem trailerComplete_stg (st : Stream) (ok : Bool) : (trailerComplete st ok s).stg = s.stg := by unfold trailerComplete; (repeat' split) <;> simp
@[simp] theorem trailerComplete_auc (st : Stream) (ok : Bool) : (trailerComplete st ok s).auc = s.auc := by unfold trailerComplete; (repeat' split) <;> simp
@[simp] theorem trailerComplete_evu (st : Stream) (ok : Bool) : (trailerComplete st ok s).evu = s.evu := by unfold trailerComplete; (repeat' split) <;> simp
@[simp] theorem trailerComplete_jwr (st : Stream) (ok : Bool) : (trailerComplete st ok s).jwr = s.jwr := by unfold trailerComplete; (repeat' split) <;> simp
@[simp] theorem trailerComplete_pending (st : Stream) (ok : Bool) : (trailerComplete st ok s).pending = s.pending := by unfold trailerComplete; (repeat' split) <;> simp

@[simp] theorem refuseHand_osc (v : Nat) : (refuseHand v s).osc = s.osc := by simp [refuseHand]
@[simp] theorem refuseHand_tsu (v : Nat) : (refuseHand v s).tsu = s.tsu := by simp [refuseHand]
@[simp] theorem refuseHand_ref (v : Nat) : (refuseHand v s).ref = s.ref := by simp [refuseHand]
@[simp] theorem refuseHand_div (v : Nat) : (refuseHand v s).div = s.div := by simp [refuseHand]
@[simp] theorem refuseHand_taps (v : Nat) : (refuseHand v s).taps = s.taps := by simp [refuseHand]
@[simp] theorem refuseHand_seq (v : Nat) : (refuseHand v s).seq = s.seq := by simp [refuseHand]
@[simp] theorem refuseHand_stg (v : Nat) : (refuseHand v s).stg = s.stg := by simp [refuseHand]
@[simp] theorem refuseHand_auc (v : Nat) : (refuseHand v s).auc = s.auc := by simp [refuseHand]
@[simp] theorem refuseHand_evu (v : Nat) : (refuseHand v s).evu = s.evu := by simp [refuseHand]
@[simp] theorem refuseHand_jwr (v : Nat) : (refuseHand v s).jwr = s.jwr := by simp [refuseHand]
@[simp] theorem refuseHand_rqp (v : Nat) : (refuseHand v s).rqp = s.rqp := by simp [refuseHand]
@[simp] theorem refuseHand_pending (v : Nat) : (refuseHand v s).pending = s.pending := by simp [refuseHand]

@[simp] theorem takeHand_osc (v : Nat) : (takeHand v s).osc = s.osc := by unfold takeHand; (repeat' split) <;> simp
@[simp] theorem takeHand_tsu (v : Nat) : (takeHand v s).tsu = s.tsu := by unfold takeHand; (repeat' split) <;> simp
@[simp] theorem takeHand_ref (v : Nat) : (takeHand v s).ref = s.ref := by unfold takeHand; (repeat' split) <;> simp
@[simp] theorem takeHand_div (v : Nat) : (takeHand v s).div = s.div := by unfold takeHand; (repeat' split) <;> simp
@[simp] theorem takeHand_taps (v : Nat) : (takeHand v s).taps = s.taps := by unfold takeHand; (repeat' split) <;> simp
@[simp] theorem takeHand_seq (v : Nat) : (takeHand v s).seq = s.seq := by unfold takeHand; (repeat' split) <;> simp
@[simp] theorem takeHand_stg (v : Nat) : (takeHand v s).stg = s.stg := by unfold takeHand; (repeat' split) <;> simp
@[simp] theorem takeHand_auc (v : Nat) : (takeHand v s).auc = s.auc := by unfold takeHand; (repeat' split) <;> simp
@[simp] theorem takeHand_evu (v : Nat) : (takeHand v s).evu = s.evu := by unfold takeHand; (repeat' split) <;> simp
@[simp] theorem takeHand_jwr (v : Nat) : (takeHand v s).jwr = s.jwr := by unfold takeHand; (repeat' split) <;> simp
@[simp] theorem takeHand_rqp (v : Nat) : (takeHand v s).rqp = s.rqp := by unfold takeHand; (repeat' split) <;> simp
@[simp] theorem takeHand_pending (v : Nat) : (takeHand v s).pending = s.pending := by unfold takeHand; (repeat' split) <;> simp

@[simp] theorem handWrite_osc (v : RegWord) : (handWrite v s).osc = s.osc := by unfold handWrite; (repeat' split) <;> simp
@[simp] theorem handWrite_tsu (v : RegWord) : (handWrite v s).tsu = s.tsu := by unfold handWrite; (repeat' split) <;> simp
@[simp] theorem handWrite_ref (v : RegWord) : (handWrite v s).ref = s.ref := by unfold handWrite; (repeat' split) <;> simp
@[simp] theorem handWrite_div (v : RegWord) : (handWrite v s).div = s.div := by unfold handWrite; (repeat' split) <;> simp
@[simp] theorem handWrite_taps (v : RegWord) : (handWrite v s).taps = s.taps := by unfold handWrite; (repeat' split) <;> simp
@[simp] theorem handWrite_seq (v : RegWord) : (handWrite v s).seq = s.seq := by unfold handWrite; (repeat' split) <;> simp
@[simp] theorem handWrite_stg (v : RegWord) : (handWrite v s).stg = s.stg := by unfold handWrite; (repeat' split) <;> simp
@[simp] theorem handWrite_auc (v : RegWord) : (handWrite v s).auc = s.auc := by unfold handWrite; (repeat' split) <;> simp
@[simp] theorem handWrite_evu (v : RegWord) : (handWrite v s).evu = s.evu := by unfold handWrite; (repeat' split) <;> simp
@[simp] theorem handWrite_jwr (v : RegWord) : (handWrite v s).jwr = s.jwr := by unfold handWrite; (repeat' split) <;> simp
@[simp] theorem handWrite_rqp (v : RegWord) : (handWrite v s).rqp = s.rqp := by unfold handWrite; (repeat' split) <;> simp
@[simp] theorem handWrite_pending (v : RegWord) : (handWrite v s).pending = s.pending := by unfold handWrite; (repeat' split) <;> simp

@[simp] theorem takeHeld_osc (l : List Nat) : (takeHeld l s).osc = s.osc := by
  induction l generalizing s with
  | nil => rfl
  | cons v l ih => unfold takeHeld; dsimp only; repeat' split
                   all_goals simp [ih]
@[simp] theorem takeHeld_tsu (l : List Nat) : (takeHeld l s).tsu = s.tsu := by
  induction l generalizing s with
  | nil => rfl
  | cons v l ih => unfold takeHeld; dsimp only; repeat' split
                   all_goals simp [ih]
@[simp] theorem takeHeld_ref (l : List Nat) : (takeHeld l s).ref = s.ref := by
  induction l generalizing s with
  | nil => rfl
  | cons v l ih => unfold takeHeld; dsimp only; repeat' split
                   all_goals simp [ih]
@[simp] theorem takeHeld_div (l : List Nat) : (takeHeld l s).div = s.div := by
  induction l generalizing s with
  | nil => rfl
  | cons v l ih => unfold takeHeld; dsimp only; repeat' split
                   all_goals simp [ih]
@[simp] theorem takeHeld_taps (l : List Nat) : (takeHeld l s).taps = s.taps := by
  induction l generalizing s with
  | nil => rfl
  | cons v l ih => unfold takeHeld; dsimp only; repeat' split
                   all_goals simp [ih]
@[simp] theorem takeHeld_seq (l : List Nat) : (takeHeld l s).seq = s.seq := by
  induction l generalizing s with
  | nil => rfl
  | cons v l ih => unfold takeHeld; dsimp only; repeat' split
                   all_goals simp [ih]
@[simp] theorem takeHeld_stg (l : List Nat) : (takeHeld l s).stg = s.stg := by
  induction l generalizing s with
  | nil => rfl
  | cons v l ih => unfold takeHeld; dsimp only; repeat' split
                   all_goals simp [ih]
@[simp] theorem takeHeld_auc (l : List Nat) : (takeHeld l s).auc = s.auc := by
  induction l generalizing s with
  | nil => rfl
  | cons v l ih => unfold takeHeld; dsimp only; repeat' split
                   all_goals simp [ih]
@[simp] theorem takeHeld_evu (l : List Nat) : (takeHeld l s).evu = s.evu := by
  induction l generalizing s with
  | nil => rfl
  | cons v l ih => unfold takeHeld; dsimp only; repeat' split
                   all_goals simp [ih]
@[simp] theorem takeHeld_jwr (l : List Nat) : (takeHeld l s).jwr = s.jwr := by
  induction l generalizing s with
  | nil => rfl
  | cons v l ih => unfold takeHeld; dsimp only; repeat' split
                   all_goals simp [ih]
@[simp] theorem takeHeld_rqp (l : List Nat) : (takeHeld l s).rqp = s.rqp := by
  induction l generalizing s with
  | nil => rfl
  | cons v l ih => unfold takeHeld; dsimp only; repeat' split
                   all_goals simp [ih]
@[simp] theorem takeHeld_pending (l : List Nat) : (takeHeld l s).pending = s.pending := by
  induction l generalizing s with
  | nil => rfl
  | cons v l ih => unfold takeHeld; dsimp only; repeat' split
                   all_goals simp [ih]

@[simp] theorem refuseEntry_osc (i : Fin 64) (r : SegReason) : (refuseEntry i r s).osc = s.osc := by simp [refuseEntry]
@[simp] theorem refuseEntry_tsu (i : Fin 64) (r : SegReason) : (refuseEntry i r s).tsu = s.tsu := by simp [refuseEntry]
@[simp] theorem refuseEntry_ref (i : Fin 64) (r : SegReason) : (refuseEntry i r s).ref = s.ref := by simp [refuseEntry]
@[simp] theorem refuseEntry_div (i : Fin 64) (r : SegReason) : (refuseEntry i r s).div = s.div := by simp [refuseEntry]
@[simp] theorem refuseEntry_taps (i : Fin 64) (r : SegReason) : (refuseEntry i r s).taps = s.taps := by simp [refuseEntry]
@[simp] theorem refuseEntry_seq (i : Fin 64) (r : SegReason) : (refuseEntry i r s).seq = s.seq := by simp [refuseEntry]
@[simp] theorem refuseEntry_stg (i : Fin 64) (r : SegReason) : (refuseEntry i r s).stg = s.stg := by simp [refuseEntry]
@[simp] theorem refuseEntry_auc (i : Fin 64) (r : SegReason) : (refuseEntry i r s).auc = s.auc := by simp [refuseEntry]
@[simp] theorem refuseEntry_evu (i : Fin 64) (r : SegReason) : (refuseEntry i r s).evu = s.evu := by simp [refuseEntry]
@[simp] theorem refuseEntry_jwr (i : Fin 64) (r : SegReason) : (refuseEntry i r s).jwr = s.jwr := by simp [refuseEntry]
@[simp] theorem refuseEntry_rqp (i : Fin 64) (r : SegReason) : (refuseEntry i r s).rqp = s.rqp := by simp [refuseEntry]
@[simp] theorem refuseEntry_pending (i : Fin 64) (r : SegReason) : (refuseEntry i r s).pending = s.pending := by simp [refuseEntry]

@[simp] theorem acceptJournal_osc (i : Fin 64) (st : Stream) (c : SegCopy) : (acceptJournal i st c s).osc = s.osc := by simp [acceptJournal]
@[simp] theorem acceptJournal_tsu (i : Fin 64) (st : Stream) (c : SegCopy) : (acceptJournal i st c s).tsu = s.tsu := by simp [acceptJournal]
@[simp] theorem acceptJournal_ref (i : Fin 64) (st : Stream) (c : SegCopy) : (acceptJournal i st c s).ref = s.ref := by simp [acceptJournal]
@[simp] theorem acceptJournal_div (i : Fin 64) (st : Stream) (c : SegCopy) : (acceptJournal i st c s).div = s.div := by simp [acceptJournal]
@[simp] theorem acceptJournal_taps (i : Fin 64) (st : Stream) (c : SegCopy) : (acceptJournal i st c s).taps = s.taps := by simp [acceptJournal]
@[simp] theorem acceptJournal_seq (i : Fin 64) (st : Stream) (c : SegCopy) : (acceptJournal i st c s).seq = s.seq := by simp [acceptJournal]
@[simp] theorem acceptJournal_stg (i : Fin 64) (st : Stream) (c : SegCopy) : (acceptJournal i st c s).stg = s.stg := by simp [acceptJournal]
@[simp] theorem acceptJournal_auc (i : Fin 64) (st : Stream) (c : SegCopy) : (acceptJournal i st c s).auc = s.auc := by simp [acceptJournal]
@[simp] theorem acceptJournal_evu (i : Fin 64) (st : Stream) (c : SegCopy) : (acceptJournal i st c s).evu = s.evu := by simp [acceptJournal]
@[simp] theorem acceptJournal_jwr (i : Fin 64) (st : Stream) (c : SegCopy) : (acceptJournal i st c s).jwr = s.jwr := by simp [acceptJournal]
@[simp] theorem acceptJournal_rqp (i : Fin 64) (st : Stream) (c : SegCopy) : (acceptJournal i st c s).rqp = s.rqp := by simp [acceptJournal]
@[simp] theorem acceptJournal_pending (i : Fin 64) (st : Stream) (c : SegCopy) : (acceptJournal i st c s).pending = s.pending := by simp [acceptJournal]

@[simp] theorem acceptRequests_osc (i : Fin 64) (c : SegCopy) : (acceptRequests i c s).osc = s.osc := by simp [acceptRequests]
@[simp] theorem acceptRequests_tsu (i : Fin 64) (c : SegCopy) : (acceptRequests i c s).tsu = s.tsu := by simp [acceptRequests]
@[simp] theorem acceptRequests_ref (i : Fin 64) (c : SegCopy) : (acceptRequests i c s).ref = s.ref := by simp [acceptRequests]
@[simp] theorem acceptRequests_div (i : Fin 64) (c : SegCopy) : (acceptRequests i c s).div = s.div := by simp [acceptRequests]
@[simp] theorem acceptRequests_taps (i : Fin 64) (c : SegCopy) : (acceptRequests i c s).taps = s.taps := by simp [acceptRequests]
@[simp] theorem acceptRequests_seq (i : Fin 64) (c : SegCopy) : (acceptRequests i c s).seq = s.seq := by simp [acceptRequests]
@[simp] theorem acceptRequests_stg (i : Fin 64) (c : SegCopy) : (acceptRequests i c s).stg = s.stg := by simp [acceptRequests]
@[simp] theorem acceptRequests_auc (i : Fin 64) (c : SegCopy) : (acceptRequests i c s).auc = s.auc := by simp [acceptRequests]
@[simp] theorem acceptRequests_evu (i : Fin 64) (c : SegCopy) : (acceptRequests i c s).evu = s.evu := by simp [acceptRequests]
@[simp] theorem acceptRequests_jwr (i : Fin 64) (c : SegCopy) : (acceptRequests i c s).jwr = s.jwr := by simp [acceptRequests]
@[simp] theorem acceptRequests_rqp (i : Fin 64) (c : SegCopy) : (acceptRequests i c s).rqp = s.rqp := by simp [acceptRequests]
@[simp] theorem acceptRequests_pending (i : Fin 64) (c : SegCopy) : (acceptRequests i c s).pending = s.pending := by simp [acceptRequests]

@[simp] theorem decideHand_osc (i : Fin 64) (e : Option (List Byte)) : (decideHand i e s).osc = s.osc := by unfold decideHand; (repeat' split) <;> simp
@[simp] theorem decideHand_tsu (i : Fin 64) (e : Option (List Byte)) : (decideHand i e s).tsu = s.tsu := by unfold decideHand; (repeat' split) <;> simp
@[simp] theorem decideHand_ref (i : Fin 64) (e : Option (List Byte)) : (decideHand i e s).ref = s.ref := by unfold decideHand; (repeat' split) <;> simp
@[simp] theorem decideHand_div (i : Fin 64) (e : Option (List Byte)) : (decideHand i e s).div = s.div := by unfold decideHand; (repeat' split) <;> simp
@[simp] theorem decideHand_taps (i : Fin 64) (e : Option (List Byte)) : (decideHand i e s).taps = s.taps := by unfold decideHand; (repeat' split) <;> simp
@[simp] theorem decideHand_seq (i : Fin 64) (e : Option (List Byte)) : (decideHand i e s).seq = s.seq := by unfold decideHand; (repeat' split) <;> simp
@[simp] theorem decideHand_stg (i : Fin 64) (e : Option (List Byte)) : (decideHand i e s).stg = s.stg := by unfold decideHand; (repeat' split) <;> simp
@[simp] theorem decideHand_auc (i : Fin 64) (e : Option (List Byte)) : (decideHand i e s).auc = s.auc := by unfold decideHand; (repeat' split) <;> simp
@[simp] theorem decideHand_evu (i : Fin 64) (e : Option (List Byte)) : (decideHand i e s).evu = s.evu := by unfold decideHand; (repeat' split) <;> simp
@[simp] theorem decideHand_jwr (i : Fin 64) (e : Option (List Byte)) : (decideHand i e s).jwr = s.jwr := by unfold decideHand; (repeat' split) <;> simp
@[simp] theorem decideHand_rqp (i : Fin 64) (e : Option (List Byte)) : (decideHand i e s).rqp = s.rqp := by unfold decideHand; (repeat' split) <;> simp
@[simp] theorem decideHand_pending (i : Fin 64) (e : Option (List Byte)) : (decideHand i e s).pending = s.pending := by unfold decideHand; (repeat' split) <;> simp

@[simp] theorem handFetchComplete_osc (e : Option (List Byte)) : (handFetchComplete e s).osc = s.osc := by unfold handFetchComplete; (repeat' split) <;> simp
@[simp] theorem handFetchComplete_tsu (e : Option (List Byte)) : (handFetchComplete e s).tsu = s.tsu := by unfold handFetchComplete; (repeat' split) <;> simp
@[simp] theorem handFetchComplete_ref (e : Option (List Byte)) : (handFetchComplete e s).ref = s.ref := by unfold handFetchComplete; (repeat' split) <;> simp
@[simp] theorem handFetchComplete_div (e : Option (List Byte)) : (handFetchComplete e s).div = s.div := by unfold handFetchComplete; (repeat' split) <;> simp
@[simp] theorem handFetchComplete_taps (e : Option (List Byte)) : (handFetchComplete e s).taps = s.taps := by unfold handFetchComplete; (repeat' split) <;> simp
@[simp] theorem handFetchComplete_seq (e : Option (List Byte)) : (handFetchComplete e s).seq = s.seq := by unfold handFetchComplete; (repeat' split) <;> simp
@[simp] theorem handFetchComplete_stg (e : Option (List Byte)) : (handFetchComplete e s).stg = s.stg := by unfold handFetchComplete; (repeat' split) <;> simp
@[simp] theorem handFetchComplete_auc (e : Option (List Byte)) : (handFetchComplete e s).auc = s.auc := by unfold handFetchComplete; (repeat' split) <;> simp
@[simp] theorem handFetchComplete_evu (e : Option (List Byte)) : (handFetchComplete e s).evu = s.evu := by unfold handFetchComplete; (repeat' split) <;> simp
@[simp] theorem handFetchComplete_jwr (e : Option (List Byte)) : (handFetchComplete e s).jwr = s.jwr := by unfold handFetchComplete; (repeat' split) <;> simp
@[simp] theorem handFetchComplete_rqp (e : Option (List Byte)) : (handFetchComplete e s).rqp = s.rqp := by unfold handFetchComplete; (repeat' split) <;> simp
@[simp] theorem handFetchComplete_pending (e : Option (List Byte)) : (handFetchComplete e s).pending = s.pending := by unfold handFetchComplete; (repeat' split) <;> simp

@[simp] theorem resumeHost_osc : (resumeHost s).osc = s.osc := by simp [resumeHost]
@[simp] theorem resumeHost_tsu : (resumeHost s).tsu = s.tsu := by simp [resumeHost]
@[simp] theorem resumeHost_ref : (resumeHost s).ref = s.ref := by simp [resumeHost]
@[simp] theorem resumeHost_div : (resumeHost s).div = s.div := by simp [resumeHost]
@[simp] theorem resumeHost_taps : (resumeHost s).taps = s.taps := by simp [resumeHost]
@[simp] theorem resumeHost_seq : (resumeHost s).seq = s.seq := by simp [resumeHost]
@[simp] theorem resumeHost_stg : (resumeHost s).stg = s.stg := by simp [resumeHost]
@[simp] theorem resumeHost_auc : (resumeHost s).auc = s.auc := by simp [resumeHost]
@[simp] theorem resumeHost_evu : (resumeHost s).evu = s.evu := by simp [resumeHost]
@[simp] theorem resumeHost_jwr : (resumeHost s).jwr = s.jwr := by simp [resumeHost]
@[simp] theorem resumeHost_pending : (resumeHost s).pending = s.pending := by simp [resumeHost]

@[simp] theorem controlWrite_osc (e : Bool) (v : RegWord) : (controlWrite e v s).osc = s.osc := by unfold controlWrite; (repeat' split) <;> simp
@[simp] theorem controlWrite_tsu (e : Bool) (v : RegWord) : (controlWrite e v s).tsu = s.tsu := by unfold controlWrite; (repeat' split) <;> simp
@[simp] theorem controlWrite_ref (e : Bool) (v : RegWord) : (controlWrite e v s).ref = s.ref := by unfold controlWrite; (repeat' split) <;> simp
@[simp] theorem controlWrite_div (e : Bool) (v : RegWord) : (controlWrite e v s).div = s.div := by unfold controlWrite; (repeat' split) <;> simp
@[simp] theorem controlWrite_taps (e : Bool) (v : RegWord) : (controlWrite e v s).taps = s.taps := by unfold controlWrite; (repeat' split) <;> simp
@[simp] theorem controlWrite_seq (e : Bool) (v : RegWord) : (controlWrite e v s).seq = s.seq := by unfold controlWrite; (repeat' split) <;> simp
@[simp] theorem controlWrite_stg (e : Bool) (v : RegWord) : (controlWrite e v s).stg = s.stg := by unfold controlWrite; (repeat' split) <;> simp
@[simp] theorem controlWrite_auc (e : Bool) (v : RegWord) : (controlWrite e v s).auc = s.auc := by unfold controlWrite; (repeat' split) <;> simp
@[simp] theorem controlWrite_evu (e : Bool) (v : RegWord) : (controlWrite e v s).evu = s.evu := by unfold controlWrite; (repeat' split) <;> simp
@[simp] theorem controlWrite_jwr (e : Bool) (v : RegWord) : (controlWrite e v s).jwr = s.jwr := by unfold controlWrite; (repeat' split) <;> simp
@[simp] theorem controlWrite_pending (e : Bool) (v : RegWord) : (controlWrite e v s).pending = s.pending := by unfold controlWrite; (repeat' split) <;> simp

@[simp] theorem beginLinkReset_osc (c : LinkCauses) : (beginLinkReset c s).osc = s.osc := by unfold beginLinkReset; (repeat' split) <;> simp
@[simp] theorem beginLinkReset_tsu (c : LinkCauses) : (beginLinkReset c s).tsu = s.tsu := by unfold beginLinkReset; (repeat' split) <;> simp
@[simp] theorem beginLinkReset_ref (c : LinkCauses) : (beginLinkReset c s).ref = s.ref := by unfold beginLinkReset; (repeat' split) <;> simp
@[simp] theorem beginLinkReset_div (c : LinkCauses) : (beginLinkReset c s).div = s.div := by unfold beginLinkReset; (repeat' split) <;> simp
@[simp] theorem beginLinkReset_taps (c : LinkCauses) : (beginLinkReset c s).taps = s.taps := by unfold beginLinkReset; (repeat' split) <;> simp
@[simp] theorem beginLinkReset_seq (c : LinkCauses) : (beginLinkReset c s).seq = s.seq := by unfold beginLinkReset; (repeat' split) <;> simp
@[simp] theorem beginLinkReset_stg (c : LinkCauses) : (beginLinkReset c s).stg = s.stg := by unfold beginLinkReset; (repeat' split) <;> simp
@[simp] theorem beginLinkReset_auc (c : LinkCauses) : (beginLinkReset c s).auc = s.auc := by unfold beginLinkReset; (repeat' split) <;> simp
@[simp] theorem beginLinkReset_jwr (c : LinkCauses) : (beginLinkReset c s).jwr = s.jwr := by unfold beginLinkReset; (repeat' split) <;> simp
@[simp] theorem beginLinkReset_pending (c : LinkCauses) : (beginLinkReset c s).pending = s.pending := by unfold beginLinkReset; (repeat' split) <;> simp

@[simp] theorem linkResetRecord_osc (c : LinkCauses) : (linkResetRecord c s).osc = s.osc := by unfold linkResetRecord; (repeat' split) <;> simp
@[simp] theorem linkResetRecord_tsu (c : LinkCauses) : (linkResetRecord c s).tsu = s.tsu := by unfold linkResetRecord; (repeat' split) <;> simp
@[simp] theorem linkResetRecord_ref (c : LinkCauses) : (linkResetRecord c s).ref = s.ref := by unfold linkResetRecord; (repeat' split) <;> simp
@[simp] theorem linkResetRecord_div (c : LinkCauses) : (linkResetRecord c s).div = s.div := by unfold linkResetRecord; (repeat' split) <;> simp
@[simp] theorem linkResetRecord_taps (c : LinkCauses) : (linkResetRecord c s).taps = s.taps := by unfold linkResetRecord; (repeat' split) <;> simp
@[simp] theorem linkResetRecord_seq (c : LinkCauses) : (linkResetRecord c s).seq = s.seq := by unfold linkResetRecord; (repeat' split) <;> simp
@[simp] theorem linkResetRecord_auc (c : LinkCauses) : (linkResetRecord c s).auc = s.auc := by unfold linkResetRecord; (repeat' split) <;> simp
@[simp] theorem linkResetRecord_jwr (c : LinkCauses) : (linkResetRecord c s).jwr = s.jwr := by unfold linkResetRecord; (repeat' split) <;> simp
@[simp] theorem linkResetRecord_arc (c : LinkCauses) : (linkResetRecord c s).arc = s.arc := by unfold linkResetRecord; (repeat' split) <;> simp
@[simp] theorem linkResetRecord_rqp (c : LinkCauses) : (linkResetRecord c s).rqp = s.rqp := by unfold linkResetRecord; (repeat' split) <;> simp
@[simp] theorem linkResetRecord_pending (c : LinkCauses) : (linkResetRecord c s).pending = s.pending := by unfold linkResetRecord; (repeat' split) <;> simp

@[simp] theorem linkResetTakesEffect_osc : (linkResetTakesEffect s).osc = s.osc := by unfold linkResetTakesEffect; (repeat' split) <;> simp
@[simp] theorem linkResetTakesEffect_tsu : (linkResetTakesEffect s).tsu = s.tsu := by unfold linkResetTakesEffect; (repeat' split) <;> simp
@[simp] theorem linkResetTakesEffect_ref : (linkResetTakesEffect s).ref = s.ref := by unfold linkResetTakesEffect; (repeat' split) <;> simp
@[simp] theorem linkResetTakesEffect_div : (linkResetTakesEffect s).div = s.div := by unfold linkResetTakesEffect; (repeat' split) <;> simp
@[simp] theorem linkResetTakesEffect_taps : (linkResetTakesEffect s).taps = s.taps := by unfold linkResetTakesEffect; (repeat' split) <;> simp
@[simp] theorem linkResetTakesEffect_seq : (linkResetTakesEffect s).seq = s.seq := by unfold linkResetTakesEffect; (repeat' split) <;> simp
@[simp] theorem linkResetTakesEffect_auc : (linkResetTakesEffect s).auc = s.auc := by unfold linkResetTakesEffect; (repeat' split) <;> simp
@[simp] theorem linkResetTakesEffect_jwr : (linkResetTakesEffect s).jwr = s.jwr := by unfold linkResetTakesEffect; (repeat' split) <;> simp
@[simp] theorem linkResetTakesEffect_pending : (linkResetTakesEffect s).pending = s.pending := by unfold linkResetTakesEffect; (repeat' split) <;> simp

@[simp] theorem noteWrite_osc (ok : Bool) : (noteWrite ok s).osc = s.osc := by unfold noteWrite; (repeat' split) <;> simp
@[simp] theorem noteWrite_tsu (ok : Bool) : (noteWrite ok s).tsu = s.tsu := by unfold noteWrite; (repeat' split) <;> simp
@[simp] theorem noteWrite_ref (ok : Bool) : (noteWrite ok s).ref = s.ref := by unfold noteWrite; (repeat' split) <;> simp
@[simp] theorem noteWrite_div (ok : Bool) : (noteWrite ok s).div = s.div := by unfold noteWrite; (repeat' split) <;> simp
@[simp] theorem noteWrite_taps (ok : Bool) : (noteWrite ok s).taps = s.taps := by unfold noteWrite; (repeat' split) <;> simp
@[simp] theorem noteWrite_seq (ok : Bool) : (noteWrite ok s).seq = s.seq := by unfold noteWrite; (repeat' split) <;> simp
@[simp] theorem noteWrite_stg (ok : Bool) : (noteWrite ok s).stg = s.stg := by unfold noteWrite; (repeat' split) <;> simp
@[simp] theorem noteWrite_auc (ok : Bool) : (noteWrite ok s).auc = s.auc := by unfold noteWrite; (repeat' split) <;> simp
@[simp] theorem noteWrite_evu (ok : Bool) : (noteWrite ok s).evu = s.evu := by unfold noteWrite; (repeat' split) <;> simp
@[simp] theorem noteWrite_jwr (ok : Bool) : (noteWrite ok s).jwr = s.jwr := by unfold noteWrite; (repeat' split) <;> simp
@[simp] theorem noteWrite_rqp (ok : Bool) : (noteWrite ok s).rqp = s.rqp := by unfold noteWrite; (repeat' split) <;> simp
@[simp] theorem noteWrite_pending (ok : Bool) : (noteWrite ok s).pending = s.pending := by unfold noteWrite; (repeat' split) <;> simp

@[simp] theorem statusWriteComplete_osc (ok : Bool) : (statusWriteComplete ok s).osc = s.osc := by unfold statusWriteComplete; (repeat' split) <;> simp
@[simp] theorem statusWriteComplete_tsu (ok : Bool) : (statusWriteComplete ok s).tsu = s.tsu := by unfold statusWriteComplete; (repeat' split) <;> simp
@[simp] theorem statusWriteComplete_ref (ok : Bool) : (statusWriteComplete ok s).ref = s.ref := by unfold statusWriteComplete; (repeat' split) <;> simp
@[simp] theorem statusWriteComplete_div (ok : Bool) : (statusWriteComplete ok s).div = s.div := by unfold statusWriteComplete; (repeat' split) <;> simp
@[simp] theorem statusWriteComplete_taps (ok : Bool) : (statusWriteComplete ok s).taps = s.taps := by unfold statusWriteComplete; (repeat' split) <;> simp
@[simp] theorem statusWriteComplete_seq (ok : Bool) : (statusWriteComplete ok s).seq = s.seq := by unfold statusWriteComplete; (repeat' split) <;> simp
@[simp] theorem statusWriteComplete_stg (ok : Bool) : (statusWriteComplete ok s).stg = s.stg := by unfold statusWriteComplete; (repeat' split) <;> simp
@[simp] theorem statusWriteComplete_auc (ok : Bool) : (statusWriteComplete ok s).auc = s.auc := by unfold statusWriteComplete; (repeat' split) <;> simp
@[simp] theorem statusWriteComplete_evu (ok : Bool) : (statusWriteComplete ok s).evu = s.evu := by unfold statusWriteComplete; (repeat' split) <;> simp
@[simp] theorem statusWriteComplete_jwr (ok : Bool) : (statusWriteComplete ok s).jwr = s.jwr := by unfold statusWriteComplete; (repeat' split) <;> simp
@[simp] theorem statusWriteComplete_rqp (ok : Bool) : (statusWriteComplete ok s).rqp = s.rqp := by unfold statusWriteComplete; (repeat' split) <;> simp
@[simp] theorem statusWriteComplete_pending (ok : Bool) : (statusWriteComplete ok s).pending = s.pending := by unfold statusWriteComplete; (repeat' split) <;> simp

@[simp] theorem entryWriteComplete_osc (w : Nat) (ok : Bool) : (entryWriteComplete w ok s).osc = s.osc := by unfold entryWriteComplete; (repeat' split) <;> simp
@[simp] theorem entryWriteComplete_tsu (w : Nat) (ok : Bool) : (entryWriteComplete w ok s).tsu = s.tsu := by unfold entryWriteComplete; (repeat' split) <;> simp
@[simp] theorem entryWriteComplete_ref (w : Nat) (ok : Bool) : (entryWriteComplete w ok s).ref = s.ref := by unfold entryWriteComplete; (repeat' split) <;> simp
@[simp] theorem entryWriteComplete_div (w : Nat) (ok : Bool) : (entryWriteComplete w ok s).div = s.div := by unfold entryWriteComplete; (repeat' split) <;> simp
@[simp] theorem entryWriteComplete_taps (w : Nat) (ok : Bool) : (entryWriteComplete w ok s).taps = s.taps := by unfold entryWriteComplete; (repeat' split) <;> simp
@[simp] theorem entryWriteComplete_seq (w : Nat) (ok : Bool) : (entryWriteComplete w ok s).seq = s.seq := by unfold entryWriteComplete; (repeat' split) <;> simp
@[simp] theorem entryWriteComplete_stg (w : Nat) (ok : Bool) : (entryWriteComplete w ok s).stg = s.stg := by unfold entryWriteComplete; (repeat' split) <;> simp
@[simp] theorem entryWriteComplete_auc (w : Nat) (ok : Bool) : (entryWriteComplete w ok s).auc = s.auc := by unfold entryWriteComplete; (repeat' split) <;> simp
@[simp] theorem entryWriteComplete_evu (w : Nat) (ok : Bool) : (entryWriteComplete w ok s).evu = s.evu := by unfold entryWriteComplete; (repeat' split) <;> simp
@[simp] theorem entryWriteComplete_jwr (w : Nat) (ok : Bool) : (entryWriteComplete w ok s).jwr = s.jwr := by unfold entryWriteComplete; (repeat' split) <;> simp
@[simp] theorem entryWriteComplete_rqp (w : Nat) (ok : Bool) : (entryWriteComplete w ok s).rqp = s.rqp := by unfold entryWriteComplete; (repeat' split) <;> simp
@[simp] theorem entryWriteComplete_pending (w : Nat) (ok : Bool) : (entryWriteComplete w ok s).pending = s.pending := by unfold entryWriteComplete; (repeat' split) <;> simp

@[simp] theorem requestSegmentTake_osc : (requestSegmentTake s).osc = s.osc := by unfold requestSegmentTake; (repeat' split) <;> simp
@[simp] theorem requestSegmentTake_tsu : (requestSegmentTake s).tsu = s.tsu := by unfold requestSegmentTake; (repeat' split) <;> simp
@[simp] theorem requestSegmentTake_ref : (requestSegmentTake s).ref = s.ref := by unfold requestSegmentTake; (repeat' split) <;> simp
@[simp] theorem requestSegmentTake_div : (requestSegmentTake s).div = s.div := by unfold requestSegmentTake; (repeat' split) <;> simp
@[simp] theorem requestSegmentTake_taps : (requestSegmentTake s).taps = s.taps := by unfold requestSegmentTake; (repeat' split) <;> simp
@[simp] theorem requestSegmentTake_seq : (requestSegmentTake s).seq = s.seq := by unfold requestSegmentTake; (repeat' split) <;> simp
@[simp] theorem requestSegmentTake_stg : (requestSegmentTake s).stg = s.stg := by unfold requestSegmentTake; (repeat' split) <;> simp
@[simp] theorem requestSegmentTake_auc : (requestSegmentTake s).auc = s.auc := by unfold requestSegmentTake; (repeat' split) <;> simp
@[simp] theorem requestSegmentTake_evu : (requestSegmentTake s).evu = s.evu := by unfold requestSegmentTake; (repeat' split) <;> simp
@[simp] theorem requestSegmentTake_jwr : (requestSegmentTake s).jwr = s.jwr := by unfold requestSegmentTake; (repeat' split) <;> simp
@[simp] theorem requestSegmentTake_pending : (requestSegmentTake s).pending = s.pending := by unfold requestSegmentTake; (repeat' split) <;> simp

@[simp] theorem endSegment_osc (i : Fin 64) (e : EntryState) (r : SegReason) (f : Nat) : (endSegment i e r f s).osc = s.osc := by simp [endSegment]
@[simp] theorem endSegment_tsu (i : Fin 64) (e : EntryState) (r : SegReason) (f : Nat) : (endSegment i e r f s).tsu = s.tsu := by simp [endSegment]
@[simp] theorem endSegment_ref (i : Fin 64) (e : EntryState) (r : SegReason) (f : Nat) : (endSegment i e r f s).ref = s.ref := by simp [endSegment]
@[simp] theorem endSegment_div (i : Fin 64) (e : EntryState) (r : SegReason) (f : Nat) : (endSegment i e r f s).div = s.div := by simp [endSegment]
@[simp] theorem endSegment_taps (i : Fin 64) (e : EntryState) (r : SegReason) (f : Nat) : (endSegment i e r f s).taps = s.taps := by simp [endSegment]
@[simp] theorem endSegment_seq (i : Fin 64) (e : EntryState) (r : SegReason) (f : Nat) : (endSegment i e r f s).seq = s.seq := by simp [endSegment]
@[simp] theorem endSegment_stg (i : Fin 64) (e : EntryState) (r : SegReason) (f : Nat) : (endSegment i e r f s).stg = s.stg := by simp [endSegment]
@[simp] theorem endSegment_auc (i : Fin 64) (e : EntryState) (r : SegReason) (f : Nat) : (endSegment i e r f s).auc = s.auc := by simp [endSegment]
@[simp] theorem endSegment_evu (i : Fin 64) (e : EntryState) (r : SegReason) (f : Nat) : (endSegment i e r f s).evu = s.evu := by simp [endSegment]
@[simp] theorem endSegment_jwr (i : Fin 64) (e : EntryState) (r : SegReason) (f : Nat) : (endSegment i e r f s).jwr = s.jwr := by simp [endSegment]
@[simp] theorem endSegment_pending (i : Fin 64) (e : EntryState) (r : SegReason) (f : Nat) : (endSegment i e r f s).pending = s.pending := by simp [endSegment]

@[simp] theorem endCurrent_osc (e : EntryState) (r : SegReason) (f : Nat) : (endCurrent e r f s).osc = s.osc := by unfold endCurrent; (repeat' split) <;> simp
@[simp] theorem endCurrent_tsu (e : EntryState) (r : SegReason) (f : Nat) : (endCurrent e r f s).tsu = s.tsu := by unfold endCurrent; (repeat' split) <;> simp
@[simp] theorem endCurrent_ref (e : EntryState) (r : SegReason) (f : Nat) : (endCurrent e r f s).ref = s.ref := by unfold endCurrent; (repeat' split) <;> simp
@[simp] theorem endCurrent_div (e : EntryState) (r : SegReason) (f : Nat) : (endCurrent e r f s).div = s.div := by unfold endCurrent; (repeat' split) <;> simp
@[simp] theorem endCurrent_taps (e : EntryState) (r : SegReason) (f : Nat) : (endCurrent e r f s).taps = s.taps := by unfold endCurrent; (repeat' split) <;> simp
@[simp] theorem endCurrent_seq (e : EntryState) (r : SegReason) (f : Nat) : (endCurrent e r f s).seq = s.seq := by unfold endCurrent; (repeat' split) <;> simp
@[simp] theorem endCurrent_stg (e : EntryState) (r : SegReason) (f : Nat) : (endCurrent e r f s).stg = s.stg := by unfold endCurrent; (repeat' split) <;> simp
@[simp] theorem endCurrent_auc (e : EntryState) (r : SegReason) (f : Nat) : (endCurrent e r f s).auc = s.auc := by unfold endCurrent; (repeat' split) <;> simp
@[simp] theorem endCurrent_evu (e : EntryState) (r : SegReason) (f : Nat) : (endCurrent e r f s).evu = s.evu := by unfold endCurrent; (repeat' split) <;> simp
@[simp] theorem endCurrent_jwr (e : EntryState) (r : SegReason) (f : Nat) : (endCurrent e r f s).jwr = s.jwr := by unfold endCurrent; (repeat' split) <;> simp
@[simp] theorem endCurrent_pending (e : EntryState) (r : SegReason) (f : Nat) : (endCurrent e r f s).pending = s.pending := by unfold endCurrent; (repeat' split) <;> simp

@[simp] theorem slotReadComplete_osc (b : Option (List Byte)) : (slotReadComplete b s).osc = s.osc := by unfold slotReadComplete; (repeat' split) <;> simp
@[simp] theorem slotReadComplete_tsu (b : Option (List Byte)) : (slotReadComplete b s).tsu = s.tsu := by unfold slotReadComplete; (repeat' split) <;> simp
@[simp] theorem slotReadComplete_ref (b : Option (List Byte)) : (slotReadComplete b s).ref = s.ref := by unfold slotReadComplete; (repeat' split) <;> simp
@[simp] theorem slotReadComplete_div (b : Option (List Byte)) : (slotReadComplete b s).div = s.div := by unfold slotReadComplete; (repeat' split) <;> simp
@[simp] theorem slotReadComplete_taps (b : Option (List Byte)) : (slotReadComplete b s).taps = s.taps := by unfold slotReadComplete; (repeat' split) <;> simp
@[simp] theorem slotReadComplete_seq (b : Option (List Byte)) : (slotReadComplete b s).seq = s.seq := by unfold slotReadComplete; (repeat' split) <;> simp
@[simp] theorem slotReadComplete_stg (b : Option (List Byte)) : (slotReadComplete b s).stg = s.stg := by unfold slotReadComplete; (repeat' split) <;> simp
@[simp] theorem slotReadComplete_auc (b : Option (List Byte)) : (slotReadComplete b s).auc = s.auc := by unfold slotReadComplete; (repeat' split) <;> simp
@[simp] theorem slotReadComplete_evu (b : Option (List Byte)) : (slotReadComplete b s).evu = s.evu := by unfold slotReadComplete; (repeat' split) <;> simp
@[simp] theorem slotReadComplete_jwr (b : Option (List Byte)) : (slotReadComplete b s).jwr = s.jwr := by unfold slotReadComplete; (repeat' split) <;> simp
@[simp] theorem slotReadComplete_pending (b : Option (List Byte)) : (slotReadComplete b s).pending = s.pending := by unfold slotReadComplete; (repeat' split) <;> simp

@[simp] theorem slotDone_osc : (slotDone s).osc = s.osc := by unfold slotDone; dsimp only; (repeat' split) <;> simp
@[simp] theorem slotDone_tsu : (slotDone s).tsu = s.tsu := by unfold slotDone; dsimp only; (repeat' split) <;> simp
@[simp] theorem slotDone_ref : (slotDone s).ref = s.ref := by unfold slotDone; dsimp only; (repeat' split) <;> simp
@[simp] theorem slotDone_div : (slotDone s).div = s.div := by unfold slotDone; dsimp only; (repeat' split) <;> simp
@[simp] theorem slotDone_taps : (slotDone s).taps = s.taps := by unfold slotDone; dsimp only; (repeat' split) <;> simp
@[simp] theorem slotDone_seq : (slotDone s).seq = s.seq := by unfold slotDone; dsimp only; (repeat' split) <;> simp
@[simp] theorem slotDone_stg : (slotDone s).stg = s.stg := by unfold slotDone; dsimp only; (repeat' split) <;> simp
@[simp] theorem slotDone_auc : (slotDone s).auc = s.auc := by unfold slotDone; dsimp only; (repeat' split) <;> simp
@[simp] theorem slotDone_evu : (slotDone s).evu = s.evu := by unfold slotDone; dsimp only; (repeat' split) <;> simp
@[simp] theorem slotDone_jwr : (slotDone s).jwr = s.jwr := by unfold slotDone; dsimp only; (repeat' split) <;> simp
@[simp] theorem slotDone_pending : (slotDone s).pending = s.pending := by unfold slotDone; dsimp only; (repeat' split) <;> simp

@[simp] theorem currentWriteComplete_osc (o : ReqOutcome) (rest : List LinkWrite) (ok : Bool) :
    (currentWriteComplete o rest ok s).osc = s.osc := by unfold currentWriteComplete; (repeat' split) <;> simp
@[simp] theorem currentWriteComplete_tsu (o : ReqOutcome) (rest : List LinkWrite) (ok : Bool) :
    (currentWriteComplete o rest ok s).tsu = s.tsu := by unfold currentWriteComplete; (repeat' split) <;> simp
@[simp] theorem currentWriteComplete_ref (o : ReqOutcome) (rest : List LinkWrite) (ok : Bool) :
    (currentWriteComplete o rest ok s).ref = s.ref := by unfold currentWriteComplete; (repeat' split) <;> simp
@[simp] theorem currentWriteComplete_div (o : ReqOutcome) (rest : List LinkWrite) (ok : Bool) :
    (currentWriteComplete o rest ok s).div = s.div := by unfold currentWriteComplete; (repeat' split) <;> simp
@[simp] theorem currentWriteComplete_taps (o : ReqOutcome) (rest : List LinkWrite) (ok : Bool) :
    (currentWriteComplete o rest ok s).taps = s.taps := by unfold currentWriteComplete; (repeat' split) <;> simp
@[simp] theorem currentWriteComplete_seq (o : ReqOutcome) (rest : List LinkWrite) (ok : Bool) :
    (currentWriteComplete o rest ok s).seq = s.seq := by unfold currentWriteComplete; (repeat' split) <;> simp
@[simp] theorem currentWriteComplete_stg (o : ReqOutcome) (rest : List LinkWrite) (ok : Bool) :
    (currentWriteComplete o rest ok s).stg = s.stg := by unfold currentWriteComplete; (repeat' split) <;> simp
@[simp] theorem currentWriteComplete_auc (o : ReqOutcome) (rest : List LinkWrite) (ok : Bool) :
    (currentWriteComplete o rest ok s).auc = s.auc := by unfold currentWriteComplete; (repeat' split) <;> simp
@[simp] theorem currentWriteComplete_evu (o : ReqOutcome) (rest : List LinkWrite) (ok : Bool) :
    (currentWriteComplete o rest ok s).evu = s.evu := by unfold currentWriteComplete; (repeat' split) <;> simp
@[simp] theorem currentWriteComplete_jwr (o : ReqOutcome) (rest : List LinkWrite) (ok : Bool) :
    (currentWriteComplete o rest ok s).jwr = s.jwr := by unfold currentWriteComplete; (repeat' split) <;> simp
@[simp] theorem currentWriteComplete_pending (o : ReqOutcome) (rest : List LinkWrite) (ok : Bool) :
    (currentWriteComplete o rest ok s).pending = s.pending := by unfold currentWriteComplete; (repeat' split) <;> simp

@[simp] theorem slotWriteComplete_osc (i : Nat) (ok : Bool) : (slotWriteComplete i ok s).osc = s.osc := by unfold slotWriteComplete; dsimp only; (repeat' split) <;> simp
@[simp] theorem slotWriteComplete_tsu (i : Nat) (ok : Bool) : (slotWriteComplete i ok s).tsu = s.tsu := by unfold slotWriteComplete; dsimp only; (repeat' split) <;> simp
@[simp] theorem slotWriteComplete_ref (i : Nat) (ok : Bool) : (slotWriteComplete i ok s).ref = s.ref := by unfold slotWriteComplete; dsimp only; (repeat' split) <;> simp
@[simp] theorem slotWriteComplete_div (i : Nat) (ok : Bool) : (slotWriteComplete i ok s).div = s.div := by unfold slotWriteComplete; dsimp only; (repeat' split) <;> simp
@[simp] theorem slotWriteComplete_taps (i : Nat) (ok : Bool) : (slotWriteComplete i ok s).taps = s.taps := by unfold slotWriteComplete; dsimp only; (repeat' split) <;> simp
@[simp] theorem slotWriteComplete_seq (i : Nat) (ok : Bool) : (slotWriteComplete i ok s).seq = s.seq := by unfold slotWriteComplete; dsimp only; (repeat' split) <;> simp
@[simp] theorem slotWriteComplete_stg (i : Nat) (ok : Bool) : (slotWriteComplete i ok s).stg = s.stg := by unfold slotWriteComplete; dsimp only; (repeat' split) <;> simp
@[simp] theorem slotWriteComplete_auc (i : Nat) (ok : Bool) : (slotWriteComplete i ok s).auc = s.auc := by unfold slotWriteComplete; dsimp only; (repeat' split) <;> simp
@[simp] theorem slotWriteComplete_evu (i : Nat) (ok : Bool) : (slotWriteComplete i ok s).evu = s.evu := by unfold slotWriteComplete; dsimp only; (repeat' split) <;> simp
@[simp] theorem slotWriteComplete_jwr (i : Nat) (ok : Bool) : (slotWriteComplete i ok s).jwr = s.jwr := by unfold slotWriteComplete; dsimp only; (repeat' split) <;> simp
@[simp] theorem slotWriteComplete_pending (i : Nat) (ok : Bool) : (slotWriteComplete i ok s).pending = s.pending := by unfold slotWriteComplete; dsimp only; (repeat' split) <;> simp

end Sys2Proof.Machine
end

