-- ==== Sys2Proof/Laws/Parts.lean ====
section
/-! SUPPORT. The parts of a block that a shared operation leaves as they are, where it changes other parts of that block. -/

namespace Sys2Proof.Machine

variable (s : State)

@[simp] theorem Arc.raise_area (a : Arc) (c : Cause) : (a.raise c).area = a.area := by unfold Arc.raise; (repeat' split) <;> rfl
@[simp] theorem Arc.raise_enable (a : Arc) (c : Cause) : (a.raise c).enable = a.enable := by unfold Arc.raise; (repeat' split) <;> rfl
@[simp] theorem Arc.raise_mask (a : Arc) (c : Cause) : (a.raise c).mask = a.mask := by unfold Arc.raise; (repeat' split) <;> rfl
@[simp] theorem Arc.raise_copies (a : Arc) (c : Cause) : (a.raise c).copies = a.copies := by unfold Arc.raise; (repeat' split) <;> rfl
@[simp] theorem Arc.raise_lent (a : Arc) (c : Cause) : (a.raise c).lent = a.lent := by unfold Arc.raise; (repeat' split) <;> rfl
@[simp] theorem Arc.raise_openSeg (a : Arc) (c : Cause) : (a.raise c).openSeg = a.openSeg := by unfold Arc.raise; (repeat' split) <;> rfl
@[simp] theorem Arc.raise_closing (a : Arc) (c : Cause) : (a.raise c).closing = a.closing := by unfold Arc.raise; (repeat' split) <;> rfl
@[simp] theorem Arc.raise_requests (a : Arc) (c : Cause) : (a.raise c).requests = a.requests := by unfold Arc.raise; (repeat' split) <;> rfl
@[simp] theorem Arc.raise_linkReset (a : Arc) (c : Cause) : (a.raise c).linkReset = a.linkReset := by unfold Arc.raise; (repeat' split) <;> rfl
@[simp] theorem Arc.raise_hand (a : Arc) (c : Cause) : (a.raise c).hand = a.hand := by unfold Arc.raise; (repeat' split) <;> rfl
@[simp] theorem Arc.raise_handRead (a : Arc) (c : Cause) : (a.raise c).handRead = a.handRead := by unfold Arc.raise; (repeat' split) <;> rfl
@[simp] theorem Arc.raise_handHeld (a : Arc) (c : Cause) : (a.raise c).handHeld = a.handHeld := by unfold Arc.raise; (repeat' split) <;> rfl
@[simp] theorem Arc.raise_entryWrites (a : Arc) (c : Cause) : (a.raise c).entryWrites = a.entryWrites := by unfold Arc.raise; (repeat' split) <;> rfl
@[simp] theorem Arc.raise_lastRefused (a : Arc) (c : Cause) : (a.raise c).lastRefused = a.lastRefused := by unfold Arc.raise; (repeat' split) <;> rfl
@[simp] theorem Evu.onAcc_chain (e : Evu) (f : Accum → Accum) : (e.onAcc f).chain = e.chain := rfl
@[simp] theorem Evu.onAcc_queue (e : Evu) (f : Accum → Accum) : (e.onAcc f).queue = e.queue := rfl
@[simp] theorem Evu.onAcc_acc (e : Evu) (f : Accum → Accum) : (e.onAcc f).acc = f e.acc := rfl
@[simp] theorem Evu.onAcc_start (e : Evu) (f : Accum → Accum) : (e.onAcc f).start = e.start := rfl
@[simp] theorem Evu.onAcc_boundary (e : Evu) (f : Accum → Accum) : (e.onAcc f).boundary = e.boundary := rfl
@[simp] theorem Evu.onAcc_pendingReset (e : Evu) (f : Accum → Accum) : (e.onAcc f).pendingReset = e.pendingReset := rfl

@[simp] theorem raise_arc_area (c : Cause) : (raise c s).arc.area = s.arc.area := by simp [raise]
@[simp] theorem raise_arc_enable (c : Cause) : (raise c s).arc.enable = s.arc.enable := by simp [raise]
@[simp] theorem raise_arc_mask (c : Cause) : (raise c s).arc.mask = s.arc.mask := by simp [raise]
@[simp] theorem raise_arc_copies (c : Cause) : (raise c s).arc.copies = s.arc.copies := by simp [raise]
@[simp] theorem raise_arc_lent (c : Cause) : (raise c s).arc.lent = s.arc.lent := by simp [raise]
@[simp] theorem raise_arc_openSeg (c : Cause) : (raise c s).arc.openSeg = s.arc.openSeg := by simp [raise]
@[simp] theorem raise_arc_closing (c : Cause) : (raise c s).arc.closing = s.arc.closing := by simp [raise]
@[simp] theorem raise_arc_requests (c : Cause) : (raise c s).arc.requests = s.arc.requests := by simp [raise]
@[simp] theorem raise_arc_linkReset (c : Cause) : (raise c s).arc.linkReset = s.arc.linkReset := by simp [raise]
@[simp] theorem raise_arc_hand (c : Cause) : (raise c s).arc.hand = s.arc.hand := by simp [raise]
@[simp] theorem raise_arc_handRead (c : Cause) : (raise c s).arc.handRead = s.arc.handRead := by simp [raise]
@[simp] theorem raise_arc_handHeld (c : Cause) : (raise c s).arc.handHeld = s.arc.handHeld := by simp [raise]
@[simp] theorem raise_arc_entryWrites (c : Cause) : (raise c s).arc.entryWrites = s.arc.entryWrites := by simp [raise]
@[simp] theorem raise_arc_lastRefused (c : Cause) : (raise c s).arc.lastRefused = s.arc.lastRefused := by simp [raise]

@[simp] theorem issueStatus_arc_area : (issueStatus s).arc.area = s.arc.area := rfl
@[simp] theorem issueStatus_arc_enable : (issueStatus s).arc.enable = s.arc.enable := rfl
@[simp] theorem issueStatus_arc_mask : (issueStatus s).arc.mask = s.arc.mask := rfl
@[simp] theorem issueStatus_arc_copies : (issueStatus s).arc.copies = s.arc.copies := rfl
@[simp] theorem issueStatus_arc_lent : (issueStatus s).arc.lent = s.arc.lent := rfl
@[simp] theorem issueStatus_arc_openSeg : (issueStatus s).arc.openSeg = s.arc.openSeg := rfl
@[simp] theorem issueStatus_arc_closing : (issueStatus s).arc.closing = s.arc.closing := rfl
@[simp] theorem issueStatus_arc_requests : (issueStatus s).arc.requests = s.arc.requests := rfl
@[simp] theorem issueStatus_arc_linkReset : (issueStatus s).arc.linkReset = s.arc.linkReset := rfl
@[simp] theorem issueStatus_arc_hand : (issueStatus s).arc.hand = s.arc.hand := rfl
@[simp] theorem issueStatus_arc_handRead : (issueStatus s).arc.handRead = s.arc.handRead := rfl
@[simp] theorem issueStatus_arc_handHeld : (issueStatus s).arc.handHeld = s.arc.handHeld := rfl
@[simp] theorem issueStatus_arc_entryWrites : (issueStatus s).arc.entryWrites = s.arc.entryWrites := rfl
@[simp] theorem issueStatus_arc_lastRefused : (issueStatus s).arc.lastRefused = s.arc.lastRefused := rfl

@[simp] theorem statusEvent_arc_area : (statusEvent s).arc.area = s.arc.area := by unfold statusEvent; (repeat' split) <;> simp
@[simp] theorem statusEvent_arc_enable : (statusEvent s).arc.enable = s.arc.enable := by unfold statusEvent; (repeat' split) <;> simp
@[simp] theorem statusEvent_arc_mask : (statusEvent s).arc.mask = s.arc.mask := by unfold statusEvent; (repeat' split) <;> simp
@[simp] theorem statusEvent_arc_copies : (statusEvent s).arc.copies = s.arc.copies := by unfold statusEvent; (repeat' split) <;> simp
@[simp] theorem statusEvent_arc_lent : (statusEvent s).arc.lent = s.arc.lent := by unfold statusEvent; (repeat' split) <;> simp
@[simp] theorem statusEvent_arc_openSeg : (statusEvent s).arc.openSeg = s.arc.openSeg := by unfold statusEvent; (repeat' split) <;> simp
@[simp] theorem statusEvent_arc_closing : (statusEvent s).arc.closing = s.arc.closing := by unfold statusEvent; (repeat' split) <;> simp
@[simp] theorem statusEvent_arc_requests : (statusEvent s).arc.requests = s.arc.requests := by unfold statusEvent; (repeat' split) <;> simp
@[simp] theorem statusEvent_arc_linkReset : (statusEvent s).arc.linkReset = s.arc.linkReset := by unfold statusEvent; (repeat' split) <;> simp
@[simp] theorem statusEvent_arc_hand : (statusEvent s).arc.hand = s.arc.hand := by unfold statusEvent; (repeat' split) <;> simp
@[simp] theorem statusEvent_arc_handRead : (statusEvent s).arc.handRead = s.arc.handRead := by unfold statusEvent; (repeat' split) <;> simp
@[simp] theorem statusEvent_arc_handHeld : (statusEvent s).arc.handHeld = s.arc.handHeld := by unfold statusEvent; (repeat' split) <;> simp
@[simp] theorem statusEvent_arc_entryWrites : (statusEvent s).arc.entryWrites = s.arc.entryWrites := by unfold statusEvent; (repeat' split) <;> simp
@[simp] theorem statusEvent_arc_lastRefused : (statusEvent s).arc.lastRefused = s.arc.lastRefused := by unfold statusEvent; (repeat' split) <;> simp

@[simp] theorem noteStarved_arc_area (st : Stream) : (noteStarved st s).arc.area = s.arc.area := by unfold noteStarved; (repeat' split) <;> simp
@[simp] theorem noteStarved_arc_enable (st : Stream) : (noteStarved st s).arc.enable = s.arc.enable := by unfold noteStarved; (repeat' split) <;> simp
@[simp] theorem noteStarved_arc_mask (st : Stream) : (noteStarved st s).arc.mask = s.arc.mask := by unfold noteStarved; (repeat' split) <;> simp
@[simp] theorem noteStarved_arc_copies (st : Stream) : (noteStarved st s).arc.copies = s.arc.copies := by unfold noteStarved; (repeat' split) <;> simp
@[simp] theorem noteStarved_arc_lent (st : Stream) : (noteStarved st s).arc.lent = s.arc.lent := by unfold noteStarved; (repeat' split) <;> simp
@[simp] theorem noteStarved_arc_openSeg (st : Stream) : (noteStarved st s).arc.openSeg = s.arc.openSeg := by unfold noteStarved; (repeat' split) <;> simp
@[simp] theorem noteStarved_arc_closing (st : Stream) : (noteStarved st s).arc.closing = s.arc.closing := by unfold noteStarved; (repeat' split) <;> simp
@[simp] theorem noteStarved_arc_requests (st : Stream) : (noteStarved st s).arc.requests = s.arc.requests := by unfold noteStarved; (repeat' split) <;> simp
@[simp] theorem noteStarved_arc_linkReset (st : Stream) : (noteStarved st s).arc.linkReset = s.arc.linkReset := by unfold noteStarved; (repeat' split) <;> simp
@[simp] theorem noteStarved_arc_hand (st : Stream) : (noteStarved st s).arc.hand = s.arc.hand := by unfold noteStarved; (repeat' split) <;> simp
@[simp] theorem noteStarved_arc_handRead (st : Stream) : (noteStarved st s).arc.handRead = s.arc.handRead := by unfold noteStarved; (repeat' split) <;> simp
@[simp] theorem noteStarved_arc_handHeld (st : Stream) : (noteStarved st s).arc.handHeld = s.arc.handHeld := by unfold noteStarved; (repeat' split) <;> simp
@[simp] theorem noteStarved_arc_entryWrites (st : Stream) : (noteStarved st s).arc.entryWrites = s.arc.entryWrites := by unfold noteStarved; (repeat' split) <;> simp
@[simp] theorem noteStarved_arc_lastRefused (st : Stream) : (noteStarved st s).arc.lastRefused = s.arc.lastRefused := by unfold noteStarved; (repeat' split) <;> simp

@[simp] theorem checkStarved_arc_area : (checkStarved s).arc.area = s.arc.area := by simp [checkStarved]
@[simp] theorem checkStarved_arc_enable : (checkStarved s).arc.enable = s.arc.enable := by simp [checkStarved]
@[simp] theorem checkStarved_arc_mask : (checkStarved s).arc.mask = s.arc.mask := by simp [checkStarved]
@[simp] theorem checkStarved_arc_copies : (checkStarved s).arc.copies = s.arc.copies := by simp [checkStarved]
@[simp] theorem checkStarved_arc_lent : (checkStarved s).arc.lent = s.arc.lent := by simp [checkStarved]
@[simp] theorem checkStarved_arc_openSeg : (checkStarved s).arc.openSeg = s.arc.openSeg := by simp [checkStarved]
@[simp] theorem checkStarved_arc_closing : (checkStarved s).arc.closing = s.arc.closing := by simp [checkStarved]
@[simp] theorem checkStarved_arc_requests : (checkStarved s).arc.requests = s.arc.requests := by simp [checkStarved]
@[simp] theorem checkStarved_arc_linkReset : (checkStarved s).arc.linkReset = s.arc.linkReset := by simp [checkStarved]
@[simp] theorem checkStarved_arc_hand : (checkStarved s).arc.hand = s.arc.hand := by simp [checkStarved]
@[simp] theorem checkStarved_arc_handRead : (checkStarved s).arc.handRead = s.arc.handRead := by simp [checkStarved]
@[simp] theorem checkStarved_arc_handHeld : (checkStarved s).arc.handHeld = s.arc.handHeld := by simp [checkStarved]
@[simp] theorem checkStarved_arc_entryWrites : (checkStarved s).arc.entryWrites = s.arc.entryWrites := by simp [checkStarved]
@[simp] theorem checkStarved_arc_lastRefused : (checkStarved s).arc.lastRefused = s.arc.lastRefused := by simp [checkStarved]

@[simp] theorem pushEvidence_stg_staged (b : EvBody) (a : Bool) : (pushEvidence b a s).stg.staged = s.stg.staged := rfl
@[simp] theorem pushEvidence_stg_openGap (b : EvBody) (a : Bool) : (pushEvidence b a s).stg.openGap = s.stg.openGap := rfl
@[simp] theorem pushEvidence_evu_chain (b : EvBody) (a : Bool) : (pushEvidence b a s).evu.chain = s.evu.chain := rfl

@[simp] theorem suppress_evu_chain : (suppress s).evu.chain = s.evu.chain := rfl

@[simp] theorem onAcc_evu_chain (f : Accum → Accum) : (onAcc f s).evu.chain = s.evu.chain := rfl

@[simp] theorem flushReset_stg_staged : (flushReset s).stg.staged = s.stg.staged := by unfold flushReset; (repeat' split) <;> simp
@[simp] theorem flushReset_stg_openGap : (flushReset s).stg.openGap = s.stg.openGap := by unfold flushReset; (repeat' split) <;> simp
@[simp] theorem flushReset_evu_chain : (flushReset s).evu.chain = s.evu.chain := by unfold flushReset; (repeat' split) <;> simp

@[simp] theorem makeEvidence_stg_staged (b : EvBody) : (makeEvidence b s).stg.staged = s.stg.staged := by unfold makeEvidence; (repeat' split) <;> simp
@[simp] theorem makeEvidence_stg_openGap (b : EvBody) : (makeEvidence b s).stg.openGap = s.stg.openGap := by unfold makeEvidence; (repeat' split) <;> simp
@[simp] theorem makeEvidence_evu_chain (b : EvBody) : (makeEvidence b s).evu.chain = s.evu.chain := by unfold makeEvidence; (repeat' split) <;> simp

@[simp] theorem attemptSummary_stg_staged : (attemptSummary s).stg.staged = s.stg.staged := by unfold attemptSummary; dsimp only; (repeat' split) <;> simp
@[simp] theorem attemptSummary_stg_openGap : (attemptSummary s).stg.openGap = s.stg.openGap := by unfold attemptSummary; dsimp only; (repeat' split) <;> simp
@[simp] theorem attemptSummary_evu_chain : (attemptSummary s).evu.chain = s.evu.chain := by unfold attemptSummary; dsimp only; (repeat' split) <;> simp

@[simp] theorem summaryStep_stg_staged : (summaryStep s).stg.staged = s.stg.staged := by unfold summaryStep; (repeat' split) <;> simp
@[simp] theorem summaryStep_stg_openGap : (summaryStep s).stg.openGap = s.stg.openGap := by unfold summaryStep; (repeat' split) <;> simp
@[simp] theorem summaryStep_evu_chain : (summaryStep s).evu.chain = s.evu.chain := by unfold summaryStep; (repeat' split) <;> simp

@[simp] theorem reportClass_arc_area (old : Cls) : (reportClass old s).arc.area = s.arc.area := by unfold reportClass; (repeat' split) <;> simp
@[simp] theorem reportClass_arc_enable (old : Cls) : (reportClass old s).arc.enable = s.arc.enable := by unfold reportClass; (repeat' split) <;> simp
@[simp] theorem reportClass_arc_mask (old : Cls) : (reportClass old s).arc.mask = s.arc.mask := by unfold reportClass; (repeat' split) <;> simp
@[simp] theorem reportClass_arc_copies (old : Cls) : (reportClass old s).arc.copies = s.arc.copies := by unfold reportClass; (repeat' split) <;> simp
@[simp] theorem reportClass_arc_lent (old : Cls) : (reportClass old s).arc.lent = s.arc.lent := by unfold reportClass; (repeat' split) <;> simp
@[simp] theorem reportClass_arc_openSeg (old : Cls) : (reportClass old s).arc.openSeg = s.arc.openSeg := by unfold reportClass; (repeat' split) <;> simp
@[simp] theorem reportClass_arc_closing (old : Cls) : (reportClass old s).arc.closing = s.arc.closing := by unfold reportClass; (repeat' split) <;> simp
@[simp] theorem reportClass_arc_requests (old : Cls) : (reportClass old s).arc.requests = s.arc.requests := by unfold reportClass; (repeat' split) <;> simp
@[simp] theorem reportClass_arc_linkReset (old : Cls) : (reportClass old s).arc.linkReset = s.arc.linkReset := by unfold reportClass; (repeat' split) <;> simp
@[simp] theorem reportClass_arc_hand (old : Cls) : (reportClass old s).arc.hand = s.arc.hand := by unfold reportClass; (repeat' split) <;> simp
@[simp] theorem reportClass_arc_handRead (old : Cls) : (reportClass old s).arc.handRead = s.arc.handRead := by unfold reportClass; (repeat' split) <;> simp
@[simp] theorem reportClass_arc_handHeld (old : Cls) : (reportClass old s).arc.handHeld = s.arc.handHeld := by unfold reportClass; (repeat' split) <;> simp
@[simp] theorem reportClass_arc_entryWrites (old : Cls) : (reportClass old s).arc.entryWrites = s.arc.entryWrites := by unfold reportClass; (repeat' split) <;> simp
@[simp] theorem reportClass_arc_lastRefused (old : Cls) : (reportClass old s).arc.lastRefused = s.arc.lastRefused := by unfold reportClass; (repeat' split) <;> simp
@[simp] theorem reportClass_stg_staged (old : Cls) : (reportClass old s).stg.staged = s.stg.staged := by unfold reportClass; (repeat' split) <;> simp
@[simp] theorem reportClass_stg_openGap (old : Cls) : (reportClass old s).stg.openGap = s.stg.openGap := by unfold reportClass; (repeat' split) <;> simp
@[simp] theorem reportClass_evu_chain (old : Cls) : (reportClass old s).evu.chain = s.evu.chain := by unfold reportClass; (repeat' split) <;> simp

@[simp] theorem reportEvaluation_arc_area (old : Cls) : (reportEvaluation old s).arc.area = s.arc.area := by simp [reportEvaluation]
@[simp] theorem reportEvaluation_arc_enable (old : Cls) : (reportEvaluation old s).arc.enable = s.arc.enable := by simp [reportEvaluation]
@[simp] theorem reportEvaluation_arc_mask (old : Cls) : (reportEvaluation old s).arc.mask = s.arc.mask := by simp [reportEvaluation]
@[simp] theorem reportEvaluation_arc_copies (old : Cls) : (reportEvaluation old s).arc.copies = s.arc.copies := by simp [reportEvaluation]
@[simp] theorem reportEvaluation_arc_lent (old : Cls) : (reportEvaluation old s).arc.lent = s.arc.lent := by simp [reportEvaluation]
@[simp] theorem reportEvaluation_arc_openSeg (old : Cls) : (reportEvaluation old s).arc.openSeg = s.arc.openSeg := by simp [reportEvaluation]
@[simp] theorem reportEvaluation_arc_closing (old : Cls) : (reportEvaluation old s).arc.closing = s.arc.closing := by simp [reportEvaluation]
@[simp] theorem reportEvaluation_arc_requests (old : Cls) : (reportEvaluation old s).arc.requests = s.arc.requests := by simp [reportEvaluation]
@[simp] theorem reportEvaluation_arc_linkReset (old : Cls) : (reportEvaluation old s).arc.linkReset = s.arc.linkReset := by simp [reportEvaluation]
@[simp] theorem reportEvaluation_arc_hand (old : Cls) : (reportEvaluation old s).arc.hand = s.arc.hand := by simp [reportEvaluation]
@[simp] theorem reportEvaluation_arc_handRead (old : Cls) : (reportEvaluation old s).arc.handRead = s.arc.handRead := by simp [reportEvaluation]
@[simp] theorem reportEvaluation_arc_handHeld (old : Cls) : (reportEvaluation old s).arc.handHeld = s.arc.handHeld := by simp [reportEvaluation]
@[simp] theorem reportEvaluation_arc_entryWrites (old : Cls) : (reportEvaluation old s).arc.entryWrites = s.arc.entryWrites := by simp [reportEvaluation]
@[simp] theorem reportEvaluation_arc_lastRefused (old : Cls) : (reportEvaluation old s).arc.lastRefused = s.arc.lastRefused := by simp [reportEvaluation]
@[simp] theorem reportEvaluation_stg_staged (old : Cls) : (reportEvaluation old s).stg.staged = s.stg.staged := by simp [reportEvaluation]
@[simp] theorem reportEvaluation_stg_openGap (old : Cls) : (reportEvaluation old s).stg.openGap = s.stg.openGap := by simp [reportEvaluation]
@[simp] theorem reportEvaluation_evu_chain (old : Cls) : (reportEvaluation old s).evu.chain = s.evu.chain := by simp [reportEvaluation]

@[simp] theorem evaluateIn_arc_area (ts : TsState) : (evaluateIn ts s).arc.area = s.arc.area := by simp [evaluateIn]
@[simp] theorem evaluate_arc_area : (evaluate s).arc.area = s.arc.area := by simp [evaluate]
@[simp] theorem evaluateIn_arc_enable (ts : TsState) : (evaluateIn ts s).arc.enable = s.arc.enable := by simp [evaluateIn]
@[simp] theorem evaluate_arc_enable : (evaluate s).arc.enable = s.arc.enable := by simp [evaluate]
@[simp] theorem evaluateIn_arc_mask (ts : TsState) : (evaluateIn ts s).arc.mask = s.arc.mask := by simp [evaluateIn]
@[simp] theorem evaluate_arc_mask : (evaluate s).arc.mask = s.arc.mask := by simp [evaluate]
@[simp] theorem evaluateIn_arc_copies (ts : TsState) : (evaluateIn ts s).arc.copies = s.arc.copies := by simp [evaluateIn]
@[simp] theorem evaluate_arc_copies : (evaluate s).arc.copies = s.arc.copies := by simp [evaluate]
@[simp] theorem evaluateIn_arc_lent (ts : TsState) : (evaluateIn ts s).arc.lent = s.arc.lent := by simp [evaluateIn]
@[simp] theorem evaluate_arc_lent : (evaluate s).arc.lent = s.arc.lent := by simp [evaluate]
@[simp] theorem evaluateIn_arc_openSeg (ts : TsState) : (evaluateIn ts s).arc.openSeg = s.arc.openSeg := by simp [evaluateIn]
@[simp] theorem evaluate_arc_openSeg : (evaluate s).arc.openSeg = s.arc.openSeg := by simp [evaluate]
@[simp] theorem evaluateIn_arc_closing (ts : TsState) : (evaluateIn ts s).arc.closing = s.arc.closing := by simp [evaluateIn]
@[simp] theorem evaluate_arc_closing : (evaluate s).arc.closing = s.arc.closing := by simp [evaluate]
@[simp] theorem evaluateIn_arc_requests (ts : TsState) : (evaluateIn ts s).arc.requests = s.arc.requests := by simp [evaluateIn]
@[simp] theorem evaluate_arc_requests : (evaluate s).arc.requests = s.arc.requests := by simp [evaluate]
@[simp] theorem evaluateIn_arc_linkReset (ts : TsState) : (evaluateIn ts s).arc.linkReset = s.arc.linkReset := by simp [evaluateIn]
@[simp] theorem evaluate_arc_linkReset : (evaluate s).arc.linkReset = s.arc.linkReset := by simp [evaluate]
@[simp] theorem evaluateIn_arc_hand (ts : TsState) : (evaluateIn ts s).arc.hand = s.arc.hand := by simp [evaluateIn]
@[simp] theorem evaluate_arc_hand : (evaluate s).arc.hand = s.arc.hand := by simp [evaluate]
@[simp] theorem evaluateIn_arc_handRead (ts : TsState) : (evaluateIn ts s).arc.handRead = s.arc.handRead := by simp [evaluateIn]
@[simp] theorem evaluate_arc_handRead : (evaluate s).arc.handRead = s.arc.handRead := by simp [evaluate]
@[simp] theorem evaluateIn_arc_handHeld (ts : TsState) : (evaluateIn ts s).arc.handHeld = s.arc.handHeld := by simp [evaluateIn]
@[simp] theorem evaluate_arc_handHeld : (evaluate s).arc.handHeld = s.arc.handHeld := by simp [evaluate]
@[simp] theorem evaluateIn_arc_entryWrites (ts : TsState) : (evaluateIn ts s).arc.entryWrites = s.arc.entryWrites := by simp [evaluateIn]
@[simp] theorem evaluate_arc_entryWrites : (evaluate s).arc.entryWrites = s.arc.entryWrites := by simp [evaluate]
@[simp] theorem evaluateIn_arc_lastRefused (ts : TsState) : (evaluateIn ts s).arc.lastRefused = s.arc.lastRefused := by simp [evaluateIn]
@[simp] theorem evaluate_arc_lastRefused : (evaluate s).arc.lastRefused = s.arc.lastRefused := by simp [evaluate]
@[simp] theorem evaluateIn_stg_staged (ts : TsState) : (evaluateIn ts s).stg.staged = s.stg.staged := by simp [evaluateIn]
@[simp] theorem evaluate_stg_staged : (evaluate s).stg.staged = s.stg.staged := by simp [evaluate]
@[simp] theorem evaluateIn_stg_openGap (ts : TsState) : (evaluateIn ts s).stg.openGap = s.stg.openGap := by simp [evaluateIn]
@[simp] theorem evaluate_stg_openGap : (evaluate s).stg.openGap = s.stg.openGap := by simp [evaluate]
@[simp] theorem evaluateIn_evu_chain (ts : TsState) : (evaluateIn ts s).evu.chain = s.evu.chain := by simp [evaluateIn]
@[simp] theorem evaluate_evu_chain : (evaluate s).evu.chain = s.evu.chain := by simp [evaluate]

@[simp] theorem evaluatePulse_arc_area (uMod : Nat) (theta : Int) : (evaluatePulse uMod theta s).arc.area = s.arc.area := by simp [evaluatePulse]
@[simp] theorem evaluatePulse_arc_enable (uMod : Nat) (theta : Int) : (evaluatePulse uMod theta s).arc.enable = s.arc.enable := by simp [evaluatePulse]
@[simp] theorem evaluatePulse_arc_mask (uMod : Nat) (theta : Int) : (evaluatePulse uMod theta s).arc.mask = s.arc.mask := by simp [evaluatePulse]
@[simp] theorem evaluatePulse_arc_copies (uMod : Nat) (theta : Int) : (evaluatePulse uMod theta s).arc.copies = s.arc.copies := by simp [evaluatePulse]
@[simp] theorem evaluatePulse_arc_lent (uMod : Nat) (theta : Int) : (evaluatePulse uMod theta s).arc.lent = s.arc.lent := by simp [evaluatePulse]
@[simp] theorem evaluatePulse_arc_openSeg (uMod : Nat) (theta : Int) : (evaluatePulse uMod theta s).arc.openSeg = s.arc.openSeg := by simp [evaluatePulse]
@[simp] theorem evaluatePulse_arc_closing (uMod : Nat) (theta : Int) : (evaluatePulse uMod theta s).arc.closing = s.arc.closing := by simp [evaluatePulse]
@[simp] theorem evaluatePulse_arc_requests (uMod : Nat) (theta : Int) : (evaluatePulse uMod theta s).arc.requests = s.arc.requests := by simp [evaluatePulse]
@[simp] theorem evaluatePulse_arc_linkReset (uMod : Nat) (theta : Int) : (evaluatePulse uMod theta s).arc.linkReset = s.arc.linkReset := by simp [evaluatePulse]
@[simp] theorem evaluatePulse_arc_hand (uMod : Nat) (theta : Int) : (evaluatePulse uMod theta s).arc.hand = s.arc.hand := by simp [evaluatePulse]
@[simp] theorem evaluatePulse_arc_handRead (uMod : Nat) (theta : Int) : (evaluatePulse uMod theta s).arc.handRead = s.arc.handRead := by simp [evaluatePulse]
@[simp] theorem evaluatePulse_arc_handHeld (uMod : Nat) (theta : Int) : (evaluatePulse uMod theta s).arc.handHeld = s.arc.handHeld := by simp [evaluatePulse]
@[simp] theorem evaluatePulse_arc_entryWrites (uMod : Nat) (theta : Int) : (evaluatePulse uMod theta s).arc.entryWrites = s.arc.entryWrites := by simp [evaluatePulse]
@[simp] theorem evaluatePulse_arc_lastRefused (uMod : Nat) (theta : Int) : (evaluatePulse uMod theta s).arc.lastRefused = s.arc.lastRefused := by simp [evaluatePulse]
@[simp] theorem evaluatePulse_stg_staged (uMod : Nat) (theta : Int) : (evaluatePulse uMod theta s).stg.staged = s.stg.staged := by simp [evaluatePulse]
@[simp] theorem evaluatePulse_stg_openGap (uMod : Nat) (theta : Int) : (evaluatePulse uMod theta s).stg.openGap = s.stg.openGap := by simp [evaluatePulse]
@[simp] theorem evaluatePulse_evu_chain (uMod : Nat) (theta : Int) : (evaluatePulse uMod theta s).evu.chain = s.evu.chain := by simp [evaluatePulse]

@[simp] theorem beginHoldover_arc_area (u0 : Nat) : (beginHoldover u0 s).arc.area = s.arc.area := by simp [beginHoldover]
@[simp] theorem beginHoldover_arc_enable (u0 : Nat) : (beginHoldover u0 s).arc.enable = s.arc.enable := by simp [beginHoldover]
@[simp] theorem beginHoldover_arc_mask (u0 : Nat) : (beginHoldover u0 s).arc.mask = s.arc.mask := by simp [beginHoldover]
@[simp] theorem beginHoldover_arc_copies (u0 : Nat) : (beginHoldover u0 s).arc.copies = s.arc.copies := by simp [beginHoldover]
@[simp] theorem beginHoldover_arc_lent (u0 : Nat) : (beginHoldover u0 s).arc.lent = s.arc.lent := by simp [beginHoldover]
@[simp] theorem beginHoldover_arc_openSeg (u0 : Nat) : (beginHoldover u0 s).arc.openSeg = s.arc.openSeg := by simp [beginHoldover]
@[simp] theorem beginHoldover_arc_closing (u0 : Nat) : (beginHoldover u0 s).arc.closing = s.arc.closing := by simp [beginHoldover]
@[simp] theorem beginHoldover_arc_requests (u0 : Nat) : (beginHoldover u0 s).arc.requests = s.arc.requests := by simp [beginHoldover]
@[simp] theorem beginHoldover_arc_linkReset (u0 : Nat) : (beginHoldover u0 s).arc.linkReset = s.arc.linkReset := by simp [beginHoldover]
@[simp] theorem beginHoldover_arc_hand (u0 : Nat) : (beginHoldover u0 s).arc.hand = s.arc.hand := by simp [beginHoldover]
@[simp] theorem beginHoldover_arc_handRead (u0 : Nat) : (beginHoldover u0 s).arc.handRead = s.arc.handRead := by simp [beginHoldover]
@[simp] theorem beginHoldover_arc_handHeld (u0 : Nat) : (beginHoldover u0 s).arc.handHeld = s.arc.handHeld := by simp [beginHoldover]
@[simp] theorem beginHoldover_arc_entryWrites (u0 : Nat) : (beginHoldover u0 s).arc.entryWrites = s.arc.entryWrites := by simp [beginHoldover]
@[simp] theorem beginHoldover_arc_lastRefused (u0 : Nat) : (beginHoldover u0 s).arc.lastRefused = s.arc.lastRefused := by simp [beginHoldover]
@[simp] theorem beginHoldover_stg_staged (u0 : Nat) : (beginHoldover u0 s).stg.staged = s.stg.staged := by simp [beginHoldover]
@[simp] theorem beginHoldover_stg_openGap (u0 : Nat) : (beginHoldover u0 s).stg.openGap = s.stg.openGap := by simp [beginHoldover]
@[simp] theorem beginHoldover_evu_chain (u0 : Nat) : (beginHoldover u0 s).evu.chain = s.evu.chain := by simp [beginHoldover]

@[simp] theorem secondIn_arc_area (ts : TsState) : (secondIn ts s).arc.area = s.arc.area := by unfold secondIn; (repeat' split) <;> simp
@[simp] theorem secondIn_arc_enable (ts : TsState) : (secondIn ts s).arc.enable = s.arc.enable := by unfold secondIn; (repeat' split) <;> simp
@[simp] theorem secondIn_arc_mask (ts : TsState) : (secondIn ts s).arc.mask = s.arc.mask := by unfold secondIn; (repeat' split) <;> simp
@[simp] theorem secondIn_arc_copies (ts : TsState) : (secondIn ts s).arc.copies = s.arc.copies := by unfold secondIn; (repeat' split) <;> simp
@[simp] theorem secondIn_arc_lent (ts : TsState) : (secondIn ts s).arc.lent = s.arc.lent := by unfold secondIn; (repeat' split) <;> simp
@[simp] theorem secondIn_arc_openSeg (ts : TsState) : (secondIn ts s).arc.openSeg = s.arc.openSeg := by unfold secondIn; (repeat' split) <;> simp
@[simp] theorem secondIn_arc_closing (ts : TsState) : (secondIn ts s).arc.closing = s.arc.closing := by unfold secondIn; (repeat' split) <;> simp
@[simp] theorem secondIn_arc_requests (ts : TsState) : (secondIn ts s).arc.requests = s.arc.requests := by unfold secondIn; (repeat' split) <;> simp
@[simp] theorem secondIn_arc_linkReset (ts : TsState) : (secondIn ts s).arc.linkReset = s.arc.linkReset := by unfold secondIn; (repeat' split) <;> simp
@[simp] theorem secondIn_arc_hand (ts : TsState) : (secondIn ts s).arc.hand = s.arc.hand := by unfold secondIn; (repeat' split) <;> simp
@[simp] theorem secondIn_arc_handRead (ts : TsState) : (secondIn ts s).arc.handRead = s.arc.handRead := by unfold secondIn; (repeat' split) <;> simp
@[simp] theorem secondIn_arc_handHeld (ts : TsState) : (secondIn ts s).arc.handHeld = s.arc.handHeld := by unfold secondIn; (repeat' split) <;> simp
@[simp] theorem secondIn_arc_entryWrites (ts : TsState) : (secondIn ts s).arc.entryWrites = s.arc.entryWrites := by unfold secondIn; (repeat' split) <;> simp
@[simp] theorem secondIn_arc_lastRefused (ts : TsState) : (secondIn ts s).arc.lastRefused = s.arc.lastRefused := by unfold secondIn; (repeat' split) <;> simp
@[simp] theorem secondIn_stg_staged (ts : TsState) : (secondIn ts s).stg.staged = s.stg.staged := by unfold secondIn; (repeat' split) <;> simp
@[simp] theorem secondIn_stg_openGap (ts : TsState) : (secondIn ts s).stg.openGap = s.stg.openGap := by unfold secondIn; (repeat' split) <;> simp
@[simp] theorem secondIn_evu_chain (ts : TsState) : (secondIn ts s).evu.chain = s.evu.chain := by unfold secondIn; (repeat' split) <;> simp

@[simp] theorem applyTrace_arc_area (set : TraceSet) : (applyTrace set s).arc.area = s.arc.area := by simp [applyTrace]
@[simp] theorem applyTrace_arc_enable (set : TraceSet) : (applyTrace set s).arc.enable = s.arc.enable := by simp [applyTrace]
@[simp] theorem applyTrace_arc_mask (set : TraceSet) : (applyTrace set s).arc.mask = s.arc.mask := by simp [applyTrace]
@[simp] theorem applyTrace_arc_copies (set : TraceSet) : (applyTrace set s).arc.copies = s.arc.copies := by simp [applyTrace]
@[simp] theorem applyTrace_arc_lent (set : TraceSet) : (applyTrace set s).arc.lent = s.arc.lent := by simp [applyTrace]
@[simp] theorem applyTrace_arc_openSeg (set : TraceSet) : (applyTrace set s).arc.openSeg = s.arc.openSeg := by simp [applyTrace]
@[simp] theorem applyTrace_arc_closing (set : TraceSet) : (applyTrace set s).arc.closing = s.arc.closing := by simp [applyTrace]
@[simp] theorem applyTrace_arc_requests (set : TraceSet) : (applyTrace set s).arc.requests = s.arc.requests := by simp [applyTrace]
@[simp] theorem applyTrace_arc_linkReset (set : TraceSet) : (applyTrace set s).arc.linkReset = s.arc.linkReset := by simp [applyTrace]
@[simp] theorem applyTrace_arc_hand (set : TraceSet) : (applyTrace set s).arc.hand = s.arc.hand := by simp [applyTrace]
@[simp] theorem applyTrace_arc_handRead (set : TraceSet) : (applyTrace set s).arc.handRead = s.arc.handRead := by simp [applyTrace]
@[simp] theorem applyTrace_arc_handHeld (set : TraceSet) : (applyTrace set s).arc.handHeld = s.arc.handHeld := by simp [applyTrace]
@[simp] theorem applyTrace_arc_entryWrites (set : TraceSet) : (applyTrace set s).arc.entryWrites = s.arc.entryWrites := by simp [applyTrace]
@[simp] theorem applyTrace_arc_lastRefused (set : TraceSet) : (applyTrace set s).arc.lastRefused = s.arc.lastRefused := by simp [applyTrace]
@[simp] theorem applyTrace_stg_staged (set : TraceSet) : (applyTrace set s).stg.staged = s.stg.staged := by simp [applyTrace]
@[simp] theorem applyTrace_stg_openGap (set : TraceSet) : (applyTrace set s).stg.openGap = s.stg.openGap := by simp [applyTrace]
@[simp] theorem applyTrace_evu_chain (set : TraceSet) : (applyTrace set s).evu.chain = s.evu.chain := by simp [applyTrace]

@[simp] theorem enterDecide_arc_area (g : Fin 64) (v : Group) (r cutoff : Nat) (fl : NoticeFlags) : (enterDecide g v r cutoff fl s).arc.area = s.arc.area := by simp [enterDecide]
@[simp] theorem enterDecide_arc_enable (g : Fin 64) (v : Group) (r cutoff : Nat) (fl : NoticeFlags) : (enterDecide g v r cutoff fl s).arc.enable = s.arc.enable := by simp [enterDecide]
@[simp] theorem enterDecide_arc_mask (g : Fin 64) (v : Group) (r cutoff : Nat) (fl : NoticeFlags) : (enterDecide g v r cutoff fl s).arc.mask = s.arc.mask := by simp [enterDecide]
@[simp] theorem enterDecide_arc_copies (g : Fin 64) (v : Group) (r cutoff : Nat) (fl : NoticeFlags) : (enterDecide g v r cutoff fl s).arc.copies = s.arc.copies := by simp [enterDecide]
@[simp] theorem enterDecide_arc_lent (g : Fin 64) (v : Group) (r cutoff : Nat) (fl : NoticeFlags) : (enterDecide g v r cutoff fl s).arc.lent = s.arc.lent := by simp [enterDecide]
@[simp] theorem enterDecide_arc_openSeg (g : Fin 64) (v : Group) (r cutoff : Nat) (fl : NoticeFlags) : (enterDecide g v r cutoff fl s).arc.openSeg = s.arc.openSeg := by simp [enterDecide]
@[simp] theorem enterDecide_arc_closing (g : Fin 64) (v : Group) (r cutoff : Nat) (fl : NoticeFlags) : (enterDecide g v r cutoff fl s).arc.closing = s.arc.closing := by simp [enterDecide]
@[simp] theorem enterDecide_arc_requests (g : Fin 64) (v : Group) (r cutoff : Nat) (fl : NoticeFlags) : (enterDecide g v r cutoff fl s).arc.requests = s.arc.requests := by simp [enterDecide]
@[simp] theorem enterDecide_arc_linkReset (g : Fin 64) (v : Group) (r cutoff : Nat) (fl : NoticeFlags) : (enterDecide g v r cutoff fl s).arc.linkReset = s.arc.linkReset := by simp [enterDecide]
@[simp] theorem enterDecide_arc_hand (g : Fin 64) (v : Group) (r cutoff : Nat) (fl : NoticeFlags) : (enterDecide g v r cutoff fl s).arc.hand = s.arc.hand := by simp [enterDecide]
@[simp] theorem enterDecide_arc_handRead (g : Fin 64) (v : Group) (r cutoff : Nat) (fl : NoticeFlags) : (enterDecide g v r cutoff fl s).arc.handRead = s.arc.handRead := by simp [enterDecide]
@[simp] theorem enterDecide_arc_handHeld (g : Fin 64) (v : Group) (r cutoff : Nat) (fl : NoticeFlags) : (enterDecide g v r cutoff fl s).arc.handHeld = s.arc.handHeld := by simp [enterDecide]
@[simp] theorem enterDecide_arc_entryWrites (g : Fin 64) (v : Group) (r cutoff : Nat) (fl : NoticeFlags) : (enterDecide g v r cutoff fl s).arc.entryWrites = s.arc.entryWrites := by simp [enterDecide]
@[simp] theorem enterDecide_arc_lastRefused (g : Fin 64) (v : Group) (r cutoff : Nat) (fl : NoticeFlags) : (enterDecide g v r cutoff fl s).arc.lastRefused = s.arc.lastRefused := by simp [enterDecide]
@[simp] theorem enterDecide_stg_staged (g : Fin 64) (v : Group) (r cutoff : Nat) (fl : NoticeFlags) : (enterDecide g v r cutoff fl s).stg.staged = s.stg.staged := by simp [enterDecide]
@[simp] theorem enterDecide_stg_openGap (g : Fin 64) (v : Group) (r cutoff : Nat) (fl : NoticeFlags) : (enterDecide g v r cutoff fl s).stg.openGap = s.stg.openGap := by simp [enterDecide]
@[simp] theorem enterDecide_evu_chain (g : Fin 64) (v : Group) (r cutoff : Nat) (fl : NoticeFlags) : (enterDecide g v r cutoff fl s).evu.chain = s.evu.chain := by simp [enterDecide]

@[simp] theorem handleEnd_arc_area (d : Deadline) : (handleEnd d s).arc.area = s.arc.area := by unfold handleEnd; dsimp only; (repeat' split) <;> simp
@[simp] theorem handleEnd_arc_enable (d : Deadline) : (handleEnd d s).arc.enable = s.arc.enable := by unfold handleEnd; dsimp only; (repeat' split) <;> simp
@[simp] theorem handleEnd_arc_mask (d : Deadline) : (handleEnd d s).arc.mask = s.arc.mask := by unfold handleEnd; dsimp only; (repeat' split) <;> simp
@[simp] theorem handleEnd_arc_copies (d : Deadline) : (handleEnd d s).arc.copies = s.arc.copies := by unfold handleEnd; dsimp only; (repeat' split) <;> simp
@[simp] theorem handleEnd_arc_lent (d : Deadline) : (handleEnd d s).arc.lent = s.arc.lent := by unfold handleEnd; dsimp only; (repeat' split) <;> simp
@[simp] theorem handleEnd_arc_openSeg (d : Deadline) : (handleEnd d s).arc.openSeg = s.arc.openSeg := by unfold handleEnd; dsimp only; (repeat' split) <;> simp
@[simp] theorem handleEnd_arc_closing (d : Deadline) : (handleEnd d s).arc.closing = s.arc.closing := by unfold handleEnd; dsimp only; (repeat' split) <;> simp
@[simp] theorem handleEnd_arc_requests (d : Deadline) : (handleEnd d s).arc.requests = s.arc.requests := by unfold handleEnd; dsimp only; (repeat' split) <;> simp
@[simp] theorem handleEnd_arc_linkReset (d : Deadline) : (handleEnd d s).arc.linkReset = s.arc.linkReset := by unfold handleEnd; dsimp only; (repeat' split) <;> simp
@[simp] theorem handleEnd_arc_hand (d : Deadline) : (handleEnd d s).arc.hand = s.arc.hand := by unfold handleEnd; dsimp only; (repeat' split) <;> simp
@[simp] theorem handleEnd_arc_handRead (d : Deadline) : (handleEnd d s).arc.handRead = s.arc.handRead := by unfold handleEnd; dsimp only; (repeat' split) <;> simp
@[simp] theorem handleEnd_arc_handHeld (d : Deadline) : (handleEnd d s).arc.handHeld = s.arc.handHeld := by unfold handleEnd; dsimp only; (repeat' split) <;> simp
@[simp] theorem handleEnd_arc_entryWrites (d : Deadline) : (handleEnd d s).arc.entryWrites = s.arc.entryWrites := by unfold handleEnd; dsimp only; (repeat' split) <;> simp
@[simp] theorem handleEnd_arc_lastRefused (d : Deadline) : (handleEnd d s).arc.lastRefused = s.arc.lastRefused := by unfold handleEnd; dsimp only; (repeat' split) <;> simp
@[simp] theorem handleEnd_stg_staged (d : Deadline) : (handleEnd d s).stg.staged = s.stg.staged := by unfold handleEnd; dsimp only; (repeat' split) <;> simp
@[simp] theorem handleEnd_stg_openGap (d : Deadline) : (handleEnd d s).stg.openGap = s.stg.openGap := by unfold handleEnd; dsimp only; (repeat' split) <;> simp
@[simp] theorem handleEnd_evu_chain (d : Deadline) : (handleEnd d s).evu.chain = s.evu.chain := by unfold handleEnd; dsimp only; (repeat' split) <;> simp

@[simp] theorem handleCutoff_arc_area (d : Deadline) : (handleCutoff d s).arc.area = s.arc.area := by simp [handleCutoff]
@[simp] theorem handleCutoff_arc_enable (d : Deadline) : (handleCutoff d s).arc.enable = s.arc.enable := by simp [handleCutoff]
@[simp] theorem handleCutoff_arc_mask (d : Deadline) : (handleCutoff d s).arc.mask = s.arc.mask := by simp [handleCutoff]
@[simp] theorem handleCutoff_arc_copies (d : Deadline) : (handleCutoff d s).arc.copies = s.arc.copies := by simp [handleCutoff]
@[simp] theorem handleCutoff_arc_lent (d : Deadline) : (handleCutoff d s).arc.lent = s.arc.lent := by simp [handleCutoff]
@[simp] theorem handleCutoff_arc_openSeg (d : Deadline) : (handleCutoff d s).arc.openSeg = s.arc.openSeg := by simp [handleCutoff]
@[simp] theorem handleCutoff_arc_closing (d : Deadline) : (handleCutoff d s).arc.closing = s.arc.closing := by simp [handleCutoff]
@[simp] theorem handleCutoff_arc_requests (d : Deadline) : (handleCutoff d s).arc.requests = s.arc.requests := by simp [handleCutoff]
@[simp] theorem handleCutoff_arc_linkReset (d : Deadline) : (handleCutoff d s).arc.linkReset = s.arc.linkReset := by simp [handleCutoff]
@[simp] theorem handleCutoff_arc_hand (d : Deadline) : (handleCutoff d s).arc.hand = s.arc.hand := by simp [handleCutoff]
@[simp] theorem handleCutoff_arc_handRead (d : Deadline) : (handleCutoff d s).arc.handRead = s.arc.handRead := by simp [handleCutoff]
@[simp] theorem handleCutoff_arc_handHeld (d : Deadline) : (handleCutoff d s).arc.handHeld = s.arc.handHeld := by simp [handleCutoff]
@[simp] theorem handleCutoff_arc_entryWrites (d : Deadline) : (handleCutoff d s).arc.entryWrites = s.arc.entryWrites := by simp [handleCutoff]
@[simp] theorem handleCutoff_arc_lastRefused (d : Deadline) : (handleCutoff d s).arc.lastRefused = s.arc.lastRefused := by simp [handleCutoff]
@[simp] theorem handleCutoff_stg_staged (d : Deadline) : (handleCutoff d s).stg.staged = s.stg.staged := by simp [handleCutoff]
@[simp] theorem handleCutoff_stg_openGap (d : Deadline) : (handleCutoff d s).stg.openGap = s.stg.openGap := by simp [handleCutoff]
@[simp] theorem handleCutoff_evu_chain (d : Deadline) : (handleCutoff d s).evu.chain = s.evu.chain := by simp [handleCutoff]

@[simp] theorem handleDeadline_arc_area (d : Deadline) : (handleDeadline d s).arc.area = s.arc.area := by unfold handleDeadline; (repeat' split) <;> simp
@[simp] theorem handleDeadline_arc_enable (d : Deadline) : (handleDeadline d s).arc.enable = s.arc.enable := by unfold handleDeadline; (repeat' split) <;> simp
@[simp] theorem handleDeadline_arc_mask (d : Deadline) : (handleDeadline d s).arc.mask = s.arc.mask := by unfold handleDeadline; (repeat' split) <;> simp
@[simp] theorem handleDeadline_arc_copies (d : Deadline) : (handleDeadline d s).arc.copies = s.arc.copies := by unfold handleDeadline; (repeat' split) <;> simp
@[simp] theorem handleDeadline_arc_lent (d : Deadline) : (handleDeadline d s).arc.lent = s.arc.lent := by unfold handleDeadline; (repeat' split) <;> simp
@[simp] theorem handleDeadline_arc_openSeg (d : Deadline) : (handleDeadline d s).arc.openSeg = s.arc.openSeg := by unfold handleDeadline; (repeat' split) <;> simp
@[simp] theorem handleDeadline_arc_closing (d : Deadline) : (handleDeadline d s).arc.closing = s.arc.closing := by unfold handleDeadline; (repeat' split) <;> simp
@[simp] theorem handleDeadline_arc_requests (d : Deadline) : (handleDeadline d s).arc.requests = s.arc.requests := by unfold handleDeadline; (repeat' split) <;> simp
@[simp] theorem handleDeadline_arc_linkReset (d : Deadline) : (handleDeadline d s).arc.linkReset = s.arc.linkReset := by unfold handleDeadline; (repeat' split) <;> simp
@[simp] theorem handleDeadline_arc_hand (d : Deadline) : (handleDeadline d s).arc.hand = s.arc.hand := by unfold handleDeadline; (repeat' split) <;> simp
@[simp] theorem handleDeadline_arc_handRead (d : Deadline) : (handleDeadline d s).arc.handRead = s.arc.handRead := by unfold handleDeadline; (repeat' split) <;> simp
@[simp] theorem handleDeadline_arc_handHeld (d : Deadline) : (handleDeadline d s).arc.handHeld = s.arc.handHeld := by unfold handleDeadline; (repeat' split) <;> simp
@[simp] theorem handleDeadline_arc_entryWrites (d : Deadline) : (handleDeadline d s).arc.entryWrites = s.arc.entryWrites := by unfold handleDeadline; (repeat' split) <;> simp
@[simp] theorem handleDeadline_arc_lastRefused (d : Deadline) : (handleDeadline d s).arc.lastRefused = s.arc.lastRefused := by unfold handleDeadline; (repeat' split) <;> simp
@[simp] theorem handleDeadline_stg_staged (d : Deadline) : (handleDeadline d s).stg.staged = s.stg.staged := by unfold handleDeadline; (repeat' split) <;> simp
@[simp] theorem handleDeadline_stg_openGap (d : Deadline) : (handleDeadline d s).stg.openGap = s.stg.openGap := by unfold handleDeadline; (repeat' split) <;> simp
@[simp] theorem handleDeadline_evu_chain (d : Deadline) : (handleDeadline d s).evu.chain = s.evu.chain := by unfold handleDeadline; (repeat' split) <;> simp

@[simp] theorem handleReady_arc_area : (handleReady s).arc.area = s.arc.area := by unfold handleReady; (repeat' split) <;> simp
@[simp] theorem handleReady_arc_enable : (handleReady s).arc.enable = s.arc.enable := by unfold handleReady; (repeat' split) <;> simp
@[simp] theorem handleReady_arc_mask : (handleReady s).arc.mask = s.arc.mask := by unfold handleReady; (repeat' split) <;> simp
@[simp] theorem handleReady_arc_copies : (handleReady s).arc.copies = s.arc.copies := by unfold handleReady; (repeat' split) <;> simp
@[simp] theorem handleReady_arc_lent : (handleReady s).arc.lent = s.arc.lent := by unfold handleReady; (repeat' split) <;> simp
@[simp] theorem handleReady_arc_openSeg : (handleReady s).arc.openSeg = s.arc.openSeg := by unfold handleReady; (repeat' split) <;> simp
@[simp] theorem handleReady_arc_closing : (handleReady s).arc.closing = s.arc.closing := by unfold handleReady; (repeat' split) <;> simp
@[simp] theorem handleReady_arc_requests : (handleReady s).arc.requests = s.arc.requests := by unfold handleReady; (repeat' split) <;> simp
@[simp] theorem handleReady_arc_linkReset : (handleReady s).arc.linkReset = s.arc.linkReset := by unfold handleReady; (repeat' split) <;> simp
@[simp] theorem handleReady_arc_hand : (handleReady s).arc.hand = s.arc.hand := by unfold handleReady; (repeat' split) <;> simp
@[simp] theorem handleReady_arc_handRead : (handleReady s).arc.handRead = s.arc.handRead := by unfold handleReady; (repeat' split) <;> simp
@[simp] theorem handleReady_arc_handHeld : (handleReady s).arc.handHeld = s.arc.handHeld := by unfold handleReady; (repeat' split) <;> simp
@[simp] theorem handleReady_arc_entryWrites : (handleReady s).arc.entryWrites = s.arc.entryWrites := by unfold handleReady; (repeat' split) <;> simp
@[simp] theorem handleReady_arc_lastRefused : (handleReady s).arc.lastRefused = s.arc.lastRefused := by unfold handleReady; (repeat' split) <;> simp
@[simp] theorem handleReady_stg_staged : (handleReady s).stg.staged = s.stg.staged := by unfold handleReady; (repeat' split) <;> simp
@[simp] theorem handleReady_stg_openGap : (handleReady s).stg.openGap = s.stg.openGap := by unfold handleReady; (repeat' split) <;> simp
@[simp] theorem handleReady_evu_chain : (handleReady s).evu.chain = s.evu.chain := by unfold handleReady; (repeat' split) <;> simp

@[simp] theorem cascade_arc_area (n : Nat) : (cascade n s).arc.area = s.arc.area := by
  induction n generalizing s with
  | zero => rfl
  | succ n ih => unfold cascade; split <;> simp [ih]
@[simp] theorem cascade_arc_enable (n : Nat) : (cascade n s).arc.enable = s.arc.enable := by
  induction n generalizing s with
  | zero => rfl
  | succ n ih => unfold cascade; split <;> simp [ih]
@[simp] theorem cascade_arc_mask (n : Nat) : (cascade n s).arc.mask = s.arc.mask := by
  induction n generalizing s with
  | zero => rfl
  | succ n ih => unfold cascade; split <;> simp [ih]
@[simp] theorem cascade_arc_copies (n : Nat) : (cascade n s).arc.copies = s.arc.copies := by
  induction n generalizing s with
  | zero => rfl
  | succ n ih => unfold cascade; split <;> simp [ih]
@[simp] theorem cascade_arc_lent (n : Nat) : (cascade n s).arc.lent = s.arc.lent := by
  induction n generalizing s with
  | zero => rfl
  | succ n ih => unfold cascade; split <;> simp [ih]
@[simp] theorem cascade_arc_openSeg (n : Nat) : (cascade n s).arc.openSeg = s.arc.openSeg := by
  induction n generalizing s with
  | zero => rfl
  | succ n ih => unfold cascade; split <;> simp [ih]
@[simp] theorem cascade_arc_closing (n : Nat) : (cascade n s).arc.closing = s.arc.closing := by
  induction n generalizing s with
  | zero => rfl
  | succ n ih => unfold cascade; split <;> simp [ih]
@[simp] theorem cascade_arc_requests (n : Nat) : (cascade n s).arc.requests = s.arc.requests := by
  induction n generalizing s with
  | zero => rfl
  | succ n ih => unfold cascade; split <;> simp [ih]
@[simp] theorem cascade_arc_linkReset (n : Nat) : (cascade n s).arc.linkReset = s.arc.linkReset := by
  induction n generalizing s with
  | zero => rfl
  | succ n ih => unfold cascade; split <;> simp [ih]
@[simp] theorem cascade_arc_hand (n : Nat) : (cascade n s).arc.hand = s.arc.hand := by
  induction n generalizing s with
  | zero => rfl
  | succ n ih => unfold cascade; split <;> simp [ih]
@[simp] theorem cascade_arc_handRead (n : Nat) : (cascade n s).arc.handRead = s.arc.handRead := by
  induction n generalizing s with
  | zero => rfl
  | succ n ih => unfold cascade; split <;> simp [ih]
@[simp] theorem cascade_arc_handHeld (n : Nat) : (cascade n s).arc.handHeld = s.arc.handHeld := by
  induction n generalizing s with
  | zero => rfl
  | succ n ih => unfold cascade; split <;> simp [ih]
@[simp] theorem cascade_arc_entryWrites (n : Nat) : (cascade n s).arc.entryWrites = s.arc.entryWrites := by
  induction n generalizing s with
  | zero => rfl
  | succ n ih => unfold cascade; split <;> simp [ih]
@[simp] theorem cascade_arc_lastRefused (n : Nat) : (cascade n s).arc.lastRefused = s.arc.lastRefused := by
  induction n generalizing s with
  | zero => rfl
  | succ n ih => unfold cascade; split <;> simp [ih]
@[simp] theorem cascade_stg_staged (n : Nat) : (cascade n s).stg.staged = s.stg.staged := by
  induction n generalizing s with
  | zero => rfl
  | succ n ih => unfold cascade; split <;> simp [ih]
@[simp] theorem cascade_stg_openGap (n : Nat) : (cascade n s).stg.openGap = s.stg.openGap := by
  induction n generalizing s with
  | zero => rfl
  | succ n ih => unfold cascade; split <;> simp [ih]
@[simp] theorem cascade_evu_chain (n : Nat) : (cascade n s).evu.chain = s.evu.chain := by
  induction n generalizing s with
  | zero => rfl
  | succ n ih => unfold cascade; split <;> simp [ih]

@[simp] theorem Report.act_arc_area (r : Report) : (Report.act r s).arc.area = s.arc.area := by
  cases r <;> simp [Report.act]
@[simp] theorem Report.act_arc_enable (r : Report) : (Report.act r s).arc.enable = s.arc.enable := by
  cases r <;> simp [Report.act]
@[simp] theorem Report.act_arc_mask (r : Report) : (Report.act r s).arc.mask = s.arc.mask := by
  cases r <;> simp [Report.act]
@[simp] theorem Report.act_arc_copies (r : Report) : (Report.act r s).arc.copies = s.arc.copies := by
  cases r <;> simp [Report.act]
@[simp] theorem Report.act_arc_lent (r : Report) : (Report.act r s).arc.lent = s.arc.lent := by
  cases r <;> simp [Report.act]
@[simp] theorem Report.act_arc_openSeg (r : Report) : (Report.act r s).arc.openSeg = s.arc.openSeg := by
  cases r <;> simp [Report.act]
@[simp] theorem Report.act_arc_closing (r : Report) : (Report.act r s).arc.closing = s.arc.closing := by
  cases r <;> simp [Report.act]
@[simp] theorem Report.act_arc_requests (r : Report) : (Report.act r s).arc.requests = s.arc.requests := by
  cases r <;> simp [Report.act]
@[simp] theorem Report.act_arc_linkReset (r : Report) : (Report.act r s).arc.linkReset = s.arc.linkReset := by
  cases r <;> simp [Report.act]
@[simp] theorem Report.act_arc_hand (r : Report) : (Report.act r s).arc.hand = s.arc.hand := by
  cases r <;> simp [Report.act]
@[simp] theorem Report.act_arc_handRead (r : Report) : (Report.act r s).arc.handRead = s.arc.handRead := by
  cases r <;> simp [Report.act]
@[simp] theorem Report.act_arc_handHeld (r : Report) : (Report.act r s).arc.handHeld = s.arc.handHeld := by
  cases r <;> simp [Report.act]
@[simp] theorem Report.act_arc_entryWrites (r : Report) : (Report.act r s).arc.entryWrites = s.arc.entryWrites := by
  cases r <;> simp [Report.act]
@[simp] theorem Report.act_arc_lastRefused (r : Report) : (Report.act r s).arc.lastRefused = s.arc.lastRefused := by
  cases r <;> simp [Report.act]
@[simp] theorem Report.act_stg_staged (r : Report) : (Report.act r s).stg.staged = s.stg.staged := by
  cases r <;> simp [Report.act]
@[simp] theorem Report.act_stg_openGap (r : Report) : (Report.act r s).stg.openGap = s.stg.openGap := by
  cases r <;> simp [Report.act]
@[simp] theorem Report.act_evu_chain (r : Report) : (Report.act r s).evu.chain = s.evu.chain := by
  cases r <;> simp [Report.act]

@[simp] theorem takeGroupRequest_stg_staged : (takeGroupRequest s).stg.staged = s.stg.staged := by rw [takeGroupRequest_frame s]
@[simp] theorem takeGroupRequest_stg_openGap : (takeGroupRequest s).stg.openGap = s.stg.openGap := by rw [takeGroupRequest_frame s]
@[simp] theorem takeGroupRequest_evu_chain : (takeGroupRequest s).evu.chain = s.evu.chain := by rw [takeGroupRequest_frame s]

@[simp] theorem runOrder_arc_area (step : Option Nat) (old : TsState) (ps : List Pick) (rs : List Report) :
    (runOrder step old ps rs s).arc.area = s.arc.area := by
  refine runOrder_keeps (P := fun t => t.arc.area = s.arc.area) ?_ ?_ ?_ ?_ ?_ _ _ _ _ rfl <;> intros <;> simp_all
@[simp] theorem runOrder_arc_enable (step : Option Nat) (old : TsState) (ps : List Pick) (rs : List Report) :
    (runOrder step old ps rs s).arc.enable = s.arc.enable := by
  refine runOrder_keeps (P := fun t => t.arc.enable = s.arc.enable) ?_ ?_ ?_ ?_ ?_ _ _ _ _ rfl <;> intros <;> simp_all
@[simp] theorem runOrder_arc_mask (step : Option Nat) (old : TsState) (ps : List Pick) (rs : List Report) :
    (runOrder step old ps rs s).arc.mask = s.arc.mask := by
  refine runOrder_keeps (P := fun t => t.arc.mask = s.arc.mask) ?_ ?_ ?_ ?_ ?_ _ _ _ _ rfl <;> intros <;> simp_all
@[simp] theorem runOrder_arc_copies (step : Option Nat) (old : TsState) (ps : List Pick) (rs : List Report) :
    (runOrder step old ps rs s).arc.copies = s.arc.copies := by
  refine runOrder_keeps (P := fun t => t.arc.copies = s.arc.copies) ?_ ?_ ?_ ?_ ?_ _ _ _ _ rfl <;> intros <;> simp_all
@[simp] theorem runOrder_arc_lent (step : Option Nat) (old : TsState) (ps : List Pick) (rs : List Report) :
    (runOrder step old ps rs s).arc.lent = s.arc.lent := by
  refine runOrder_keeps (P := fun t => t.arc.lent = s.arc.lent) ?_ ?_ ?_ ?_ ?_ _ _ _ _ rfl <;> intros <;> simp_all
@[simp] theorem runOrder_arc_openSeg (step : Option Nat) (old : TsState) (ps : List Pick) (rs : List Report) :
    (runOrder step old ps rs s).arc.openSeg = s.arc.openSeg := by
  refine runOrder_keeps (P := fun t => t.arc.openSeg = s.arc.openSeg) ?_ ?_ ?_ ?_ ?_ _ _ _ _ rfl <;> intros <;> simp_all
@[simp] theorem runOrder_arc_closing (step : Option Nat) (old : TsState) (ps : List Pick) (rs : List Report) :
    (runOrder step old ps rs s).arc.closing = s.arc.closing := by
  refine runOrder_keeps (P := fun t => t.arc.closing = s.arc.closing) ?_ ?_ ?_ ?_ ?_ _ _ _ _ rfl <;> intros <;> simp_all
@[simp] theorem runOrder_arc_requests (step : Option Nat) (old : TsState) (ps : List Pick) (rs : List Report) :
    (runOrder step old ps rs s).arc.requests = s.arc.requests := by
  refine runOrder_keeps (P := fun t => t.arc.requests = s.arc.requests) ?_ ?_ ?_ ?_ ?_ _ _ _ _ rfl <;> intros <;> simp_all
@[simp] theorem runOrder_arc_linkReset (step : Option Nat) (old : TsState) (ps : List Pick) (rs : List Report) :
    (runOrder step old ps rs s).arc.linkReset = s.arc.linkReset := by
  refine runOrder_keeps (P := fun t => t.arc.linkReset = s.arc.linkReset) ?_ ?_ ?_ ?_ ?_ _ _ _ _ rfl <;> intros <;> simp_all
@[simp] theorem runOrder_arc_hand (step : Option Nat) (old : TsState) (ps : List Pick) (rs : List Report) :
    (runOrder step old ps rs s).arc.hand = s.arc.hand := by
  refine runOrder_keeps (P := fun t => t.arc.hand = s.arc.hand) ?_ ?_ ?_ ?_ ?_ _ _ _ _ rfl <;> intros <;> simp_all
@[simp] theorem runOrder_arc_handRead (step : Option Nat) (old : TsState) (ps : List Pick) (rs : List Report) :
    (runOrder step old ps rs s).arc.handRead = s.arc.handRead := by
  refine runOrder_keeps (P := fun t => t.arc.handRead = s.arc.handRead) ?_ ?_ ?_ ?_ ?_ _ _ _ _ rfl <;> intros <;> simp_all
@[simp] theorem runOrder_arc_handHeld (step : Option Nat) (old : TsState) (ps : List Pick) (rs : List Report) :
    (runOrder step old ps rs s).arc.handHeld = s.arc.handHeld := by
  refine runOrder_keeps (P := fun t => t.arc.handHeld = s.arc.handHeld) ?_ ?_ ?_ ?_ ?_ _ _ _ _ rfl <;> intros <;> simp_all
@[simp] theorem runOrder_arc_entryWrites (step : Option Nat) (old : TsState) (ps : List Pick) (rs : List Report) :
    (runOrder step old ps rs s).arc.entryWrites = s.arc.entryWrites := by
  refine runOrder_keeps (P := fun t => t.arc.entryWrites = s.arc.entryWrites) ?_ ?_ ?_ ?_ ?_ _ _ _ _ rfl <;> intros <;> simp_all
@[simp] theorem runOrder_arc_lastRefused (step : Option Nat) (old : TsState) (ps : List Pick) (rs : List Report) :
    (runOrder step old ps rs s).arc.lastRefused = s.arc.lastRefused := by
  refine runOrder_keeps (P := fun t => t.arc.lastRefused = s.arc.lastRefused) ?_ ?_ ?_ ?_ ?_ _ _ _ _ rfl <;> intros <;> simp_all
@[simp] theorem runOrder_stg_staged (step : Option Nat) (old : TsState) (ps : List Pick) (rs : List Report) :
    (runOrder step old ps rs s).stg.staged = s.stg.staged := by
  refine runOrder_keeps (P := fun t => t.stg.staged = s.stg.staged) ?_ ?_ ?_ ?_ ?_ _ _ _ _ rfl <;> intros <;> simp_all
@[simp] theorem runOrder_stg_openGap (step : Option Nat) (old : TsState) (ps : List Pick) (rs : List Report) :
    (runOrder step old ps rs s).stg.openGap = s.stg.openGap := by
  refine runOrder_keeps (P := fun t => t.stg.openGap = s.stg.openGap) ?_ ?_ ?_ ?_ ?_ _ _ _ _ rfl <;> intros <;> simp_all
@[simp] theorem runOrder_evu_chain (step : Option Nat) (old : TsState) (ps : List Pick) (rs : List Report) :
    (runOrder step old ps rs s).evu.chain = s.evu.chain := by
  refine runOrder_keeps (P := fun t => t.evu.chain = s.evu.chain) ?_ ?_ ?_ ?_ ?_ _ _ _ _ rfl <;> intros <;> simp_all


@[simp] theorem lossAtTsu_arc_area : (lossAtTsu s).arc.area = s.arc.area := by unfold lossAtTsu; (repeat' split) <;> simp
@[simp] theorem lossAtTsu_arc_enable : (lossAtTsu s).arc.enable = s.arc.enable := by unfold lossAtTsu; (repeat' split) <;> simp
@[simp] theorem lossAtTsu_arc_mask : (lossAtTsu s).arc.mask = s.arc.mask := by unfold lossAtTsu; (repeat' split) <;> simp
@[simp] theorem lossAtTsu_arc_copies : (lossAtTsu s).arc.copies = s.arc.copies := by unfold lossAtTsu; (repeat' split) <;> simp
@[simp] theorem lossAtTsu_arc_lent : (lossAtTsu s).arc.lent = s.arc.lent := by unfold lossAtTsu; (repeat' split) <;> simp
@[simp] theorem lossAtTsu_arc_openSeg : (lossAtTsu s).arc.openSeg = s.arc.openSeg := by unfold lossAtTsu; (repeat' split) <;> simp
@[simp] theorem lossAtTsu_arc_closing : (lossAtTsu s).arc.closing = s.arc.closing := by unfold lossAtTsu; (repeat' split) <;> simp
@[simp] theorem lossAtTsu_arc_requests : (lossAtTsu s).arc.requests = s.arc.requests := by unfold lossAtTsu; (repeat' split) <;> simp
@[simp] theorem lossAtTsu_arc_linkReset : (lossAtTsu s).arc.linkReset = s.arc.linkReset := by unfold lossAtTsu; (repeat' split) <;> simp
@[simp] theorem lossAtTsu_arc_hand : (lossAtTsu s).arc.hand = s.arc.hand := by unfold lossAtTsu; (repeat' split) <;> simp
@[simp] theorem lossAtTsu_arc_handRead : (lossAtTsu s).arc.handRead = s.arc.handRead := by unfold lossAtTsu; (repeat' split) <;> simp
@[simp] theorem lossAtTsu_arc_handHeld : (lossAtTsu s).arc.handHeld = s.arc.handHeld := by unfold lossAtTsu; (repeat' split) <;> simp
@[simp] theorem lossAtTsu_arc_entryWrites : (lossAtTsu s).arc.entryWrites = s.arc.entryWrites := by unfold lossAtTsu; (repeat' split) <;> simp
@[simp] theorem lossAtTsu_arc_lastRefused : (lossAtTsu s).arc.lastRefused = s.arc.lastRefused := by unfold lossAtTsu; (repeat' split) <;> simp
@[simp] theorem lossAtTsu_stg_staged : (lossAtTsu s).stg.staged = s.stg.staged := by unfold lossAtTsu; (repeat' split) <;> simp
@[simp] theorem lossAtTsu_stg_openGap : (lossAtTsu s).stg.openGap = s.stg.openGap := by unfold lossAtTsu; (repeat' split) <;> simp
@[simp] theorem lossAtTsu_evu_chain : (lossAtTsu s).evu.chain = s.evu.chain := by unfold lossAtTsu; (repeat' split) <;> simp

@[simp] theorem acceptSetTime_arc_area (v u0 : Nat) (o : List Pick) : (acceptSetTime v u0 o s).arc.area = s.arc.area := by simp [acceptSetTime]
@[simp] theorem acceptSetTime_arc_enable (v u0 : Nat) (o : List Pick) : (acceptSetTime v u0 o s).arc.enable = s.arc.enable := by simp [acceptSetTime]
@[simp] theorem acceptSetTime_arc_mask (v u0 : Nat) (o : List Pick) : (acceptSetTime v u0 o s).arc.mask = s.arc.mask := by simp [acceptSetTime]
@[simp] theorem acceptSetTime_arc_copies (v u0 : Nat) (o : List Pick) : (acceptSetTime v u0 o s).arc.copies = s.arc.copies := by simp [acceptSetTime]
@[simp] theorem acceptSetTime_arc_lent (v u0 : Nat) (o : List Pick) : (acceptSetTime v u0 o s).arc.lent = s.arc.lent := by simp [acceptSetTime]
@[simp] theorem acceptSetTime_arc_openSeg (v u0 : Nat) (o : List Pick) : (acceptSetTime v u0 o s).arc.openSeg = s.arc.openSeg := by simp [acceptSetTime]
@[simp] theorem acceptSetTime_arc_closing (v u0 : Nat) (o : List Pick) : (acceptSetTime v u0 o s).arc.closing = s.arc.closing := by simp [acceptSetTime]
@[simp] theorem acceptSetTime_arc_requests (v u0 : Nat) (o : List Pick) : (acceptSetTime v u0 o s).arc.requests = s.arc.requests := by simp [acceptSetTime]
@[simp] theorem acceptSetTime_arc_linkReset (v u0 : Nat) (o : List Pick) : (acceptSetTime v u0 o s).arc.linkReset = s.arc.linkReset := by simp [acceptSetTime]
@[simp] theorem acceptSetTime_arc_hand (v u0 : Nat) (o : List Pick) : (acceptSetTime v u0 o s).arc.hand = s.arc.hand := by simp [acceptSetTime]
@[simp] theorem acceptSetTime_arc_handRead (v u0 : Nat) (o : List Pick) : (acceptSetTime v u0 o s).arc.handRead = s.arc.handRead := by simp [acceptSetTime]
@[simp] theorem acceptSetTime_arc_handHeld (v u0 : Nat) (o : List Pick) : (acceptSetTime v u0 o s).arc.handHeld = s.arc.handHeld := by simp [acceptSetTime]
@[simp] theorem acceptSetTime_arc_entryWrites (v u0 : Nat) (o : List Pick) : (acceptSetTime v u0 o s).arc.entryWrites = s.arc.entryWrites := by simp [acceptSetTime]
@[simp] theorem acceptSetTime_arc_lastRefused (v u0 : Nat) (o : List Pick) : (acceptSetTime v u0 o s).arc.lastRefused = s.arc.lastRefused := by simp [acceptSetTime]
@[simp] theorem acceptSetTime_stg_staged (v u0 : Nat) (o : List Pick) : (acceptSetTime v u0 o s).stg.staged = s.stg.staged := by simp [acceptSetTime]
@[simp] theorem acceptSetTime_stg_openGap (v u0 : Nat) (o : List Pick) : (acceptSetTime v u0 o s).stg.openGap = s.stg.openGap := by simp [acceptSetTime]
@[simp] theorem acceptSetTime_evu_chain (v u0 : Nat) (o : List Pick) : (acceptSetTime v u0 o s).evu.chain = s.evu.chain := by simp [acceptSetTime]

@[simp] theorem rejectPulse_arc_area (r : RefReason) (sub : SubReason) : (rejectPulse r sub s).arc.area = s.arc.area := by unfold rejectPulse; (repeat' split) <;> simp
@[simp] theorem rejectPulse_arc_enable (r : RefReason) (sub : SubReason) : (rejectPulse r sub s).arc.enable = s.arc.enable := by unfold rejectPulse; (repeat' split) <;> simp
@[simp] theorem rejectPulse_arc_mask (r : RefReason) (sub : SubReason) : (rejectPulse r sub s).arc.mask = s.arc.mask := by unfold rejectPulse; (repeat' split) <;> simp
@[simp] theorem rejectPulse_arc_copies (r : RefReason) (sub : SubReason) : (rejectPulse r sub s).arc.copies = s.arc.copies := by unfold rejectPulse; (repeat' split) <;> simp
@[simp] theorem rejectPulse_arc_lent (r : RefReason) (sub : SubReason) : (rejectPulse r sub s).arc.lent = s.arc.lent := by unfold rejectPulse; (repeat' split) <;> simp
@[simp] theorem rejectPulse_arc_openSeg (r : RefReason) (sub : SubReason) : (rejectPulse r sub s).arc.openSeg = s.arc.openSeg := by unfold rejectPulse; (repeat' split) <;> simp
@[simp] theorem rejectPulse_arc_closing (r : RefReason) (sub : SubReason) : (rejectPulse r sub s).arc.closing = s.arc.closing := by unfold rejectPulse; (repeat' split) <;> simp
@[simp] theorem rejectPulse_arc_requests (r : RefReason) (sub : SubReason) : (rejectPulse r sub s).arc.requests = s.arc.requests := by unfold rejectPulse; (repeat' split) <;> simp
@[simp] theorem rejectPulse_arc_linkReset (r : RefReason) (sub : SubReason) : (rejectPulse r sub s).arc.linkReset = s.arc.linkReset := by unfold rejectPulse; (repeat' split) <;> simp
@[simp] theorem rejectPulse_arc_hand (r : RefReason) (sub : SubReason) : (rejectPulse r sub s).arc.hand = s.arc.hand := by unfold rejectPulse; (repeat' split) <;> simp
@[simp] theorem rejectPulse_arc_handRead (r : RefReason) (sub : SubReason) : (rejectPulse r sub s).arc.handRead = s.arc.handRead := by unfold rejectPulse; (repeat' split) <;> simp
@[simp] theorem rejectPulse_arc_handHeld (r : RefReason) (sub : SubReason) : (rejectPulse r sub s).arc.handHeld = s.arc.handHeld := by unfold rejectPulse; (repeat' split) <;> simp
@[simp] theorem rejectPulse_arc_entryWrites (r : RefReason) (sub : SubReason) : (rejectPulse r sub s).arc.entryWrites = s.arc.entryWrites := by unfold rejectPulse; (repeat' split) <;> simp
@[simp] theorem rejectPulse_arc_lastRefused (r : RefReason) (sub : SubReason) : (rejectPulse r sub s).arc.lastRefused = s.arc.lastRefused := by unfold rejectPulse; (repeat' split) <;> simp
@[simp] theorem rejectPulse_stg_staged (r : RefReason) (sub : SubReason) : (rejectPulse r sub s).stg.staged = s.stg.staged := by unfold rejectPulse; (repeat' split) <;> simp
@[simp] theorem rejectPulse_stg_openGap (r : RefReason) (sub : SubReason) : (rejectPulse r sub s).stg.openGap = s.stg.openGap := by unfold rejectPulse; (repeat' split) <;> simp
@[simp] theorem rejectPulse_evu_chain (r : RefReason) (sub : SubReason) : (rejectPulse r sub s).evu.chain = s.evu.chain := by unfold rejectPulse; (repeat' split) <;> simp

@[simp] theorem abortRead_arc_area (sub : SubReason) : (abortRead sub s).arc.area = s.arc.area := by simp [abortRead]
@[simp] theorem abortRead_arc_enable (sub : SubReason) : (abortRead sub s).arc.enable = s.arc.enable := by simp [abortRead]
@[simp] theorem abortRead_arc_mask (sub : SubReason) : (abortRead sub s).arc.mask = s.arc.mask := by simp [abortRead]
@[simp] theorem abortRead_arc_copies (sub : SubReason) : (abortRead sub s).arc.copies = s.arc.copies := by simp [abortRead]
@[simp] theorem abortRead_arc_lent (sub : SubReason) : (abortRead sub s).arc.lent = s.arc.lent := by simp [abortRead]
@[simp] theorem abortRead_arc_openSeg (sub : SubReason) : (abortRead sub s).arc.openSeg = s.arc.openSeg := by simp [abortRead]
@[simp] theorem abortRead_arc_closing (sub : SubReason) : (abortRead sub s).arc.closing = s.arc.closing := by simp [abortRead]
@[simp] theorem abortRead_arc_requests (sub : SubReason) : (abortRead sub s).arc.requests = s.arc.requests := by simp [abortRead]
@[simp] theorem abortRead_arc_linkReset (sub : SubReason) : (abortRead sub s).arc.linkReset = s.arc.linkReset := by simp [abortRead]
@[simp] theorem abortRead_arc_hand (sub : SubReason) : (abortRead sub s).arc.hand = s.arc.hand := by simp [abortRead]
@[simp] theorem abortRead_arc_handRead (sub : SubReason) : (abortRead sub s).arc.handRead = s.arc.handRead := by simp [abortRead]
@[simp] theorem abortRead_arc_handHeld (sub : SubReason) : (abortRead sub s).arc.handHeld = s.arc.handHeld := by simp [abortRead]
@[simp] theorem abortRead_arc_entryWrites (sub : SubReason) : (abortRead sub s).arc.entryWrites = s.arc.entryWrites := by simp [abortRead]
@[simp] theorem abortRead_arc_lastRefused (sub : SubReason) : (abortRead sub s).arc.lastRefused = s.arc.lastRefused := by simp [abortRead]
@[simp] theorem abortRead_stg_staged (sub : SubReason) : (abortRead sub s).stg.staged = s.stg.staged := by simp [abortRead]
@[simp] theorem abortRead_stg_openGap (sub : SubReason) : (abortRead sub s).stg.openGap = s.stg.openGap := by simp [abortRead]
@[simp] theorem abortRead_evu_chain (sub : SubReason) : (abortRead sub s).evu.chain = s.evu.chain := by simp [abortRead]

@[simp] theorem acceptPulse_arc_area (q : Pulse) (w : Window) (o : List Pick) : (acceptPulse q w o s).arc.area = s.arc.area := by unfold acceptPulse; dsimp only; split <;> simp
@[simp] theorem acceptPulse_arc_enable (q : Pulse) (w : Window) (o : List Pick) : (acceptPulse q w o s).arc.enable = s.arc.enable := by unfold acceptPulse; dsimp only; split <;> simp
@[simp] theorem acceptPulse_arc_mask (q : Pulse) (w : Window) (o : List Pick) : (acceptPulse q w o s).arc.mask = s.arc.mask := by unfold acceptPulse; dsimp only; split <;> simp
@[simp] theorem acceptPulse_arc_copies (q : Pulse) (w : Window) (o : List Pick) : (acceptPulse q w o s).arc.copies = s.arc.copies := by unfold acceptPulse; dsimp only; split <;> simp
@[simp] theorem acceptPulse_arc_lent (q : Pulse) (w : Window) (o : List Pick) : (acceptPulse q w o s).arc.lent = s.arc.lent := by unfold acceptPulse; dsimp only; split <;> simp
@[simp] theorem acceptPulse_arc_openSeg (q : Pulse) (w : Window) (o : List Pick) : (acceptPulse q w o s).arc.openSeg = s.arc.openSeg := by unfold acceptPulse; dsimp only; split <;> simp
@[simp] theorem acceptPulse_arc_closing (q : Pulse) (w : Window) (o : List Pick) : (acceptPulse q w o s).arc.closing = s.arc.closing := by unfold acceptPulse; dsimp only; split <;> simp
@[simp] theorem acceptPulse_arc_requests (q : Pulse) (w : Window) (o : List Pick) : (acceptPulse q w o s).arc.requests = s.arc.requests := by unfold acceptPulse; dsimp only; split <;> simp
@[simp] theorem acceptPulse_arc_linkReset (q : Pulse) (w : Window) (o : List Pick) : (acceptPulse q w o s).arc.linkReset = s.arc.linkReset := by unfold acceptPulse; dsimp only; split <;> simp
@[simp] theorem acceptPulse_arc_hand (q : Pulse) (w : Window) (o : List Pick) : (acceptPulse q w o s).arc.hand = s.arc.hand := by unfold acceptPulse; dsimp only; split <;> simp
@[simp] theorem acceptPulse_arc_handRead (q : Pulse) (w : Window) (o : List Pick) : (acceptPulse q w o s).arc.handRead = s.arc.handRead := by unfold acceptPulse; dsimp only; split <;> simp
@[simp] theorem acceptPulse_arc_handHeld (q : Pulse) (w : Window) (o : List Pick) : (acceptPulse q w o s).arc.handHeld = s.arc.handHeld := by unfold acceptPulse; dsimp only; split <;> simp
@[simp] theorem acceptPulse_arc_entryWrites (q : Pulse) (w : Window) (o : List Pick) : (acceptPulse q w o s).arc.entryWrites = s.arc.entryWrites := by unfold acceptPulse; dsimp only; split <;> simp
@[simp] theorem acceptPulse_arc_lastRefused (q : Pulse) (w : Window) (o : List Pick) : (acceptPulse q w o s).arc.lastRefused = s.arc.lastRefused := by unfold acceptPulse; dsimp only; split <;> simp
@[simp] theorem acceptPulse_stg_staged (q : Pulse) (w : Window) (o : List Pick) : (acceptPulse q w o s).stg.staged = s.stg.staged := by unfold acceptPulse; dsimp only; split <;> simp
@[simp] theorem acceptPulse_stg_openGap (q : Pulse) (w : Window) (o : List Pick) : (acceptPulse q w o s).stg.openGap = s.stg.openGap := by unfold acceptPulse; dsimp only; split <;> simp
@[simp] theorem acceptPulse_evu_chain (q : Pulse) (w : Window) (o : List Pick) : (acceptPulse q w o s).evu.chain = s.evu.chain := by unfold acceptPulse; dsimp only; split <;> simp

@[simp] theorem loseReference_arc_area : (loseReference s).arc.area = s.arc.area := by unfold loseReference; (repeat' split) <;> simp
@[simp] theorem loseReference_arc_enable : (loseReference s).arc.enable = s.arc.enable := by unfold loseReference; (repeat' split) <;> simp
@[simp] theorem loseReference_arc_mask : (loseReference s).arc.mask = s.arc.mask := by unfold loseReference; (repeat' split) <;> simp
@[simp] theorem loseReference_arc_copies : (loseReference s).arc.copies = s.arc.copies := by unfold loseReference; (repeat' split) <;> simp
@[simp] theorem loseReference_arc_lent : (loseReference s).arc.lent = s.arc.lent := by unfold loseReference; (repeat' split) <;> simp
@[simp] theorem loseReference_arc_openSeg : (loseReference s).arc.openSeg = s.arc.openSeg := by unfold loseReference; (repeat' split) <;> simp
@[simp] theorem loseReference_arc_closing : (loseReference s).arc.closing = s.arc.closing := by unfold loseReference; (repeat' split) <;> simp
@[simp] theorem loseReference_arc_requests : (loseReference s).arc.requests = s.arc.requests := by unfold loseReference; (repeat' split) <;> simp
@[simp] theorem loseReference_arc_linkReset : (loseReference s).arc.linkReset = s.arc.linkReset := by unfold loseReference; (repeat' split) <;> simp
@[simp] theorem loseReference_arc_hand : (loseReference s).arc.hand = s.arc.hand := by unfold loseReference; (repeat' split) <;> simp
@[simp] theorem loseReference_arc_handRead : (loseReference s).arc.handRead = s.arc.handRead := by unfold loseReference; (repeat' split) <;> simp
@[simp] theorem loseReference_arc_handHeld : (loseReference s).arc.handHeld = s.arc.handHeld := by unfold loseReference; (repeat' split) <;> simp
@[simp] theorem loseReference_arc_entryWrites : (loseReference s).arc.entryWrites = s.arc.entryWrites := by unfold loseReference; (repeat' split) <;> simp
@[simp] theorem loseReference_arc_lastRefused : (loseReference s).arc.lastRefused = s.arc.lastRefused := by unfold loseReference; (repeat' split) <;> simp
@[simp] theorem loseReference_stg_staged : (loseReference s).stg.staged = s.stg.staged := by unfold loseReference; (repeat' split) <;> simp
@[simp] theorem loseReference_stg_openGap : (loseReference s).stg.openGap = s.stg.openGap := by unfold loseReference; (repeat' split) <;> simp
@[simp] theorem loseReference_evu_chain : (loseReference s).evu.chain = s.evu.chain := by unfold loseReference; (repeat' split) <;> simp

@[simp] theorem changeOsc_arc_area (o : OscState) : (changeOsc o s).arc.area = s.arc.area := by simp [changeOsc]
@[simp] theorem changeOsc_arc_enable (o : OscState) : (changeOsc o s).arc.enable = s.arc.enable := by simp [changeOsc]
@[simp] theorem changeOsc_arc_mask (o : OscState) : (changeOsc o s).arc.mask = s.arc.mask := by simp [changeOsc]
@[simp] theorem changeOsc_arc_copies (o : OscState) : (changeOsc o s).arc.copies = s.arc.copies := by simp [changeOsc]
@[simp] theorem changeOsc_arc_lent (o : OscState) : (changeOsc o s).arc.lent = s.arc.lent := by simp [changeOsc]
@[simp] theorem changeOsc_arc_openSeg (o : OscState) : (changeOsc o s).arc.openSeg = s.arc.openSeg := by simp [changeOsc]
@[simp] theorem changeOsc_arc_closing (o : OscState) : (changeOsc o s).arc.closing = s.arc.closing := by simp [changeOsc]
@[simp] theorem changeOsc_arc_requests (o : OscState) : (changeOsc o s).arc.requests = s.arc.requests := by simp [changeOsc]
@[simp] theorem changeOsc_arc_linkReset (o : OscState) : (changeOsc o s).arc.linkReset = s.arc.linkReset := by simp [changeOsc]
@[simp] theorem changeOsc_arc_hand (o : OscState) : (changeOsc o s).arc.hand = s.arc.hand := by simp [changeOsc]
@[simp] theorem changeOsc_arc_handRead (o : OscState) : (changeOsc o s).arc.handRead = s.arc.handRead := by simp [changeOsc]
@[simp] theorem changeOsc_arc_handHeld (o : OscState) : (changeOsc o s).arc.handHeld = s.arc.handHeld := by simp [changeOsc]
@[simp] theorem changeOsc_arc_entryWrites (o : OscState) : (changeOsc o s).arc.entryWrites = s.arc.entryWrites := by simp [changeOsc]
@[simp] theorem changeOsc_arc_lastRefused (o : OscState) : (changeOsc o s).arc.lastRefused = s.arc.lastRefused := by simp [changeOsc]
@[simp] theorem changeOsc_stg_staged (o : OscState) : (changeOsc o s).stg.staged = s.stg.staged := by simp [changeOsc]
@[simp] theorem changeOsc_stg_openGap (o : OscState) : (changeOsc o s).stg.openGap = s.stg.openGap := by simp [changeOsc]
@[simp] theorem changeOsc_evu_chain (o : OscState) : (changeOsc o s).evu.chain = s.evu.chain := by simp [changeOsc]

@[simp] theorem movePort_stg_staged (n : Fin 8) (p : Port) : (movePort n p s).stg.staged = s.stg.staged := by simp [movePort]
@[simp] theorem movePort_stg_openGap (n : Fin 8) (p : Port) : (movePort n p s).stg.openGap = s.stg.openGap := by simp [movePort]
@[simp] theorem movePort_evu_chain (n : Fin 8) (p : Port) : (movePort n p s).evu.chain = s.evu.chain := by simp [movePort]

@[simp] theorem linkResetRecord_stg_staged (c : LinkCauses) : (linkResetRecord c s).stg.staged = s.stg.staged := by unfold linkResetRecord; dsimp only; (repeat' split) <;> simp
@[simp] theorem linkResetRecord_stg_openGap (c : LinkCauses) : (linkResetRecord c s).stg.openGap = s.stg.openGap := by unfold linkResetRecord; dsimp only; (repeat' split) <;> simp
@[simp] theorem linkResetRecord_evu_chain (c : LinkCauses) : (linkResetRecord c s).evu.chain = s.evu.chain := by unfold linkResetRecord; dsimp only; (repeat' split) <;> simp

end Sys2Proof.Machine
end

