-- ==== Sys2Proof/Laws/Causes.lean ====
section
/-! SUPPORT. The CAUSE bits: what a cause event, a status block event and the starvation rule do to the area controller (R139, R140,
R150, R155, R156). -/

namespace Sys2Proof.Machine

variable (a : Arc) (s : State) (c d : Cause)

theorem Cause.mask_bit (h : d ≠ c) : c.mask.getLsbD d.num = false := by
  cases c <;> cases d <;> first | exact absurd rfl h | rfl

theorem Cause.mask_own : c.mask.getLsbD c.num = true := by cases c <;> rfl

/-- A cause event sets its bit. -/
@[simp] theorem Arc.raise_has : (a.raise c).has c = true := by
  unfold Arc.raise
  split
  · assumption
  · split <;> simp [Arc.has, BitVec.getLsbD_or, Cause.mask_own]

/-- A cause event leaves every other bit. -/
theorem Arc.raise_has_other (h : d ≠ c) : (a.raise c).has d = a.has d := by
  unfold Arc.raise
  split
  · rfl
  · split <;> simp [Arc.has, BitVec.getLsbD_or, Cause.mask_bit c d h]

/-- A cause event changes the bits and the messages alone. -/
theorem Arc.raise_frame : a.raise c = { a with
    cause := (a.raise c).cause, messages := (a.raise c).messages, messaged := (a.raise c).messaged } := by
  unfold Arc.raise
  split
  · rfl
  · split <;> rfl

@[simp] theorem statusEvent_arc_cause : (statusEvent s).arc.cause = s.arc.cause := by
  unfold statusEvent; (repeat' split) <;> rfl
@[simp] theorem statusEvent_arc_starved : (statusEvent s).arc.starved = s.arc.starved := by
  unfold statusEvent; (repeat' split) <;> rfl
@[simp] theorem statusEvent_arc_messages : (statusEvent s).arc.messages = s.arc.messages := by
  unfold statusEvent; (repeat' split) <;> rfl
@[simp] theorem statusEvent_arc_messaged : (statusEvent s).arc.messaged = s.arc.messaged := by
  unfold statusEvent; (repeat' split) <;> rfl

/-- A status block event changes the status block image alone. -/
theorem statusEvent_frame : (statusEvent s).arc = { s.arc with status := (statusEvent s).arc.status } := by
  unfold statusEvent; (repeat' split) <;> rfl

/-- The starvation rule changes the flags, the STARVED bit and the messages alone. -/
theorem noteStarved_frame (st : Stream) : (noteStarved st s).arc = { s.arc with
    starved := (noteStarved st s).arc.starved, cause := (noteStarved st s).arc.cause
    messages := (noteStarved st s).arc.messages, messaged := (noteStarved st s).arc.messaged } := by
  unfold noteStarved
  split
  · simp only [raise]; rw [Arc.raise_frame]
  · rfl

theorem noteStarved_has_other (st : Stream) (h : d ≠ .starved) : (noteStarved st s).arc.has d = s.arc.has d := by
  unfold noteStarved
  split
  · simp only [raise]; rw [Arc.raise_has_other _ _ _ h]; rfl
  · rfl

theorem checkStarved_frame : (checkStarved s).arc = { s.arc with
    starved := (checkStarved s).arc.starved, cause := (checkStarved s).arc.cause
    messages := (checkStarved s).arc.messages, messaged := (checkStarved s).arc.messaged } := by
  unfold checkStarved
  rw [noteStarved_frame, noteStarved_frame, noteStarved_frame]

theorem checkStarved_has_other (h : d ≠ .starved) : (checkStarved s).arc.has d = s.arc.has d := by
  unfold checkStarved
  rw [noteStarved_has_other _ _ _ h, noteStarved_has_other _ _ _ h, noteStarved_has_other _ _ _ h]

end Sys2Proof.Machine
end

