-- ==== Sys2Proof/Laws/Evidence.lean ====
section
/-! SUPPORT. Every shared operation that makes evidence keeps the reservations (R87, R120). -/

namespace Sys2Proof.Machine

variable {s : State}

theorem evidenceRoom_iff (s : State) : evidenceRoom s = true ↔
    s.evu.queue.length < evidencePlaces ∧ s.stg.staged.evidence.length + s.stg.reserved < evidenceSlots := by
  simp [evidenceRoom]

/-- The invariant speaks of the queue, the reserved count and the evidence staging alone. -/
theorem EvidenceHeld.congr {t : State} (h : EvidenceHeld s) (hq : t.evu.queue.length = s.evu.queue.length)
    (hr : t.stg.reserved = s.stg.reserved) (hs : t.stg.staged.evidence = s.stg.staged.evidence) : EvidenceHeld t := by
  simpa [EvidenceHeld, hq, hr, hs] using h

theorem EvidenceHeld.pushEvidence (h : EvidenceHeld s) (hr : evidenceRoom s = true) (b : EvBody) (asked : Bool) :
    EvidenceHeld (pushEvidence b asked s) := by
  rw [evidenceRoom_iff] at hr
  obtain ⟨h1, h2, h3⟩ := h
  refine ⟨?_, ?_, ?_⟩ <;> simp [Machine.pushEvidence] <;> omega

theorem EvidenceHeld.flushReset (h : EvidenceHeld s) : EvidenceHeld (flushReset s) := by
  unfold Machine.flushReset
  split
  · exact h
  · split
    · exact EvidenceHeld.pushEvidence (h.congr rfl rfl rfl) (by simpa [evidenceRoom] using ‹evidenceRoom s = true›) _ _
    · exact h

theorem EvidenceHeld.onAcc (h : EvidenceHeld s) (f : Accum → Accum) : EvidenceHeld (onAcc f s) := h.congr rfl rfl rfl

theorem EvidenceHeld.suppress (h : EvidenceHeld s) : EvidenceHeld (suppress s) := h.congr rfl rfl rfl

theorem EvidenceHeld.makeEvidence (h : EvidenceHeld s) (b : EvBody) : EvidenceHeld (makeEvidence b s) := by
  unfold Machine.makeEvidence
  split
  · exact h.flushReset.pushEvidence ‹_› _ _
  · exact h.flushReset.suppress

theorem EvidenceHeld.statusEvent (h : EvidenceHeld s) : EvidenceHeld (statusEvent s) := h.congr (by simp) (by simp) (by simp)

theorem EvidenceHeld.raise (h : EvidenceHeld s) (c : Cause) : EvidenceHeld (raise c s) := h.congr rfl rfl rfl

theorem EvidenceHeld.checkStarved (h : EvidenceHeld s) : EvidenceHeld (checkStarved s) :=
  h.congr (by simp) (by simp) (by simp)

theorem EvidenceHeld.attemptSummary (h : EvidenceHeld s) : EvidenceHeld (attemptSummary s) := by
  unfold Machine.attemptSummary
  dsimp only
  split
  · exact (h.flushReset.pushEvidence ‹_› _ _).congr rfl rfl rfl
  · exact h.flushReset.congr rfl rfl rfl

theorem EvidenceHeld.summaryStep (h : EvidenceHeld s) : EvidenceHeld (summaryStep s) := by
  unfold Machine.summaryStep
  split
  · exact h.attemptSummary
  · exact h

theorem EvidenceHeld.reportClass (h : EvidenceHeld s) (old : Cls) : EvidenceHeld (reportClass old s) := by
  unfold Machine.reportClass
  split
  · exact h
  · exact (h.makeEvidence _).raise _

theorem EvidenceHeld.evaluateIn (h : EvidenceHeld s) (ts : TsState) : EvidenceHeld (evaluateIn ts s) := by
  have h0 : EvidenceHeld { s with div := s.div.evaluate ts s.osc.state } := h.congr rfl rfl rfl
  exact ((h0.onAcc _).reportClass _).statusEvent

theorem EvidenceHeld.evaluate (h : EvidenceHeld s) : EvidenceHeld (evaluate s) := h.evaluateIn _

theorem EvidenceHeld.pruneSpans (h : EvidenceHeld s) : EvidenceHeld (pruneSpans s) := h.congr (by simp) (by simp) (by simp)

theorem EvidenceHeld.enterDecide (h : EvidenceHeld s) (g : Fin 64) (v : Group) (r c : Nat) (f : NoticeFlags) :
    EvidenceHeld (enterDecide g v r c f s) := by
  unfold Machine.enterDecide
  exact EvidenceHeld.raise (EvidenceHeld.makeEvidence (s := pushNotice _ _ (setGroup _ _ _ s)) (h.congr rfl rfl rfl) _) _

theorem EvidenceHeld.handleDeadline (h : EvidenceHeld s) (d : Deadline) : EvidenceHeld (handleDeadline d s) := by
  unfold Machine.handleDeadline
  split
  · exact h.congr (by simp) (by simp) (by simp)
  · have h' : EvidenceHeld (drawOffset (group s d.group).w s).2 := h.congr (by simp) (by simp) (by simp)
    unfold handleEnd
    dsimp only
    split
    · exact h.enterDecide _ _ _ _ _
    · split
      · exact h'.enterDecide _ _ _ _ _
      · exact h'.congr rfl rfl rfl
  · exact h.enterDecide _ _ _ _ _
  · exact h.congr (by simp) (by simp) (by simp)

theorem EvidenceHeld.handleReady (h : EvidenceHeld s) : EvidenceHeld (handleReady s) := by
  unfold Machine.handleReady
  split
  · exact (h.handleDeadline _).pruneSpans
  · exact h

theorem EvidenceHeld.act (h : EvidenceHeld s) (r : Report) : EvidenceHeld (r.act s) := by
  cases r
  · exact h.onAcc _
  · exact h.onAcc _
  · exact h.makeEvidence _
  · exact (EvidenceHeld.raise (h.makeEvidence _) _).statusEvent
  · exact EvidenceHeld.evaluate (h.congr rfl rfl rfl)
  · exact EvidenceHeld.evaluate (h.congr rfl rfl rfl)
  · exact (h.makeEvidence _).statusEvent

theorem EvidenceHeld.applyMove (h : EvidenceHeld s) (m : Move) : EvidenceHeld (applyMove m s) :=
  h.congr (by simp) (by simp) (by simp)

theorem EvidenceHeld.secondIn (h : EvidenceHeld s) (ts : TsState) : EvidenceHeld (secondIn ts s) := by
  unfold Machine.secondIn
  split
  · refine EvidenceHeld.evaluateIn ?_ ts
    exact h.congr rfl rfl rfl
  · exact h

theorem EvidenceHeld.answer (h : EvidenceHeld s) (o : ReqOutcome) (fs : List Field) : EvidenceHeld (answer o fs s) :=
  h.congr rfl rfl rfl

theorem EvidenceHeld.answerNow (h : EvidenceHeld s) (o : ReqOutcome) (fs : List Field) : EvidenceHeld (answerNow o fs s) :=
  h.congr rfl rfl rfl

theorem EvidenceHeld.answerForTick (h : EvidenceHeld s) (r : TickResult) (fs : List Field) :
    EvidenceHeld (answerForTick r fs (readXt s)) := h.congr rfl rfl rfl

theorem EvidenceHeld.setGroup (h : EvidenceHeld s) (g : Fin 64) (v : Group) (d : Option (Nat × Tag)) :
    EvidenceHeld (setGroup g v d s) := h.congr rfl rfl rfl

theorem EvidenceHeld.pushNotice (h : EvidenceHeld s) (n : Notice) (x : Nat) : EvidenceHeld (pushNotice n x s) :=
  h.congr rfl rfl rfl

/-- A group request makes a record in the shared way, or none. -/
theorem EvidenceHeld.takeGroupRequest (h : EvidenceHeld s) : EvidenceHeld (takeGroupRequest s) := by
  have request : ∀ {t : State} {kind : Nat} {f : List Byte → State → State}, (∀ b t, EvidenceHeld t → EvidenceHeld (f b t)) →
      EvidenceHeld t → EvidenceHeld (takeRequest kind f t) := by
    intro t kind f hf ht
    unfold takeRequest; split
    · exact hf _ _ ht
    · exact ht
  have room : ∀ {t : State} {f : State → State}, EvidenceHeld t → EvidenceHeld (f t) → EvidenceHeld (whenRoom f t) := by
    intro t f ht hf
    unfold whenRoom; split
    · exact hf
    · exact ht
  unfold Machine.takeGroupRequest
  refine request ?_ (request ?_ (request ?_ (request ?_ (request ?_ (request ?_ h))))) <;> intro b t ht
  · unfold takeQueryGroup; split
    · exact ht.answerNow _ _
    · exact ht.answer _ _
  · unfold takeClear refuseGroup
    dsimp only
    (repeat' split) <;> first
      | exact ht.answer _ _
      | exact room ht (((ht.setGroup _ _ _).pushNotice _ _).answerNow _ _)
  · unfold takeDecide refuseGroup
    dsimp only
    (repeat' split) <;> first
      | exact ht.answer _ _
      | exact ht.answerNow _ _
      | exact room ht (((ht.setGroup _ _ _).pushNotice _ _).answerNow _ _)
  · unfold takeCancel refuseGroup
    dsimp only
    (repeat' split) <;> try exact ht.answer _ _
    all_goals
      refine room ht (EvidenceHeld.answerNow ?_ _ _)
      split
      · exact EvidenceHeld.makeEvidence ((ht.setGroup _ _ _).pushNotice _ _) _
      · exact (ht.setGroup _ _ _).pushNotice _ _
  · unfold takeAmend acceptAmend amendTo refuseGroup
    dsimp only
    (repeat' split) <;> first
      | exact ht.answer _ _
      | exact (ht.setGroup _ _ _).answerForTick _ _
      | exact room ht (((ht.setGroup _ _ _).pushNotice _ _).answerNow _ _)
  · unfold takeSchedule acceptSchedule refuseGroup
    dsimp only
    (repeat' split) <;> first
      | exact ht.answer _ _
      | exact (ht.setGroup _ _ _).answerNow _ _
      | exact room ht (((ht.setGroup _ _ _).pushNotice _ _).answerNow _ _)

theorem EvidenceHeld.runOrder (h : EvidenceHeld s) (step : Option Nat) (old : TsState) (ps : List Pick) (rs : List Report) :
    EvidenceHeld (runOrder step old ps rs s) :=
  runOrder_keeps (fun r _ h => h.act r) (fun _ h => h.handleReady) (fun _ h => h.summaryStep) (fun old _ h => h.secondIn old)
    (fun _ h => h.takeGroupRequest) step old ps rs h

/-! ### What a record is made of -/

/-- The pending RESET is made from the evidence unit, the reservations, the oscillator state and a reading alone. -/
theorem flushReset_congr {t : State} (evu : t.evu = s.evu) (reserved : t.stg.reserved = s.stg.reserved)
    (staged : t.stg.staged.evidence = s.stg.staged.evidence) (osc : t.osc = s.osc) (reading : t.reading = s.reading) :
    (flushReset t).evu = (flushReset s).evu ∧ (flushReset t).stg.reserved = (flushReset s).stg.reserved := by
  have hxt : t.tsu.xt = s.tsu.xt := congrArg Reading.xt reading
  have hr : ∀ e : Evu, ({ t with evu := e } : State).reading = ({ s with evu := e } : State).reading := fun _ => reading
  have hroom : evidenceRoom t = evidenceRoom s := by simp [evidenceRoom, evu, reserved, staged]
  unfold flushReset
  rw [evu, hroom]
  split
  · exact ⟨evu, reserved⟩
  · split
    · refine ⟨?_, by simp [pushEvidence, reserved]⟩
      simp only [pushEvidence]
      rw [hr, osc, hxt]
    · exact ⟨evu, reserved⟩

/-- A record is made from the evidence unit, the reservations, the oscillator state and a reading of the tick alone. -/
theorem makeEvidence_congr {t : State} (b : EvBody) (evu : t.evu = s.evu) (reserved : t.stg.reserved = s.stg.reserved)
    (staged : t.stg.staged.evidence = s.stg.staged.evidence) (osc : t.osc = s.osc) (reading : t.reading = s.reading) :
    (makeEvidence b t).evu = (makeEvidence b s).evu := by
  have hxt : t.tsu.xt = s.tsu.xt := congrArg Reading.xt reading
  have hread : ∀ u : State, (flushReset u).reading = u.reading := fun u => by simp [State.reading]
  obtain ⟨h1, h2⟩ := flushReset_congr evu reserved staged osc reading
  have hroom : evidenceRoom (flushReset t) = evidenceRoom (flushReset s) := by simp [evidenceRoom, h1, h2, staged]
  unfold makeEvidence
  rw [hroom]
  split
  · simp only [pushEvidence, h1, hread, reading, flushReset_osc, osc, flushReset_tsu, hxt]
  · simp only [suppress, h1]

/-! ### The queue only grows -/

theorem flushReset_grows (s : State) : ∃ l, (flushReset s).evu.queue = s.evu.queue ++ l := by
  unfold flushReset
  split
  · exact ⟨[], by simp⟩
  · split
    · exact ⟨_, rfl⟩
    · exact ⟨[], by simp⟩

theorem makeEvidence_grows (b : EvBody) (s : State) : ∃ l, (makeEvidence b s).evu.queue = s.evu.queue ++ l := by
  obtain ⟨l, hl⟩ := flushReset_grows s
  unfold makeEvidence
  split
  · exact ⟨l ++ _, by simp only [pushEvidence]; rw [hl, List.append_assoc]⟩
  · exact ⟨l, by simpa [suppress, Evu.onAcc] using hl⟩

theorem evaluateIn_div (ts : TsState) (s : State) : (evaluateIn ts s).div = s.div.evaluate ts s.osc.state := by simp [evaluateIn]

theorem evaluate_div (s : State) : (evaluate s).div = s.div.evaluate s.tsu.state s.osc.state := evaluateIn_div _ s

theorem evaluate_grows (s : State) : ∃ l, (evaluate s).evu.queue = s.evu.queue ++ l := by
  unfold evaluate evaluateIn reportEvaluation reportClass
  simp only [statusEvent_evu]
  split
  · exact ⟨[], by simp [Evu.onAcc]⟩
  · obtain ⟨l, hl⟩ := makeEvidence_grows (.classChange s.div.cls (s.div.evaluate s.tsu.state s.osc.state).cls
      (s.div.evaluate s.tsu.state s.osc.state).u)
      (onAcc (Accum.noteEvaluation (s.div.evaluate s.tsu.state s.osc.state).u (s.div.evaluate s.tsu.state s.osc.state).cls)
        { s with div := s.div.evaluate s.tsu.state s.osc.state })
    exact ⟨l, by simpa [Evu.onAcc] using hl⟩

end Sys2Proof.Machine
end

