-- ==== Sys2Proof/WellFormed.lean ====
section
/-! DEFINITION. What the world can supply to a command: the operand checks. exec is total; a term that fails a check stands for
no step of the part. -/

namespace Sys2Proof

/-- Bit 0 of a CONTROL value is ENABLE and bit 1 LINK_RESET (section 10.2). -/
def controlIs (enable : Option Bool) (linkReset : Bool) (value : RegWord) : Bool :=
  (match enable with
    | some e => value.getLsbD 0 == e
    | none => true) && value.getLsbD 1 == linkReset

/-- Whether a bit period can be one in which a driven bit reads back wrong: the pattern of drivers is the same for every address
and register index (R28, R29). -/
def mismatchBit (bit : Nat) : Bool := Machine.canMismatch (Machine.RefSet.default .kHz100) bit

/-- Whether a bit period is an acknowledge the module owes (R30). -/
def nackBit (bit : Nat) : Bool := Machine.canNack (Machine.RefSet.default .kHz100) bit

/-- The operand checks, command by command. -/
def Instr.wellFormed : Instr → Bool
  | .readComplete window _ => window.length == 16
  | .readAbortMismatch bit => mismatchBit bit
  | .readAbortNack bit => nackBit bit
  | .enableSet value => controlIs (some true) false value
  | .enableClear value => controlIs (some false) false value
  | .maskWrite value => controlIs none false value
  | .linkReset value => controlIs none true value
  | .handFetchComplete entry => entry.all fun e => e.length == 32
  | .slotReadComplete slot => slot.all fun b => b.length == 64
  | .powerOnReset _ | .lockWaitEnd | .pinReset _ | .lockEvent | .lossOfLock | .slewExpiry | .pulseCapture | .readStart
  | .clockHoldTimeout | .readTimeout _ | .recoveryEnd _ | .busStopEnd _ | .lossTimeout | .holdoverSecond | .linkGain _
  | .linkLoss _ | .startOfFrame _ | .endOfFrame _ _ | .mergeRelease | .startDeadline | .endDeadline | .cutoffDeadline
  | .decideLimit | .summaryDue | .pendingReset | .burstStart | .burstComplete _ | .trailerComplete _ _
  | .statusWriteComplete _ | .entryWriteComplete _ _ | .areaWrite _ | .linkHot | .linkResetTakesEffect | .handWrite _
  | .causeWrite _ | .otherRegisterWrite _ | .requestSegmentTake | .slotWriteComplete _ | .stamp | .mark | .setTime _
  | .schedule | .amend | .cancel | .decideClose | .decideExtend | .clear | .queryGroup | .queryPort | .configPortConfigure
  | .configPortEnable | .configPortDisable | .cut | .configDiscipline | .configReference | .configTrace | .tick => true

end Sys2Proof
end

