-- ==== Sys2Proof/Tests/Slice0.lean ====
section
/-! SUPPORT. The model's own tests: the operand checks on ill-formed terms, worked cases of the spec, and for each statement with
hypotheses a concrete state and operands that meet them. -/

namespace Sys2Proof.Tests

-- One test after another: checked side by side, they would take a thread each.
set_option Elab.async false

open Sys2Proof.Machine

/-! ### Small states -/

/-- The state after a command; the state itself if it did not answer one. -/
def after (c : Instr) (s : State) : State :=
  match exec c s with
  | .next t => t
  | .fault _ => s
  | .refused _ => s

/-- The part after reset. -/
def base : State := State.reset

/-- The part at an XT integer and a timescale state. -/
def timed (xt : Nat) (ts : TsState) (s : State) : State := { s with tsu := { s.tsu with xt := xt, state := ts } }

/-- Segment 0 is a running request segment of one slot at address 4,096, and a slot with the fields given is offered. -/
def offer (fields : List Field) (s : State) : State :=
  { s with
    rqp := { cur := some 0, slot := 0, phase := .offered, bytes := layout 64 fields, done := 0, withdrawn := false,
             lateWrites := [], tickResult := none }
    arc := { s.arc with
      copies := s.arc.copies.set 0 (some ⟨.request, 4096, 16, 1, 0, .running⟩), requests := [0] } }

/-- A group's entry. -/
def withGroup (g : Fin 64) (v : Group) (d : List Deadline) (s : State) : State :=
  { s with auc := { s.auc with groups := s.auc.groups.set g v, deadlines := d } }

/-- A port's state. -/
def withPort (n : Fin 8) (p : Port) (s : State) : State := { s with taps := s.taps.set n p }

/-- The host-facing side runs. -/
def enabled (s : State) : State := { s with arc := { s.arc with enable := true, area := 8192 } }

/-- An arrival with no keys. -/
def plain : Arrival := ⟨64, false, false, false, false, .other, none, none, none⟩

/-- A header. -/
def hdrAt (stamp : Nat) : Header := ⟨stamp, 37, .a, .tracking⟩

theorem offered (k : Nat) (fields : List Field) (s : State) (hr : s.osc.phase = .running) (hk : byteAt (layout 64 fields) 0 = k) :
    Offered k (layout 64 fields) (offer fields s) := ⟨hr, rfl, rfl, hk⟩

/-! ### The operand checks refuse ill-formed terms -/

theorem test_wf_readComplete_length : (Instr.readComplete [0x01] []).wellFormed = false := by decide
theorem test_wf_readAbortMismatch_ack : (Instr.readAbortMismatch 9).wellFormed = false := by decide
theorem test_wf_readAbortMismatch_after_end : (Instr.readAbortMismatch 173).wellFormed = false := by decide
theorem test_wf_readAbortNack_driven : (Instr.readAbortNack 8).wellFormed = false := by decide
theorem test_wf_enableSet_clear : (Instr.enableSet 0).wellFormed = false := by decide
theorem test_wf_enableClear_set : (Instr.enableClear 1).wellFormed = false := by decide
theorem test_wf_maskWrite_linkReset : (Instr.maskWrite 2).wellFormed = false := by decide
theorem test_wf_linkReset_zero : (Instr.linkReset 0).wellFormed = false := by decide
theorem test_wf_handFetch_length : (Instr.handFetchComplete (some [0])).wellFormed = false := by decide
theorem test_wf_slotRead_length : (Instr.slotReadComplete (some [])).wellFormed = false := by decide
theorem test_wf_acks : (Instr.readAbortNack 9).wellFormed && (Instr.readAbortNack 18).wellFormed
    && (Instr.readAbortNack 28).wellFormed = true := by decide
theorem test_no_words : decodeTableWord 8 0 = none := rfl

/-! ### Worked cases of the spec -/

/-- 1.11, A tracking update, and after its P has run out. -/
theorem test_inc_tracking : incOf 1365000 = 34359785269 ∧ incOf 1485000 = 34359789392 := by decide
/-- 1.11, A negative rate. -/
theorem test_inc_negative : incOf (-120000) = 34359734245 := by decide
/-- 1.11, SLEWING. -/
theorem test_inc_slewing : incOf (-98514891) = 34356353422 := by decide
/-- 1.11, Truncation with the default gains. -/
theorem test_truncation : let t := ({ Tsu.cleared with f := 1485000 }).update 2 6 (-7)
    t.f = 1485109 ∧ t.p = 1750 ∧ t.inc = 34359789456 ∧ t.slew = .ticks 125000000 := by decide
/-- 1.11, Clamp of F. -/
theorem test_clamp_of_f : (({ Tsu.cleared with f := 199990000 }).update 2 6 (-3200)).f = 200000000
    ∧ ({ Tsu.cleared with f := 199990000 } : Tsu).clampsF 6 (-3200) = true := by decide

/-- The window of the first setting: label 1,767,225,637 s, L 37, valid, U_mod 30 ns. -/
def firstWindow : List Byte :=
  let head := layout 15 [⟨0, 1, 1⟩, ⟨1, 5, 1767225637⟩, ⟨6, 1, 37⟩, ⟨7, 4, 30⟩]
  head ++ [BitVec.ofNat 8 (256 - (head.foldl (fun n b => n + b.toNat) 0) % 256)]

/-- A transaction under way for a pulse, with D_ref 120 ns. -/
def reading (xt capXt : Nat) (s : State) : State :=
  { s with
    tsu := { s.tsu with xt := xt }
    ref := { s.ref with pending := some ⟨capXt, 0⟩, phase := .transaction, bus := .clear, set := { s.ref.set with dRef := 120 } } }

/-- 1.11, First setting of the timescale, and 7.6, its SUMMARY's θ. -/
theorem test_first_setting : let t := after (.readComplete firstWindow []) (reading 2853285000 2851406208 base)
    t.tsu.xt = 1767225637001878912 ∧ t.tsu.theta = -1767225634148593912 ∧ t.tsu.state = .acquiring ∧ t.tsu.leap = 37
      ∧ t.ref.last = some ⟨1767225637, some 1767225637000000120, 0⟩ ∧ t.evu.boundary = 1767225640000000000
      ∧ t.evu.queue.map (fun q => q.body.code) = [0x21, 0x27, 0x24, 0x23, 0x22] := by decide +kernel
/-- 2.3, the bit periods of 400 kHz. -/
theorem test_bit_periods : bitPeriod { RefSet.default .kHz400 with reduction := 0 } = 313
    ∧ bitPeriod { RefSet.default .kHz400 with reduction := 30 } = 407 ∧ bitPeriod (RefSet.default .kHz100) = 1250 := by decide
/-- 2.2, R27, R29: a bit of 313 ticks, held low for 5, is sampled as its phases give. -/
theorem test_sample_points : let set := RefSet.default .kHz400
    (BusBit.driven true).sampledAt set 5 = some 162 ∧ BusBit.stop.sampledAt set 5 = some 318
      ∧ (transaction set)[19]? = some .restart ∧ BusBit.restart.dataLine = (true, false) := by decide +kernel
/-- 2.3, a read has 174 bit periods. -/
theorem test_transaction_length : (transaction (RefSet.default .kHz100)).length = 174 := by decide +kernel
/-- 5.2, SETTLE. -/
theorem test_settle : settleOf (Vector.replicate 8 none) = 1250
    ∧ settleOf ((Vector.replicate 8 none).set 0 (some 250)) = 1282 ∧ settleOf ((Vector.replicate 8 none).set 3 (some 4000)) = 1750
    ∧ settleOf ((Vector.replicate 8 none).set 7 (some 16383)) = 3298 := by decide
/-- R132, the check values. -/
theorem test_crc : crc32 [0x31, 0x32, 0x33, 0x34, 0x35, 0x36, 0x37, 0x38, 0x39] = 0xCBF43926 ∧ crc32 [] = 0 := by
  decide +kernel
/-- 11.2, the returning pulse: the terms of θ = -1,150 ns. -/
theorem test_returning_pulse : let t := ({ Tsu.cleared with f := 0 }).update 2 6 (-1150)
    t.f = 17968 ∧ t.p = 287500 := by decide
/-- 11.2, the holdover bound: 290 ns and 20 ns/s, at 485 s and 486 s, around LIMIT_A of 10,000 ns. -/
theorem test_holdover_bound : let d := { Div.cleared with u0 := 290, trace := { TraceSet.default with limitA := 10000 } }
    ({ d with secs := 485 } : Div).bound .holdover .locked = 9990
      ∧ (({ d with secs := 486 } : Div).evaluate .holdover .locked).raw = .b := by decide
/-- 7.2, the boundary after the first setting. -/
theorem test_boundary : nextBoundary 10 1767225637001878912 = 1767225640000000000 := by decide

/-! ### Witnesses: steps and resets -/

theorem test_witness_step : base.pending = [] := rfl

/-- A part in the lock wait. -/
def waiting (low : Bool) : State := { base with osc := ⟨.lockWait low low, .backup, 0⟩ }

theorem test_witness_lock_wait : (waiting false).osc.phase = .lockWait false false ∧ (waiting true).osc.phase = .lockWait true true
    ∧ (waiting true).osc.state = .backup := by decide

theorem test_witness_pin : base.osc.phase = .running ∧ ({ base with osc := ⟨.held true, .locked, 0⟩ } : State).osc.phase = .held true
    ∧ (waiting true).osc.phase = .lockWait true true := by decide

/-- The wait of a power-on with RESET_N low, and with RESET_N high. -/
theorem test_witness_power_on :
    (true = true ↔ (∃ power, (waiting true).osc.phase = .held power) ∨ ∃ seen, (waiting true).osc.phase = .lockWait true seen)
    ∧ (false = true ↔ (∃ power, base.osc.phase = .held power) ∨ ∃ seen, base.osc.phase = .lockWait true seen) :=
  ⟨⟨fun _ => .inr ⟨true, rfl⟩, fun _ => rfl⟩, ⟨nofun, by rintro (⟨p, h⟩ | ⟨p, h⟩) <;> cases h⟩⟩
/-- R2: the part leaves a power-on with RESET_N low at its release, and then the RESET record names both causes. -/
theorem test_witness_left_reset (straps : Straps) :
    (∃ t, LeftReset straps (waiting true) t ∧ t.evu.queue.map (fun q => q.body) = [.reset ⟨true, true, false, false⟩ .backup])
    ∧ (∃ t, LeftReset straps (waiting false) t) ∧ ∃ t, LeftReset straps base t ∧ t.evu.queue.length = 1 :=
  ⟨⟨_, ⟨rfl, .inl ⟨_, _, rfl, .inl rfl, .inr rfl⟩⟩, rfl⟩, ⟨_, rfl, .inl ⟨_, _, rfl, .inl rfl, .inl rfl⟩⟩,
    _, ⟨rfl, .inr ⟨rfl, _, rfl, rfl⟩⟩, rfl⟩

theorem test_witness_oscillator : base.osc.phase = .running ∧ base.osc.state = .locked
    ∧ ({ base with osc := ⟨.running, .backup, 7⟩ } : State).osc.state = .backup
    ∧ ({ base with osc := ⟨.held true, .locked, 0⟩ } : State).osc.phase = .held true
    ∧ (waiting false).osc.phase = .lockWait false false := by decide

/-! ### Witnesses: timescale -/

/-- XT and the tick counter just below their tops, a fraction of all ones. -/
def high : State := { base with
  osc := { base.osc with tick := 2 ^ 64 - 2 }, tsu := { base.tsu with xt := 2 ^ 64 - 10, frac := 2 ^ 32 - 1, slew := .ticks 1 } }

theorem test_witness_tick : high.osc.phase = .running ∧ high.tsu.frac < 2 ^ 32 ∧ high.osc.tick + 1 < 2 ^ 64
    ∧ high.tsu.xt * 2 ^ 32 + high.tsu.frac + high.tsu.inc < 2 ^ 96 ∧ high.tsu.slew = .ticks (0 + 1) ∧ base.tsu.slew = .ticks 0 := by
  decide
theorem test_witness_inc : (-300000000 : Int) ≤ -300000000 ∧ (-300000000 : Int) ≤ 300000000 ∧ (300000000 : Int) ≤ 300000000 := by
  decide
theorem test_witness_transition : let d := DiscSet.default
    (d.lock : Int) < d.step ∧ |(1000 : Int)| ≤ d.lock ∧ (d.lock : Int) < |(-1001 : Int)| ∧ -(d.step : Int) ≤ -50000
      ∧ (50000 : Int) ≤ d.step ∧ (-50001 : Int) < -d.step ∧ (d.step : Int) < 50001 ∧ (1000 : Int) ≤ d.lock ∧ (d.lock : Int) < 1001
      ∧ (timed 0 .slewing base).tsu.state = .slewing := by decide

/-- An act that keeps no reading has used this tick's XT. -/
def seen (s : State) : State := { s with tsu := { s.tsu with xtRead := true } }
/-- A SET_TIME of 10^9 ns with a declared uncertainty of 500 ns. -/
def setTimeSlot : List Field := [⟨0, 1, 0x03⟩, ⟨16, 8, 1000000000⟩, ⟨24, 4, 500⟩]
theorem test_witness_set_time : Offered 0x03 (layout 64 setTimeSlot) (offer setTimeSlot base) ∧ base.tsu.state = .unset
    ∧ base.tsu.xt < fieldAt (layout 64 setTimeSlot) 16 8
    ∧ (timed 1000000000 .unset base).tsu.xt = fieldAt (layout 64 setTimeSlot) 16 8 ∧ (timed 0 .holdover base).tsu.state ≠ .unset
    ∧ base.tsu.xtRead = false ∧ (seen base).tsu.xtRead = true :=
  ⟨offered _ _ _ rfl (by decide), by decide⟩
theorem test_set_time : let t := after (.setTime []) (offer setTimeSlot base)
    t.tsu.xt = 1000000000 ∧ t.tsu.state = .holdover ∧ t.div.u = 500 := by decide +kernel
/-- R6: the RESET record of the tick of the step is stamped with XT after the step; one of an earlier tick is not. -/
theorem test_readings_of_the_tick :
    (after (.setTime []) (offer setTimeSlot base)).evu.queue.map (fun q => (q.body.code, q.hdr.stamp))
      = [(0x21, 1000000000), (0x24, 1000000000)]
    ∧ (after (.setTime []) (offer setTimeSlot (after .tick base))).evu.queue.map (fun q => q.hdr.stamp) = [0, 1000000000] := by
  decide +kernel

/-- R6, R128: a SUMMARY of the tick of the step ends its interval at XT after the step, and no second one follows. -/
theorem test_summary_then_step :
    let s := offer (⟨16, 8, 10 ^ 11⟩ :: setTimeSlot) (timed (10 ^ 10) .unset base)
    let t := after .summaryDue (after (.setTime []) (after .summaryDue s))
    t.evu.start = 10 ^ 11 ∧ t.evu.boundary = 11 * 10 ^ 10
      ∧ t.evu.queue.filterMap (fun q => if q.body.code = 0x22 then some q.hdr.stamp else none) = [10 ^ 11] := by
  decide +kernel
/-- R6: once the XT of a tick is used without a reading, the step waits for a later tick. -/
theorem test_step_waits : let s := offer setTimeSlot (seen base)
    (after (.setTime []) s).tsu.xt = 0 ∧ (after (.setTime []) (after .tick s)).tsu.xt = 1000000000 := by decide +kernel

/-- The default discipline set in a slot, with a KP acquisition to choose, and the same with LOSS_COUNT 0. -/
def disciplineSlot (kp loss : Nat) : List Field := ⟨0, 1, 0x40⟩ :: { DiscSet.default with kpAcq := kp, loss := loss }.fields 16
/-- The default reference set in a slot, with an address to choose. -/
def referenceSlot (address : Nat) : List Field := ⟨0, 1, 0x41⟩ :: { RefSet.default .kHz100 with address := address }.fields 16
theorem test_witness_config_discipline : Offered 0x40 (layout 64 (disciplineSlot 16 60)) (offer (disciplineSlot 16 60) base)
    ∧ DiscSet.legal { readDiscipline (layout 64 (disciplineSlot 16 60)) with kpAcq := 15 }
    ∧ ¬DiscSet.legal (readDiscipline (layout 64 (disciplineSlot 1 0))) :=
  ⟨offered _ _ _ rfl (by decide), by unfold DiscSet.legal; decide, by unfold DiscSet.legal; decide⟩
theorem test_witness_config_reference : Offered 0x41 (layout 64 (referenceSlot 0x77)) (offer (referenceSlot 0x77) base)
    ∧ readReference (layout 64 (referenceSlot 0x77)) = some { RefSet.default .kHz100 with address := 0x77 }
    ∧ readReference (layout 64 (referenceSlot 0x78)) = none ∧ base.ref.kind = .pulseAndModule
    ∧ ({ base with ref := Ref.cleared ⟨.noReference, .kHz100⟩ } : State).ref.kind = .noReference :=
  ⟨offered _ _ _ rfl (by decide), by decide⟩

/-! ### Witnesses: reference reader -/

/-- A part at a tick with a pulse accepted at tick 0. -/
def afterPulse (tick : Nat) : State :=
  { base with osc := { base.osc with tick := tick }, ref := { base.ref with last := some ⟨5, some 0, 0⟩, state := .good } }
theorem test_witness_pulse_capture : (afterPulse 62500000).osc.phase = .running
    ∧ (∃ l, (afterPulse 62500000).ref.last = some l ∧ (afterPulse 62500000).osc.tick ≤ 62500000 + l.capTick)
    ∧ ¬(∃ l, (afterPulse 62500001).ref.last = some l ∧ (afterPulse 62500001).osc.tick ≤ 62500000 + l.capTick)
    ∧ (afterPulse 62500001).ref.pending = none ∧ (afterPulse 62500001).ref.kind = .pulseAndModule := by
  refine ⟨rfl, ⟨_, rfl, by decide⟩, ?_, rfl, rfl⟩
  rintro ⟨l, hl, h⟩
  cases hl
  exact absurd h (by decide)
theorem test_early_at_the_edge : (after .pulseCapture (afterPulse 62500000)).evu.acc.lastReject = some (.early, .none)
    ∧ (after .pulseCapture (afterPulse 62500001)).ref.pending = some ⟨0, 62500001⟩ := by decide +kernel
theorem test_witness_rejected : base.ref.state = .bad ∧ (afterPulse 0).ref.state = .good := by decide

/-- The bus engine at a place, with a pulse pending since tick 0. -/
def busAt (phase : BusPhase) (tick : Nat) : State :=
  { base with osc := { base.osc with tick := tick }, ref := { base.ref with pending := some ⟨0, 0⟩, phase := phase } }
theorem test_witness_reads : (busAt .idle 0).osc.phase = .running ∧ (busAt .idle 0).ref.pending.isSome
    ∧ (busAt .opening 0).ref.phase = .opening ∧ (busAt .recovering 0).ref.phase = .recovering
    ∧ (busAt .stopping 0).ref.phase = .stopping := by decide
theorem test_witness_aborts : (busAt .transaction 62500000).ref.pending = some ⟨0, 0⟩
    ∧ (8 ≤ 8 ∧ 10 ≤ 17 ∧ 19 ≤ 27 ∧ 172 ≤ 172 ∧ (37 - 37) % 9 = 0 ∧ (172 - 37) % 9 = 0) ∧ (busAt .opening 0).ref.phase = .opening
    ∧ 62500000 + 0 ≤ (busAt .transaction 62500000).osc.tick := by decide
/-- R28 to R30, 2.3: the bit periods the part drives or reads back, and the three acknowledges the module owes. -/
theorem test_bits : let set := RefSet.default .kHz100
    [0, 8, 10, 17, 19, 27, 37, 172].all (canMismatch set) = true ∧ [9, 18, 28, 29, 36, 38, 173].any (canMismatch set) = false
      ∧ [9, 18, 28].all (canNack set) = true ∧ [8, 10, 17, 19, 27, 29, 37, 172].any (canNack set) = false := by decide +kernel
theorem test_timeout_at_the_limit : (after (.readTimeout true) (busAt .transaction 62500000)).ref.phase = .stopping
    ∧ (after (.readTimeout true) (busAt .transaction 62499999)).ref.pending = some ⟨0, 0⟩ := by decide +kernel

/-- A window of a label, valid or not, with the antenna bit. -/
def window (flags label : Nat) : List Byte :=
  let head := layout 15 [⟨0, 1, flags⟩, ⟨1, 5, label⟩]
  head ++ [BitVec.ofNat 8 (256 - (head.foldl (fun n b => n + b.toNat) 0) % 256)]
/-- A read of a pulse captured at an XT, with label 5 accepted at XT 5 s before. -/
def second (capXt : Nat) (ts : TsState) : State :=
  timed capXt ts { base with ref := { base.ref with
    pending := some ⟨capXt, 0⟩, phase := .transaction, last := some ⟨5, some 5000000000, 0⟩ } }
theorem test_witness_checks : (second 6000500001 .tracking).osc.phase = .running ∧ (second 0 .tracking).ref.phase = .transaction
    ∧ (window 1 6).length = 16 ∧ ((window 1 6).map BitVec.toNat).sum % 256 = 0
    ∧ ((0 :: (window 1 6).drop 1).map BitVec.toNat).sum % 256 ≠ 0 ∧ (byteAt (window 2 6) 0).testBit 0 = false
    ∧ (byteAt (window 2 6) 0).testBit 1 = true ∧ (byteAt (window 1 6) 0).testBit 0 = true
    ∧ fieldAt (window 1 6) 1 5 = 6 := by decide +kernel
theorem test_checks : (after (.readComplete (window 1 5) []) (second 6000000000 .tracking)).evu.acc.lastReject = some (.stale, .none)
    ∧ (after (.readComplete (window 1 6) []) (second 6000500001 .tracking)).evu.acc.lastReject = some (.offGrid, .none)
    ∧ (after (.readComplete (window 1 6) []) (second 6000500000 .tracking)).evu.acc.accepted = 1
    ∧ (after (.readComplete (window 2 6) []) (second 6000000000 .tracking)).evu.acc.lastReject = some (.noFix, .antenna)
    ∧ (after (.readComplete (window 1 6) []) (second 6000000001 .unset)).evu.acc.lastReject = some (.backward, .none) := by
  decide +kernel
/-- The last accepted pulse has lost its capture XT, and group 63 has a deadline at 300 ns: label 6 steps XT past it. -/
def behind : State := let s := second 0 .tracking
  { s with ref := { s.ref with last := some ⟨5, none, 0⟩ }, auc := { s.auc with deadlines := [⟨300, 63, .end_⟩] } }
/-- The same in a holdover spell that began at XT 0, at XT 100. -/
def heldBehind : State := timed 100 .holdover { behind with
  auc := { behind.auc with deadlines := [] }, div := { behind.div with base := some 0 } }
theorem test_witness_accepted : (second 6000500000 .tracking).ref.pending = some ⟨6000500000, 0⟩ ∧ (window 1 6).length = 16
    ∧ (second 6000500000 .tracking).ref.last = some ⟨5, some 5000000000, 0⟩ ∧ 5 < fieldAt (window 1 6) 1 5
    ∧ |(6000500000 : Int) - (5000000000 + 10 ^ 9 * (6 - 5))| ≤ ((second 6000500000 .tracking).ref.set.tolerance : Int)
    ∧ (byteAt (window 1 6) 0).testBit 0 = true ∧ ((window 1 6).map BitVec.toNat).sum % 256 = 0
    ∧ behind.ref.pending = some ⟨0, 0⟩ ∧ behind.tsu.state = .tracking ∧ behind.tsu.xtRead = false ∧ (seen behind).tsu.xtRead = true
    ∧ heldBehind.tsu.state = .holdover ∧ heldBehind.div.base = some 0 ∧ 0 < heldBehind.tsu.xt
    ∧ 0 + 10 ^ 9 * (heldBehind.div.secs + 1) ≤ heldBehind.tsu.xt + 6000000000 := by decide +kernel
theorem test_pulse_steps : (after (.readComplete (window 1 6) [.request]) behind).tsu.xt = 6000000000
    ∧ (after (.readComplete (window 1 6) [.request]) behind).auc.spans = [⟨0, 6000000000⟩]
    ∧ (after (.readComplete (window 1 6) [.request]) (second 6000500000 .tracking)).tsu.theta = 500000
    ∧ (after (.readComplete (window 1 6) [.request]) (seen behind)).tsu.xt = 0 := by decide +kernel
/-- R14, R50: the second a step has made due is counted ahead of the pulse that ends the spell, or never. -/
theorem test_second_before_the_pulse :
    (after (.readComplete (window 1 6) [.second, .request]) heldBehind).div.secs = 6
      ∧ (after (.readComplete (window 1 6) [.request, .second]) heldBehind).div.secs = 0
      ∧ (after (.readComplete (window 1 6) [.request]) heldBehind).div.base = none := by decide +kernel
/-- R6, R99: the notice of a request taken at the tick of a step is stamped with XT after the step. -/
theorem test_request_after_the_step :
    (after (.readComplete (window 1 6) [.groupRequest]) (offer [⟨0, 1, 0x10⟩, ⟨16, 1, 63⟩, ⟨40, 8, 10 ^ 10⟩] heldBehind)).auc.notices.map
      (fun q => (q.notice.kind, q.hdr.stamp)) = [(.callOpen, 6000000100)] := by decide +kernel

/-- A loss timer that expires at tick 100. -/
def losing (tick : Nat) (ts : TsState) : State := timed 800 ts { base with
  osc := { base.osc with tick := tick }, ref := { base.ref with lossTimer := some 100 } }
theorem test_witness_loss : (losing 100 .tracking).ref.lossTimer = some 100 ∧ (losing 99 .tracking).osc.tick < 100
    ∧ 100 ≤ (losing 100 .tracking).osc.tick ∧ (losing 100 .unset).tsu.state = .unset ∧ (losing 100 .slewing).tsu.state = .slewing := by
  decide

/-! ### Witnesses: divergence monitor -/

theorem test_witness_evaluation : let d := { Div.cleared with terms := some ⟨30, 99930⟩ }
    (d.evaluate .tracking .locked).u = 100000 ∧ (d.evaluate .tracking .locked).raw = .a
      ∧ (d.evaluate .tracking .backup).capped = .b ∧ Cls.none.rank < (d.evaluate .tracking .locked).capped.rank
      ∧ d.upCount + 1 < d.trace.upgradeHold ∧ d.trace.upgradeHold ≤ ({ d with upCount := 3 } : Div).upCount + 1
      ∧ ((({ d with terms := some ⟨30, 99931⟩, cls := .a } : Div).evaluate .tracking .locked).capped.rank < Cls.a.rank)
      ∧ (d.evaluate .acquiring .locked).capped = d.cls := by decide
/-- A holdover spell that began at XT 0. -/
def spell (xt : Nat) : State := timed xt .holdover { base with div := { base.div with base := some 0 } }
theorem test_witness_holdover_second : (spell 1000000000).div.base = some 0
    ∧ 0 + 10 ^ 9 * ((spell 1000000000).div.secs + 1) ≤ (spell 1000000000).tsu.xt
    ∧ (spell 999999999).tsu.xt < 0 + 10 ^ 9 * ((spell 999999999).div.secs + 1) := by decide
/-- The default trace set in a slot, with its LIMIT_B and interval to choose. -/
def traceSlot (limitB interval : Nat) : List Field :=
  ⟨0, 1, 0x42⟩ :: { TraceSet.default with limitB := limitB, interval := interval }.fields 16
theorem test_witness_config_trace : Offered 0x42 (layout 64 (traceSlot 100000 90)) (offer (traceSlot 100000 90) base)
    ∧ checkTrace (readTrace (layout 64 (traceSlot 100000 90))) = some ({ TraceSet.default with limitB := 100000, interval := 60 }, true)
    ∧ checkTrace (readTrace (layout 64 (traceSlot 99999 10))) = none :=
  ⟨offered _ _ _ rfl (by decide), by decide⟩

/-! ### Witnesses: tap ports -/

/-- A port in a state, with a frame in progress or not, and an arming end. -/
def portIn (st : PortState) (frame : Option Reading) (arm : Option Nat) : Port :=
  { Port.cleared false with state := st, frame := frame, armEnd := arm }
theorem test_witness_link : (port base 7).state = .disabled ∧ (port (withPort 7 (portIn .down none none) base) 7).state = .down
    ∧ (port (withPort 7 (portIn .up (some base.reading) none) base) 7).state = .up := by decide +kernel
theorem test_witness_start_of_frame : (port (withPort 0 (portIn .up none (some 1)) base) 0).frame = none
    ∧ base.osc.tick < 1 ∧ ¬base.osc.tick < 0 ∧ (port base 0).state ≠ .up := by decide +kernel
/-- A FIFO of n arrivals, behind an open GAP or not. -/
def fifoOf (n : Nat) : List PortEntry := List.replicate n ⟨hdrAt 0, 0, .arrival plain⟩
/-- The end of a frame meets a port with a FIFO. -/
def ending (fifo : List PortEntry) : State := withPort 0 { portIn .up (some base.reading) none with fifo := fifo } base
theorem test_witness_end_of_frame : (port (ending []) 0).frame = some base.reading ∧ 64 ≤ (List.replicate 64 (0 : Byte)).length
    ∧ (port (ending []) 0).config.filter.records (arrivalOf PortConfig.default (List.replicate 64 0)).kind = true
    ∧ (fifoOf 510).length < 511 ∧ 511 ≤ (fifoOf 511).length ∧ hasOpenGap (fifoOf 1) = false
    ∧ hasOpenGap (fifoOf 1 ++ [⟨hdrAt 0, 0, .gap 1 0 true⟩]) = true ∧ ({ new := true, amend := true, cancel := true, other := false } :
      KindFilter).records .other = false := by decide +kernel
theorem test_gap : (port (after (.endOfFrame 0 (List.replicate 64 0)) (ending (fifoOf 511))) 0).fifo.length = 512
    ∧ (port (after (.endOfFrame 0 (List.replicate 64 0)) (ending (fifoOf 511))) 0).counters.lost = 1
    ∧ (port (after (.endOfFrame 0 (List.replicate 63 0)) (ending [])) 0).counters.malformed = 1 := by decide +kernel
/-- A configuration with the four keys at the last offsets before the frame check sequence of a 64-byte frame. -/
def keyed : PortConfig := { PortConfig.default with
  sessionAt := some 58, messageAt := some 56, groupAt := some 59, kindAt := some 10, kindMap := [some ⟨7, .new⟩, none, none, none]
  defaultGroup := some 3 }
def keyedFrame (kind group : Byte) : List Byte := (List.replicate 10 0 ++ [kind] ++ List.replicate 48 0) ++ [group] ++ List.replicate 4 0
theorem test_witness_keys : (keyedFrame 7 63).length = 64 ∧ 58 + 2 ≤ (keyedFrame 7 63).length - 4
    ∧ ((keyedFrame 7 63).drop 59).head? = some 63 ∧ ((keyedFrame 7 64).drop 59).head? = some 64
    ∧ ((keyed.kindMap.filterMap id).map KindEntry.value).Nodup ∧ some ⟨7, .new⟩ ∈ keyed.kindMap
    ∧ (arrivalOf keyed (keyedFrame 7 64)).group = some 3 ∧ (arrivalOf keyed (keyedFrame 7 63)).kind = .new := by decide +kernel
/-- R63: the check value of 60 zero bytes follows them, or not. -/
theorem test_fcs : (arrivalOf keyed (List.replicate 60 0 ++ layout 4 [⟨0, 4, crc32 (List.replicate 60 0)⟩])).fcsBad = false
    ∧ (arrivalOf keyed (List.replicate 64 0)).fcsBad = true := by decide +kernel
/-- A CONFIG_PORT of port n with an action; its configuration has every optional item absent and a compensation. -/
def portSlot (n action comp : Nat) : List Field :=
  [⟨0, 1, 0x21⟩, ⟨16, 1, n⟩, ⟨17, 1, action⟩, ⟨18, 2, comp⟩, ⟨20, 8, 2 ^ 64 - 1⟩, ⟨40, 1, 0xFF⟩]
theorem test_witness_configure : Offered 0x21 (layout 64 (portSlot 7 0 16384)) (offer (portSlot 7 0 16384) base)
    ∧ byteAt (layout 64 (portSlot 7 0 16384)) 16 = 7 ∧ byteAt (layout 64 (portSlot 7 0 0)) 17 = 0 ∧ (port base 7).state = .disabled
    ∧ readPortConfig (layout 64 (portSlot 7 0 16384)) = some ({ PortConfig.default with compensation := 16383 }, true)
    ∧ 7 < byteAt (layout 64 (portSlot 8 0 0)) 16 :=
  ⟨offered _ _ _ rfl (by decide), by decide +kernel⟩
/-- R61, R183: an item outside its set refuses the configuration, and one at its edge does not. Fields given first count. -/
theorem test_port_items : let taken := fun (f : List Field) => (readPortConfig (layout 64 (f ++ portSlot 7 0 0))).isSome
    [[⟨20, 2, 256⟩], [⟨29, 1, 4⟩], [⟨36, 1, 2⟩], [⟨40, 1, 64⟩], [⟨28, 2, 0x0105⟩, ⟨34, 2, 0x0205⟩]].any taken = false
      ∧ [[⟨20, 2, 255⟩], [⟨29, 1, 3⟩], [⟨36, 1, 1⟩], [⟨40, 1, 63⟩], [⟨28, 2, 0x0105⟩, ⟨34, 2, 0x0005⟩]].all taken = true := by
  decide +kernel
theorem test_witness_enable_disable : Offered 0x21 (layout 64 (portSlot 0 1 0)) (offer (portSlot 0 1 0) base)
    ∧ byteAt (layout 64 (portSlot 0 1 0)) 17 = 1 ∧ byteAt (layout 64 (portSlot 0 2 0)) 17 = 2
    ∧ (port (withPort 0 (portIn .up (some base.reading) none) base) 0).state ≠ .disabled
    ∧ 7 < byteAt (layout 64 (portSlot 8 1 0)) 16 ∧ 2 < byteAt (layout 64 (portSlot 7 3 0)) 17 :=
  ⟨offered _ _ _ rfl (by decide), by decide +kernel⟩

/-- R57, R171: an ENABLE whose link comes up later at the tick shows UP, 2, in its result, and none of its writes completes before the
tick has ended. -/
theorem test_enable_shows_the_end_of_the_tick :
    let s := after (.linkGain 0) (after .configPortEnable (offer (portSlot 0 1 0) base))
    (after (.slotWriteComplete ⟨0, true⟩) s) = s ∧ s.rqp.tickResult = some (.port 0)
      ∧ ((slotWrites s).flatten.head? = some (4098, 1)) ∧ (slotWrites (after .tick s)).flatten.head? = some (4098, 2)
      ∧ (slotWrites (after (.slotWriteComplete ⟨0, true⟩) (after .tick s))).length = 1 := by decide +kernel

/-! ### Witnesses: sequencing, staging, evidence -/

/-- The RESET record of base has settled at tick 1,250. -/
def settledAt (tick : Nat) : State := { base with osc := { base.osc with tick := tick } }
theorem test_witness_merge : heads (settledAt 1250) = [⟨.evidence, 0, 0⟩] ∧ 0 + (settledAt 1250).seq.settle ≤ (settledAt 1250).osc.tick
    ∧ (settledAt 1250).seq.released = false ∧ (settledAt 1249).osc.tick < 0 + (settledAt 1249).seq.settle
    ∧ heads { base with evu := Evu.cleared } = [] := by decide +kernel
theorem test_release : (after .mergeRelease (settledAt 1250)).seq.counter = 1 ∧ (after .mergeRelease (settledAt 1249)).seq.counter = 0
    ∧ (after .mergeRelease (settledAt 1250)).stg.staged.evidence.length = 1 := by decide +kernel
/-- A notice of group 63 at the head of the notice queue. -/
def noticed (kind : NoticeKind) : State := { base with auc := { base.auc with
  notices := [⟨hdrAt 5, 0, noticeOf kind 63 { Group.cleared with cycle := 42 } noFlags⟩] } }
theorem test_witness_notice : (noticed .cutoff).auc.notices ≠ [] ∧ (noticed .cutoff).seq.counter + 1 < 2 ^ 64
    ∧ (noticed .cutoff).stg.staged.auction.length < 512 ∧ 512 ≤ (List.replicate 512 (⟨hdrAt 0, 0, .hostStamp 0 0⟩ : Record)).length
    ∧ ((after .mergeRelease { noticed .cutoff with evu := Evu.cleared, osc := (settledAt 1250).osc }).seq.gates[63] : Gate)
      = ⟨.shut, 42⟩ := by decide +kernel
/-- Arrival staging with n records, the last an open staging GAP or not. -/
def stagedOf (n : Nat) : List Record := List.replicate n ⟨hdrAt 0, 0, .hostStamp 0 0⟩
theorem test_witness_tap_release : (port (ending (fifoOf 1)) 0).fifo = ⟨hdrAt 0, 0, .arrival plain⟩ :: []
    ∧ base.seq.counter + 1 < 2 ^ 64 ∧ (stagedOf 16382).length < 16383 ∧ 16383 ≤ (stagedOf 16383).length
    ∧ (1 : Nat) + 1 < 2 ^ 64 ∧ base.stg.openGap = false ∧ ({ base.stg with openGap := true } : Stg).openGap = true := by
  decide +kernel
theorem test_witness_evidence_release : base.evu.queue ≠ [] ∧ base.seq.counter + 1 < 2 ^ 64 ∧ base.rqp.withdrawn = false := by decide
/-- A STAMP with event code 258. -/
def stampSlot : List Field := [⟨0, 1, 0x01⟩, ⟨8, 8, 0x1A2B⟩, ⟨16, 2, 258⟩]
theorem test_witness_stamp : Offered 0x01 (layout 64 stampSlot) (offer stampSlot base) ∧ base.seq.stampSlot = none
    ∧ (after .stamp (offer stampSlot base)).seq.stampSlot = some ⟨⟨0, 0, .none, .unset⟩, 0, 258, 0x1A2B⟩
    ∧ (after .stamp (offer stampSlot base)).rqp.phase = .answering .stamp :=
  ⟨offered _ _ _ rfl (by decide), by decide +kernel⟩
/-- A MARK. -/
def markSlot : List Field := [⟨0, 1, 0x02⟩, ⟨8, 8, 9⟩]
/-- No room for evidence. -/
def full (s : State) : State := { s with stg := { s.stg with reserved := 256 } }
/-- A RESET pending. -/
def pendingOf (s : State) : State := { s with evu := { s.evu with pendingReset := some ⟨false, false, true, false⟩ } }
theorem test_witness_make_evidence : Offered 0x02 (layout 64 markSlot) (offer markSlot base) ∧ base.evu.pendingReset = none
    ∧ (base.evu.queue.length < 128 ∧ base.stg.staged.evidence.length + base.stg.reserved < 256)
    ∧ ¬((full base).stg.staged.evidence.length + (full base).stg.reserved < 256)
    ∧ (pendingOf base).evu.pendingReset = some ⟨false, false, true, false⟩ ∧ (pendingOf base).evu.queue.length < 128 :=
  ⟨offered _ _ _ rfl (by decide), by decide⟩
/-- R135: the pending RESET takes the room ahead of a MARK (2BH) and of a SUMMARY. -/
theorem test_pending_reset_first :
    (after .mark (offer markSlot (pendingOf base))).evu.queue.map (fun q => q.body.code) = [0x21, 0x21, 0x2B]
    ∧ (after .summaryDue (pendingOf (timed (10 ^ 10) .tracking base))).evu.queue.map (fun q => q.body.code) = [0x21, 0x21, 0x22] := by
  decide +kernel
theorem test_witness_summary : (timed 10000000000 .tracking base).evu.boundary ≤ (timed 10000000000 .tracking base).tsu.xt
    ∧ (timed 9999999999 .tracking base).tsu.xt < base.evu.boundary ∧ 1 ≤ base.div.trace.interval ∧ base.evu.pendingReset = none
    ∧ (pendingOf (timed 10000000000 .tracking base)).evu.pendingReset.isSome := by decide

/-! ### Witnesses: closing auctions -/

/-- A group with T_end 300 ns, W and default W 2 µs, D 1 s. -/
def entry (st : GroupState) (strict : Bool) (dflt : Decision) (ext : Nat) : Group :=
  { Group.cleared with
    state := st, cycle := 1, start := 200, tEnd := 300, w := 2, d := 1, dflt := dflt, dfltE := 1, dfltW := 2, strict := strict
    ext := ext }
/-- Group 63 with one deadline at 300 ns, at an XT. -/
def dueAt (xt : Nat) (tag : Tag) (v : Group) : State := timed xt .tracking (withGroup 63 v [⟨300, 63, tag⟩] base)
theorem test_witness_start_limit : (dueAt 300 .start (entry .scheduled false .close 0)).auc.deadlines = [⟨300, 63, .start⟩]
    ∧ 300 ≤ (dueAt 300 .start (entry .scheduled false .close 0)).tsu.xt ∧ (dueAt 299 .start (entry .scheduled false .close 0)).tsu.xt < 300
    ∧ (dueAt 300 .decideLimit (entry .decide false .extend 6)).auc.notices.length < 128
    ∧ (group (dueAt 300 .decideLimit (entry .decide false .extend 6)) 63).ext < 7
    ∧ 7 ≤ (group (dueAt 300 .decideLimit (entry .decide false .extend 7)) 63).ext := by decide +kernel
theorem test_witness_end_cutoff : let s := dueAt 300 .end_ (entry .call false .close 0)
    let c := dueAt 300 .cutoff { entry .window true .close 0 with r := some 2, cutoff := some 2300 }
    s.auc.deadlines = [⟨300, 63, .end_⟩] ∧ 300 ≤ s.tsu.xt ∧ s.auc.notices.length < 128 ∧ (group s 63).strict = false
      ∧ s.div.cls ≠ .a ∧ (group c 63).strict = true ∧ (group c 63).r = some 2 ∧ (group c 63).cutoff = some 2300 := by
  decide +kernel
/-- R103: STRICT with a class below A makes the cutoff at T_end. -/
theorem test_strict : let t := after .endDeadline (dueAt 300 .end_ (entry .call true .close 0))
    (group t 63).state = .decide ∧ (group t 63).cutoff = some 300 ∧ t.auc.deadlines = [⟨1000000300, 63, .decideLimit⟩]
      ∧ t.auc.notices.map (fun q => q.notice.flags.untraceable) = [true] := by decide +kernel
/-- A SCHEDULE of group 63. -/
def scheduleSlot (start tEnd w : Nat) : List Field :=
  [⟨0, 1, 0x10⟩, ⟨16, 1, 63⟩, ⟨20, 4, w⟩, ⟨28, 2, 30⟩, ⟨30, 2, 60⟩, ⟨32, 8, start⟩, ⟨40, 8, tEnd⟩]
theorem test_witness_schedule : Offered 0x10 (layout 64 (scheduleSlot 200 300 5)) (offer (scheduleSlot 200 300 5) (timed 100 .tracking base))
    ∧ (readSchedule (layout 64 (scheduleSlot 200 300 5))).group = 63 ∧ (group base 63).state = .idle
    ∧ (timed 100 .tracking base).tsu.state ≠ .unset ∧ 100 < (readSchedule (layout 64 (scheduleSlot 200 300 5))).start
    ∧ (readSchedule (layout 64 (scheduleSlot 100 300 5))).start ≤ 100 ∧ dueHead (timed 100 .tracking base) = none
    ∧ 64 ≤ (readSchedule (layout 64 (⟨16, 1, 64⟩ :: scheduleSlot 100 300 5))).group
    ∧ 2 ≤ (readSchedule (layout 64 (⟨18, 1, 2⟩ :: scheduleSlot 100 300 5))).strict :=
  ⟨offered _ _ _ rfl (by decide), by decide +kernel⟩
theorem test_schedule_clamps : let t := after .schedule (offer (scheduleSlot 200 300 300000001) (timed 100 .tracking base))
    (group t 63).state = .scheduled ∧ (group t 63).w = 300000000 ∧ t.auc.deadlines = [⟨200, 63, .start⟩]
      ∧ (match t.rqp.phase with | .writing o _ => decide (o = .clamped) | _ => false) = true := by decide +kernel
/-- An AMEND of group 63, with the start flag. -/
def amendSlot (flag tEnd start : Nat) : List Field := [⟨0, 1, 0x11⟩, ⟨16, 1, 63⟩, ⟨17, 1, flag⟩, ⟨24, 8, tEnd⟩, ⟨32, 8, start⟩]
theorem test_witness_amend : let s := timed 100 .tracking (withGroup 63 (entry .scheduled false .close 0) [⟨200, 63, .start⟩] base)
    Offered 0x11 (layout 64 (amendSlot 1 300 100)) (offer (amendSlot 1 300 100) s)
    ∧ byteAt (layout 64 (amendSlot 1 300 100)) 16 = 63 ∧ (readAmend (layout 64 (amendSlot 1 300 100))).tEnd < 2 ^ 63
    ∧ (group s 63).state = .scheduled ∧ (readAmend (layout 64 (amendSlot 1 300 100))).start ≤ s.tsu.xt
    ∧ ¬((readAmend (layout 64 (amendSlot 1 300 100))).tEnd < (group s 63).tEnd) ∧ dueHead s = none
    ∧ (readAmend (layout 64 (amendSlot 0 299 0))).tEnd < (group s 63).tEnd
    ∧ 2 ≤ byteAt (layout 64 (amendSlot 2 300 0)) 17 ∧ 2 ^ 63 ≤ fieldAt (layout 64 (amendSlot 0 (2 ^ 63) 0)) 24 8 :=
  ⟨offered _ _ _ rfl (by decide), by decide +kernel⟩
/-- R101, R170: an AMEND without a new start whose group's START is handled later at the tick shows CALL, 2, in its result. -/
theorem test_amend_shows_the_end_of_the_tick :
    let s := timed 250 .tracking (withGroup 63 (entry .scheduled false .close 0) [⟨200, 63, .start⟩] base)
    let t := after .startDeadline (after .amend (offer (amendSlot 0 400 0) s))
    t.rqp.tickResult = some (.group 63) ∧ (slotWrites t).flatten.head? = some (4098, 1)
      ∧ (slotWrites (after .tick t)).flatten.head? = some (4098, 2) ∧ (after .tick t).rqp.tickResult = none := by decide +kernel
/-- A request of a kind for group 63. -/
def groupSlot (kind : Nat) : List Field := [⟨0, 1, kind⟩, ⟨16, 1, 63⟩]
theorem test_witness_cancel :
    let s := dueAt 299 .cutoff { entry .window false .close 0 with r := some 0, cutoff := some 300 }
    Offered 0x12 (layout 64 (groupSlot 0x12)) (offer (groupSlot 0x12) s) ∧ (group s 63).state = .window ∧ dueHead s = none
      ∧ s.auc.notices.length < 128 ∧ (group s 63).r = some 0 ∧ (group base 63).state = .idle :=
  ⟨offered _ _ _ rfl (by decide), by decide +kernel⟩
/-- R99, R130: a step past a deadline and a boundary, with the requests of the tick first, leaves both due, and their rows then handle
the deadline with STEPPED and make the one SUMMARY (22H); with none picked the step itself does, and the decide deadline it has also passed is handled with them. -/
theorem test_step_past_a_deadline :
    let s := offer (⟨16, 8, 10 ^ 10⟩ :: setTimeSlot) (withGroup 63 (entry .call true .close 0) [⟨300, 63, .end_⟩] base)
    let held := after (.setTime [.request]) s
    let summaries := fun (t : State) => (t.evu.queue.filter fun q => q.body.code = 0x22).length
    held.auc.notices = [] ∧ summaries held = 0
      ∧ (after .endDeadline held).auc.notices.map (fun q => q.notice.flags.stepped) = [true]
      ∧ summaries (after .summaryDue (after .endDeadline held)) = 1
      ∧ (after (.setTime []) s).auc.notices.map (fun q => (q.notice.kind, q.notice.flags.stepped)) = [(.cutoff, true), (.close, true)]
      ∧ summaries (after (.setTime []) s) = 1 := by decide +kernel
/-- A DECIDE of group 63. -/
def decideSlot (decision e w : Nat) : List Field := [⟨0, 1, 0x13⟩, ⟨16, 1, 63⟩, ⟨17, 1, decision⟩, ⟨18, 2, e⟩, ⟨20, 4, w⟩]
/-- Group 63 in DECIDE until XT 300. -/
def deciding (xt ext : Nat) : State :=
  dueAt xt .decideLimit { entry .decide false .close ext with r := some 0, cutoff := some 200, limit := some 300 }
theorem test_witness_decide : Offered 0x13 (layout 64 (decideSlot 1 3601 2)) (offer (decideSlot 1 3601 2) (deciding 299 6))
    ∧ (readDecide (layout 64 (decideSlot 1 3601 2))).decision = 1 ∧ (group (deciding 299 6) 63).state = .decide
    ∧ (group (deciding 299 6) 63).limit = some 300 ∧ dueHead (deciding 299 6) = none ∧ (group (deciding 299 6) 63).ext < 7
    ∧ 7 ≤ (group (deciding 299 7) 63).ext ∧ 300 ≤ (deciding 300 6).tsu.xt
    ∧ (readDecide (layout 64 (decideSlot 0 0 0))).decision = 0 :=
  ⟨offered _ _ _ rfl (by decide), by decide +kernel⟩
/-- 6.6: one nanosecond before the decide deadline is in time, and the deadline itself is too late. -/
theorem test_decide_at_the_limit : (group (after .decideClose (offer (decideSlot 0 0 0) (deciding 299 6))) 63).state = .closed
    ∧ (group (after .decideClose (offer (decideSlot 0 0 0) (deciding 300 6))) 63).state = .decide
    ∧ (group (after .decideExtend (offer (decideSlot 1 3601 2) (deciding 299 6))) 63).tEnd = 3600000000299 := by decide +kernel
theorem test_witness_clear : let s := withGroup 63 (entry .closed false .close 0) [] base
    Offered 0x14 (layout 64 (groupSlot 0x14)) (offer (groupSlot 0x14) s) ∧ (group s 63).state = .closed ∧ dueHead s = none
      ∧ (group base 63).state ≠ .closed :=
  ⟨offered _ _ _ rfl (by decide), by decide +kernel⟩
theorem test_witness_queries : Offered 0x15 (layout 64 (groupSlot 0x15)) (offer (groupSlot 0x15) base)
    ∧ Offered 0x20 (layout 64 [⟨0, 1, 0x20⟩, ⟨16, 1, 7⟩]) (offer [⟨0, 1, 0x20⟩, ⟨16, 1, 7⟩] base)
    ∧ byteAt (layout 64 (groupSlot 0x15)) 16 = 63 ∧ byteAt (layout 64 [⟨0, 1, 0x20⟩, ⟨16, 1, 7⟩]) 16 = 7
    ∧ 63 < byteAt (layout 64 [⟨16, 1, 64⟩]) 16 ∧ 7 < byteAt (layout 64 [⟨16, 1, 8⟩]) 16 :=
  ⟨offered _ _ _ rfl (by decide), offered _ _ _ rfl (by decide), by decide⟩

/-! ### Witnesses: journal writer and shared area -/

/-- Segment 9 of a stream: a journal segment of 64 records at address 65,536, held in a state. -/
def copy9 (held : HeldState) : SegCopy := ⟨.journal .arrival, 65536, 64, 0, 0, held⟩
/-- The ARRIVAL stream with segment 9 open at a fill, n records staged, and the burst buffer in a phase. -/
def opened (fill n : Nat) (phase : BurstPhase) (records : List Record) : State :=
  let s := enabled base
  { s with
    stg := { s.stg with staged := { s.stg.staged with arrival := stagedOf n } }
    jwr := ⟨phase, records, []⟩
    arc := { s.arc with copies := s.arc.copies.set 9 (some (copy9 .opened)), openSeg := ⟨some ⟨9, fill, none, none⟩, none, none⟩ } }
/-- The ARRIVAL stream with segment 9 lent. -/
def lentOf (n : Nat) (phase : BurstPhase) (records : List Record) : State :=
  let s := opened 0 n phase records
  { s with arc := { s.arc with
    copies := s.arc.copies.set 9 (some (copy9 .lent)), openSeg := ⟨none, none, none⟩, lent := ⟨[9], [], []⟩ } }
theorem test_witness_burst_start : (opened 48 20 .empty []).osc.phase = .running ∧ (opened 48 20 .empty []).jwr.phase = .empty
    ∧ (opened 48 20 .empty []).arc.enable = true ∧ (opened 48 20 .empty []).arc.linkReset = none
    ∧ (opened 48 20 .empty []).stg.staged.get .arrival ≠ [] ∧ (opened 48 20 .empty []).arc.openSeg.get .arrival = some ⟨9, 48, none, none⟩
    ∧ (lentOf 1 .empty []).arc.lent.get .arrival = [9] ∧ (lentOf 1 .empty []).arc.copies[(9 : Fin 64)] = some (copy9 .lent)
    ∧ (opened 48 20 .empty []).stg.staged.get .auction = [] ∧ (opened 48 20 .empty []).stg.staged.get .evidence = [] := by
  decide +kernel
theorem test_burst_start : (after .burstStart (opened 50 20 .empty [])).jwr.records.length = 14
    ∧ (after .burstStart (opened 50 20 .empty [])).jwr.writes.length = 14
    ∧ (after .burstStart (opened 48 15 .empty [])).jwr.writes.length = 16 := by decide +kernel
theorem test_witness_burst_success : (opened 48 0 (.inFlight .arrival) (stagedOf 16)).jwr.phase = .inFlight .arrival
    ∧ (opened 48 0 (.inFlight .arrival) (stagedOf 16)).arc.openSeg.get .arrival = some ⟨9, 48, none, none⟩
    ∧ (opened 48 0 (.inFlight .arrival) (stagedOf 16)).arc.copies[(9 : Fin 64)] = some (copy9 .opened)
    ∧ (copy9 .opened).capacity ≤ 48 + (stagedOf 16).length ∧ 48 + (stagedOf 15).length < (copy9 .opened).capacity := by
  decide +kernel
/-- 9.10, a CUT that meets a full segment: the closing burst leaves reason FULL; one of 8 records leaves reason CUT. -/
theorem test_cut_meets_full_segment :
    (after (.burstComplete true) (opened 48 0 (.inFlight .arrival) (stagedOf 16))).arc.closing.arrival.map (fun c => (c.fill, c.reason))
      = [(64, .full)]
    ∧ (let s := opened 48 0 (.inFlight .arrival) (stagedOf 8)
      (after (.burstComplete true) { s with rqp := { s.rqp with phase := .answering (.cutBurst .arrival) } }).arc.closing.arrival.map
        (fun c => (c.fill, c.reason)) = [(56, .cut)]) := by decide +kernel
/-- R147, R152: sixteen records sent again to a segment of 64 are followed by the fill; to one of 16 they are not. -/
theorem test_sent_again : let s := lentOf 0 (.waiting .arrival) (stagedOf 16)
    (after .burstStart s).jwr.writes.length = 17
      ∧ (after .burstStart { s with arc := { s.arc with
          copies := s.arc.copies.set 9 (some { copy9 .lent with capacity := 16 }) } }).jwr.writes.length = 16 := by decide +kernel
theorem test_witness_burst_failure : (lentOf 0 (.waiting .arrival) (stagedOf 3)).jwr.phase = .waiting .arrival
    ∧ (lentOf 0 (.waiting .arrival) (stagedOf 3)).arc.lent.get .arrival = 9 :: []
    ∧ (opened 48 0 (.inFlight .arrival) (stagedOf 16)).arc.openSeg.get .arrival = some ⟨9, 48, none, none⟩
    ∧ (opened 0 0 (.waiting .arrival) []).arc.lent.get .arrival = [] := by decide +kernel
/-- A CUT of the ARRIVAL stream. -/
def cutSlot : List Field := [⟨0, 1, 0x30⟩, ⟨16, 1, 2⟩]
/-- Segment 9 in CLOSING. -/
def closing9 : State :=
  let s := opened 0 0 .empty []
  { s with arc := { s.arc with openSeg := ⟨none, none, none⟩, closing := ⟨[⟨9, 64, some 0, some 63, .full, []⟩], [], []⟩ } }
/-- A CUT that waits for the trailer of segment 9, its request processor withdrawn or not. -/
def trailing (withdrawn : Bool) : State :=
  let s := offer cutSlot closing9
  { s with rqp := { s.rqp with phase := .answering (.cutTrailer .arrival 9), withdrawn := withdrawn } }
theorem test_witness_cut : Offered 0x30 (layout 64 cutSlot) (offer cutSlot (opened 48 0 .empty []))
    ∧ byteAt (layout 64 cutSlot) 16 = 2 ∧ base.arc.openSeg.get .arrival = none
    ∧ (opened 48 0 .empty []).arc.openSeg.get .arrival = some ⟨9, 48, none, none⟩
    ∧ (opened 48 0 (.inFlight .arrival) []).jwr.phase = .inFlight .arrival
    ∧ closing9.arc.closing.get .arrival = [⟨9, 64, some 0, some 63, .full, []⟩]
    ∧ (trailing true).rqp.phase = .answering (.cutTrailer .arrival 9) ∧ (trailing true).rqp.withdrawn = true
    ∧ (trailing true).arc.closing.get .arrival ≠ [] ∧ byteAt (layout 64 [⟨0, 1, 0x30⟩, ⟨16, 1, 5⟩]) 16 ∉ [2, 3, 4] :=
  ⟨offered _ _ _ rfl (by decide), by decide +kernel⟩
/-- R177: the trailer's answer is discarded after a withdrawal. -/
theorem test_cut_answer : (after (.trailerComplete .arrival true) (trailing true)).rqp.phase = .idle
    ∧ (slotWrites (after (.trailerComplete .arrival true) (trailing false))).length = 2 := by decide +kernel
theorem test_witness_causes : base.arc.has .starved = false
    ∧ ({ base.arc with mask := 0x7FF } : Arc).unmasked .timescaleState = true
    ∧ (enabled { base with stg := { base.stg with staged := ⟨[], [], stagedOf 1⟩ } }).stg.staged.get .evidence ≠ []
    ∧ (enabled base).arc.lent.get .evidence = [] ∧ (enabled base).arc.openSeg.get .evidence = none
    ∧ (enabled base).arc.starved.get .evidence = false := by decide +kernel
theorem test_witness_registers : base.arc.linkReset = none ∧ base.arc.enable = false ∧ (enabled base).arc.enable = true
    ∧ ({ base.arc with linkReset := some ⟨true, false⟩ } : Arc).linkReset ≠ none := by decide
/-- R138, R139: CONTROL reads back ENABLE and the mask and LINK_RESET as 0; CAUSE its bits and the index refused last. -/
theorem test_reads : readControl (after (.enableSet 0x07FF0001) base) = 0x07FF0001
    ∧ readControl (after .linkHot (after (.enableSet 0x04000001) base)) = 0x04000001
    ∧ readCause (after (.handWrite 64) (enabled base)) = 0x4000000000000040
    ∧ readTime (timed 1000000000 .unset base) = 1000000000 := by decide +kernel
/-- Bits 11..0 of a value written to AREA read as 0. -/
theorem test_area : (after (.areaWrite 0x12345) base).arc.area = 0x12000 ∧ (after (.areaWrite 0x12345) (enabled base)).arc.area = 8192 := by
  decide +kernel
/-- 9.1, ENABLE: a status block write, and the update counter at 1. -/
theorem test_enable : (after (.enableSet 0x07FF0001) base).arc.status.counter = 1
    ∧ (after (.enableSet 0x07FF0001) base).arc.mask = 0x7FF := by decide +kernel
/-- A status write in flight, with another due or not. -/
def statusFlight (due : Bool) : State :=
  let s := enabled base
  { s with arc := { s.arc with status := { s.arc.status with inFlight := some [], due := due }, entryWrites := [[]] } }
theorem test_witness_status : (statusFlight true).arc.status.inFlight.isSome ∧ (statusFlight true).arc.status.due = true
    ∧ (statusFlight false).arc.status.due = false ∧ (enabled base).arc.status.inFlight = none
    ∧ 0 < (statusFlight true).arc.entryWrites.length ∧ (statusFlight true).arc.entryWrites.length ≤ 1 := by decide
theorem test_witness_hand_write : (enabled base).arc.hand = none ∧ (enabled base).arc.copies[(63 : Fin 64)] = none
    ∧ (63 : Nat) < (64 : RegWord).toNat ∧ ((opened 0 0 .empty []).arc.copies[(9 : Fin 64)]).isSome
    ∧ ({ (enabled base).arc with hand := some 0 } : Arc).hand.isSome ∧ base.arc.enable = false := by decide +kernel
/-- A HAND of segment 63 in progress. -/
def handing : State := after (.handWrite 63) (enabled base)
/-- An entry: kind, base, capacity less 1, request count. -/
def entryOf (kind addr cap count : Nat) : List Byte := layout 32 [⟨0, 7, addr⟩, ⟨7, 1, kind⟩, ⟨16, 2, cap⟩, ⟨18, 2, count⟩]
theorem test_witness_hand_fetch : handing.arc.handRead.isSome ∧ handing.arc.hand = some 63 ∧ handing.arc.handHeld = []
    ∧ (readEntry (entryOf 1 64 15 16)).kindCode = 1 ∧ (readEntry (entryOf 1 64 15 16)).count = 16
    ∧ (readEntry (entryOf 2 64 15 0)).base % 64 = 0 ∧ (readEntry (entryOf 2 63 15 0)).base % 64 ≠ 0
    ∧ (readEntry (entryOf 2 64 14 0)).capacityLess1 + 1 < 16 ∧ ¬(readEntry (entryOf 5 64 15 0)).kindCode ≤ 4 := by decide +kernel
theorem test_hand : (after (.handFetchComplete (some (entryOf 2 64 15 0))) handing).arc.lent.arrival = [63]
    ∧ (after (.handFetchComplete (some (entryOf 1 64 15 17))) handing).arc.lastRefused = 63
    ∧ (after (.handFetchComplete (some (entryOf 1 64 15 16))) handing).arc.requests = [63] := by decide +kernel
/-- R138, R143, R157: the HAND held back follows the one in progress, with the read of its own entry, the 32 bytes at AREA + 64 + 32 × 62; it is
ignored when ENABLE has been cleared meanwhile; and a link reset leaves the read of a dropped HAND to complete unused. -/
theorem test_held_hands : let s := after (.handWrite 62) handing
    let e := some (entryOf 2 64 15 0)
    handing.arc.handRead = some (8192 + 64 + 32 * 63) ∧ s.arc.handHeld = [62]
      ∧ (after (.handFetchComplete e) s).arc.handRead = some (8192 + 64 + 32 * 62)
      ∧ (after (.handFetchComplete e) (after (.enableClear 0) s)).arc.hand = none
      ∧ (after .linkHot s).arc.hand = none ∧ (after .linkHot s).arc.handRead.isSome
      ∧ (after (.handFetchComplete e) (after .linkHot s)).arc.handRead = none := by decide +kernel
theorem test_witness_link_reset : base.arc.linkReset = none ∧ (after .linkHot base).arc.linkReset = some ⟨true, false⟩
    ∧ (after .linkHot base).arc.closing = ⟨[], [], []⟩ ∧ (after .linkHot base).arc.status.inFlight = none
    ∧ (after .linkHot base).arc.entryWrites = [] ∧ (after .linkHot base).arc.handRead = none
    ∧ (after .linkHot base).rqp.phase = .idle ∧ (after .linkHot base).jwr.phase = .empty
    ∧ (opened 0 0 (.inFlight .arrival) []).jwr.phase = .inFlight .arrival ∧ closing9.arc.closing.get .arrival ≠ []
    ∧ (statusFlight true).arc.status.inFlight ≠ none ∧ (statusFlight true).arc.entryWrites ≠ [] ∧ handing.arc.handRead ≠ none
    ∧ (after .linkHot base).rqp.lateWrites = [] := by decide +kernel
/-- R135: a link reset that finds no room joins the RESET still pending. -/
theorem test_link_resets_join :
    let s := after .linkResetTakesEffect (after .linkHot (full base))
    s.evu.pendingReset = some ⟨false, false, true, false⟩
      ∧ (after .linkResetTakesEffect (after (.linkReset 2) s)).evu.pendingReset = some ⟨false, false, true, true⟩ := by decide +kernel
/-- A running request segment 0 of a count, its slot in a phase. -/
def slotIn (phase : SlotPhase) (count : Nat) : State :=
  let s := offer [] (enabled base)
  { s with
    rqp := { s.rqp with phase := phase }
    arc := { s.arc with copies := s.arc.copies.set 0 (some ⟨.request, 4096, 16, count, 0, .running⟩) } }
theorem test_witness_requests : (slotIn .reading 1).rqp.phase = .reading ∧ (slotIn .reading 1).rqp.cur = some 0
    ∧ (slotIn (.writing .ok [[]]) 2).arc.copies[(0 : Fin 64)] = some ⟨.request, 4096, 16, 2, 0, .running⟩
    ∧ ([[]] : List LinkWrite).eraseIdx 0 = [] ∧ ([[], []] : List LinkWrite).eraseIdx 1 ≠ [] ∧ (slotWrites base).length ≤ 0
    ∧ 0 < (after (.slotWriteComplete ⟨1, false⟩) (slotIn (.writing .ok [[], []]) 1)).rqp.lateWrites.length
    ∧ (slotIn (.writing .ok [[]]) 2).rqp.done + 1 < 2 ∧ 1 ≤ (slotIn (.writing .ok [[]]) 1).rqp.done + 1
    ∧ (slotIn .reading 1).rqp.withdrawn = false ∧ byteAt (layout 64 stampSlot) 0 ∈ knownKinds ∧ byteAt (layout 64 []) 0 ∉ knownKinds
    ∧ ({ slotIn .idle 1 with rqp := Rqp.cleared } : State).rqp.cur = none ∧ (slotIn .idle 1).arc.requests = 0 :: [] := by
  decide +kernel

/-- R162, R182: the result area, bytes 2 to 7 and 16 to 63 of the slot at 4,096, and then the outcome byte. -/
theorem test_answer : let w := (slotWrites (answer .clamped [⟨2, 1, 7⟩, ⟨16, 8, 0x0102⟩] (slotIn .offered 1))).flatten
    w.length = 55 ∧ w.head? = some (4098, 7) ∧ w[6]? = some (4112, 2) ∧ w[7]? = some (4113, 1) ∧ w[53]? = some (4159, 0)
      ∧ w[54]? = some (4097, BitVec.ofNat 8 ReqOutcome.clamped.code) := by decide +kernel

/-- R163: the last of a slot's writes completes it, whichever it is. -/
theorem test_slot_writes : let s := slotIn (.writing .ok [[], [(4097, 0)]]) 1
    (after (.slotWriteComplete ⟨0, true⟩) s).rqp.phase = .writing .ok [[(4097, 0)]]
      ∧ (after (.slotWriteComplete ⟨1, true⟩) s).rqp.phase = .writing .ok [[]]
      ∧ (after (.slotWriteComplete ⟨0, true⟩) (after (.slotWriteComplete ⟨1, true⟩) s)).rqp.cur = none
      ∧ after (.slotWriteComplete ⟨2, true⟩) s = s := by decide +kernel
/-- R155, R157: after the error of one write the other is still in flight, holds a link reset back, and sets WRITE_FAULT when it fails. -/
theorem test_late_write : let s := after (.causeWrite 0x7FF) (after (.slotWriteComplete ⟨1, false⟩) (slotIn (.writing .ok [[], []]) 1))
    let r := after (.entryWriteComplete 0 true) (after .linkHot s)
    s.arc.has .writeFault = false ∧ s.rqp.cur = none ∧ (after .linkResetTakesEffect r).arc.linkReset.isSome
      ∧ (after (.slotWriteComplete ⟨0, false⟩) r).arc.has .writeFault = true
      ∧ (after .linkResetTakesEffect (after (.slotWriteComplete ⟨0, true⟩) r)).arc.linkReset = none := by decide +kernel

/-! ### Witnesses: invariants -/

/-- The part after reset with a tick waiting. -/
def ticking : State := { base with pending := [.tick] }

theorem test_witness_reset_evidence_class : ResetHeld ticking ∧ EvidenceHeld ticking ∧ ClassHeld ticking ∧ ∃ t, step ticking = .next t :=
  ⟨fun h => absurd rfl h, by unfold EvidenceHeld; decide, by unfold ClassHeld; decide, _, rfl⟩

/-- A burst of sixteen records that fills segment 9, with a tick waiting. -/
def filling : State := { opened 48 0 (.inFlight .arrival) (stagedOf 16) with pending := [.tick] }

theorem test_witness_buffers : StagingHeld filling ∧ FifosHeld filling ∧ QueuesHeld filling ∧ SegmentsHeld filling
    ∧ ∃ t, step filling = .next t := by
  refine ⟨by unfold StagingHeld; decide +kernel, by unfold FifosHeld; decide +kernel, ?_, ?_, _, rfl⟩
  · refine ⟨by decide, fun st => ?_, by decide, by decide, by decide +kernel⟩
    cases st <;> decide
  · refine ⟨fun st => ?_, fun st seg h => ?_, fun st h => ?_, fun st => ?_, nofun, nofun, nofun⟩
    · cases st <;> exact ⟨List.nodup_nil, nofun⟩
    · cases st <;> cases h
      exact ⟨copy9 .opened, by decide +kernel, rfl, rfl, by decide, fun _ => by decide +kernel⟩
    · cases h
      rfl
    · cases st <;> exact ⟨List.nodup_nil, nofun⟩

theorem test_witness_rate_settle : RateHeld ticking ∧ SettleHeld ticking := by
  refine ⟨?_, by unfold SettleHeld; decide +kernel⟩
  refine ⟨by decide, by decide, by decide, by decide, by decide, by decide, by decide, ?_, (by intro d h; cases h), by decide, by decide,
    by decide, by decide⟩
  unfold DiscSet.legal
  decide

/-- A group in CALL with its END deadline. -/
def inCall : State := { withGroup 63 (entry .call false .close 0) [⟨300, 63, .end_⟩] base with pending := [.tick] }

theorem test_witness_auctions : AuctionsHeld inCall := by
  have key : ∀ g : Fin 64, (group inCall g).deadline = if g = 63 then some (300, .end_) else none := by decide +kernel
  refine ⟨fun g => ?_, List.pairwise_singleton _ _, fun d hd => ?_, fun g i t h => ?_⟩
  · have h : group inCall g = if g = 63 then entry .call false .close 0 else Group.cleared := by revert g; decide +kernel
    rw [h]
    split <;> exact ⟨by decide, by decide, by decide, by decide, (by intro r hr; cases hr), rfl, rfl, rfl⟩
  · rw [show inCall.auc.deadlines = [⟨300, 63, .end_⟩] from rfl, List.mem_singleton] at hd
    rw [key, hd]
    rfl
  · rw [key] at h
    split at h
    · next hg => cases h; rw [hg]; exact List.mem_singleton.2 rfl
    · cases h

theorem test_witness_xt : (∀ straps, Instr.tick ≠ .powerOnReset straps) ∧ (∀ e, Instr.tick ≠ .pinReset e) ∧ ∃ t, exec .tick base = .next t :=
  ⟨nofun, nofun, _, rfl⟩

end Sys2Proof.Tests
end

section
/-! SUPPORT. The ways out of a whole reset and the discipline update, and the two statements of the timescale chapter that rest on
them (R2, R9, R22). -/

namespace Sys2Proof.Machine

/-! ### Leaving reset (R2) -/

/-- Leaving reset sets the phase, so the phase the part waited in does not show. -/
@[simp] theorem leaveReset_setPhase (power pin : Bool) (p : ResetPhase) (s : State) :
    leaveReset power pin (setPhase p s) = leaveReset power pin s := rfl

theorem endLockWait_pinLow {s : State} {seen : Bool} (h : s.osc.phase = .lockWait true seen) :
    endLockWait s = setPhase (.held true) s := by simp [endLockWait, h]

theorem endLockWait_pinHigh {s : State} {seen : Bool} (h : s.osc.phase = .lockWait false seen) :
    endLockWait s = leaveReset true seen s := by simp [endLockWait, h]

theorem pinRise_held {s : State} {power : Bool} (h : s.osc.phase = .held power) : pinRise s = leaveReset power true s := by
  simp [pinRise, h]

theorem pinRise_running {s : State} (h : s.osc.phase = .running) : pinRise s = s := by simp [pinRise, h]

theorem pinFall_running {s : State} (h : s.osc.phase = .running) (straps : Straps) :
    pinFall straps s = { clearBlocks straps s with osc := { s.osc with phase := .held false, tick := 0 } } := by
  simp [pinFall, h]

theorem exec_lockEvent_of_lockWait {s : State} {low seen : Bool} (h : s.osc.phase = .lockWait low seen) :
    exec .lockEvent s = .next (endLockWait (setOsc .locked s)) := by
  rw [show exec .lockEvent s = .next (lockEvent s) from rfl]
  simp [lockEvent, h]

/-- A part that runs after its lock wait, or after the release of RESET_N that came next, has left a power-on reset: with RESET_N
high the end of the wait lets it go, with RESET_N low the release does. -/
theorem eq_leaveReset_of_lockWait {s t : State} {low seen : Bool} (wait : s.osc.phase = .lockWait low seen)
    (run : t.osc.phase = .running) (h : t = endLockWait s ∨ t = pinRise (endLockWait s)) :
    ∃ pin, t = leaveReset true pin s := by
  cases low with
  | false =>
    have left : endLockWait s = leaveReset true seen s := endLockWait_pinHigh wait
    have stays : pinRise (leaveReset true seen s) = leaveReset true seen s := pinRise_running rfl
    rw [left, stays, or_self] at h
    exact ⟨seen, h⟩
  | true =>
    rw [endLockWait_pinLow wait] at h
    rcases h with rfl | rfl
    · exact nomatch run
    · exact ⟨true, pinRise_held rfl⟩

/-- However the part leaves power-on or pin reset, it does so by `leaveReset` from the reset tables of its blocks. -/
theorem LeftReset.eq_leaveReset {straps : Straps} {s t : State} (h : LeftReset straps s t) :
    ∃ osc power pin, t = leaveReset power pin { clearBlocks straps s with osc := osc } := by
  obtain ⟨run, ⟨u, v, powerOn, wait, release⟩ | ⟨running, u, fall, rise⟩⟩ := h
  · obtain rfl := Host.Outcome.next.inj powerOn
    have release : t = v ∨ t = pinRise v := release.imp_right fun rise => (Host.Outcome.next.inj rise).symm
    rcases wait with ended | locked
    · obtain rfl := Host.Outcome.next.inj ended
      obtain ⟨pin, ht⟩ := eq_leaveReset_of_lockWait rfl run release
      exact ⟨_, true, pin, ht⟩
    · rw [exec_lockEvent_of_lockWait rfl] at locked
      obtain rfl := Host.Outcome.next.inj locked
      obtain ⟨pin, ht⟩ := eq_leaveReset_of_lockWait rfl run release
      exact ⟨_, true, pin, ht⟩
  · have fallen : pinFall straps s = u := Host.Outcome.next.inj fall
    have risen : pinRise u = t := Host.Outcome.next.inj rise
    rw [pinFall_running running] at fallen
    subst fallen
    rw [pinRise_held rfl] at risen
    exact ⟨_, false, true, risen.symm⟩

/-- Settles O5: the part leaves reset from its reset tables, and R22's values are those of the tables and of `leaveReset`. -/
theorem timescale_values_after_reset : Obligations.timescale_values_after_reset := by
  intro straps s t h
  obtain ⟨osc, power, pin, rfl⟩ := h.eq_leaveReset
  exact ⟨rfl, rfl, rfl, rfl, rfl, rfl, rfl, rfl, rfl, rfl, rfl, rfl, rfl, _, rfl⟩

/-! ### The discipline update (R9) -/

theorem clampInt_eq_max_min {lo hi : Int} (h : lo ≤ hi) (x : Int) : clampInt lo hi x = max lo (min hi x) := by
  unfold clampInt
  split
  · omega
  · split <;> omega

/-- F after an update: the frequency term is taken off, and F_MAX clamps (R7, R9). -/
theorem Tsu.update_f (t : Tsu) (kp ki : Nat) (theta : Int) :
    (t.update kp ki theta).f = max (-200000000) (min 200000000 (t.f - (1000 * theta).tdiv (2 ^ ki))) :=
  clampInt_eq_max_min (by decide) _

/-- P after an update: the negated phase term, clamped by SLEW_MAX (R9). -/
theorem Tsu.update_p (t : Tsu) (kp ki : Nat) (theta : Int) :
    (t.update kp ki theta).p = max (-(t.set.slewMax : Int)) (min t.set.slewMax (-((1000 * theta).tdiv (2 ^ kp)))) :=
  clampInt_eq_max_min (by omega) _

/-- Settles O11: F and P by their clamps; the slew remaining, INC and the frame are the update's own. -/
theorem discipline_update_sets_f_and_p : Obligations.discipline_update_sets_f_and_p :=
  fun t kp ki theta => ⟨t.update_f kp ki theta, t.update_p kp ki theta, rfl, rfl, rfl⟩

end Sys2Proof.Machine
end

section
/-! SUPPORT. Pulse capture and the five checks of a completed read, in the terms of R25 and R34 to R37, and the two statements of the
reference reader that rest on them. -/

namespace Sys2Proof.Machine

/-! ### Pulse capture (R24 to R26) -/

/-- A capture at this tick is EARLY against the pending pulse or against the last accepted pulse (R25). -/
def CaptureEarly (s : State) : Prop :=
  (∃ q, s.ref.pending = some q ∧ s.osc.tick ≤ 62500000 + q.capTick) ∨ ∃ l, s.ref.last = some l ∧ s.osc.tick ≤ 62500000 + l.capTick

theorem isEarly_iff (now cap : Nat) : isEarly now cap = true ↔ now ≤ 62500000 + cap := decide_eq_true_iff

theorem captureEarly_iff (s : State) : CaptureEarly s ↔
    (s.ref.pending.any (fun q => isEarly s.osc.tick q.capTick) || s.ref.last.any (fun l => isEarly s.osc.tick l.capTick)) = true := by
  simp only [CaptureEarly, Bool.or_eq_true, Option.any_eq_true, isEarly_iff]

theorem pulseCapture_noReference {s : State} (kind : s.ref.kind = .noReference) : pulseCapture s = s := by
  simp [pulseCapture, kind]

theorem pulseCapture_early {s : State} (kind : s.ref.kind = .pulseAndModule) (early : CaptureEarly s) :
    pulseCapture s = rejectPulse .early .none s := by
  simp only [pulseCapture, kind, if_pos ((captureEarly_iff s).mp early)]

/-- Past both limits, the edge finds the place of the pending pulse free and takes it (R26). -/
theorem pulseCapture_pending {s : State} (kind : s.ref.kind = .pulseAndModule) (late : ¬CaptureEarly s) (free : s.ref.pending = none) :
    pulseCapture s = { s with ref := { s.ref with pending := some ⟨s.tsu.xt, s.osc.tick⟩ } } := by
  simp only [pulseCapture, kind, if_neg (mt (captureEarly_iff s).mpr late)]
  simp [onRef, kind, free]

theorem exec_pulseCapture {s : State} (run : s.osc.phase = .running) : exec .pulseCapture s = .next (pulseCapture s) :=
  live_running run pulseCapture

/-- Settles O15: the three outcomes of an edge are those of `pulseCapture`. -/
theorem pulse_capture_is_early_or_pending : Obligations.pulse_capture_is_early_or_pending := by
  intro s run early
  rw [exec_pulseCapture run]
  refine ⟨fun kind => ?ignored, fun kind soon => ?early, fun kind late free => ?pending⟩
  case ignored => rw [pulseCapture_noReference kind]
  case early => rw [pulseCapture_early kind soon]
  case pending => exact ⟨_, congrArg _ (pulseCapture_pending kind late free), rfl, rfl⟩

/-! ### The module window (R34) -/

/-- The window of sixteen bytes: the sum is theirs modulo 256, the other fields lie at their offsets (R34, R184). -/
theorem readWindow_eq {bytes : List Byte} (len : bytes.length = 16) : readWindow bytes =
    { sum := (bytes.map BitVec.toNat).sum % 256, valid := (byteAt bytes 0).testBit 0, antenna := (byteAt bytes 0).testBit 1
      label := fieldAt bytes 1 5, leap := byteAt bytes 6, uMod := fieldAt bytes 7 4 } := by
  have whole : bytes.take 16 = bytes := List.take_of_length_le len.le
  simp only [readWindow, whole, List.sum_eq_foldl, List.foldl_map]

/-! ### The five checks (R35 to R37) -/

/-- The label is not greater than the last accepted pulse's (R35, check 3). -/
def LabelStale (last : Option Accepted) (label : Nat) : Prop := ∃ l, last = some l ∧ label ≤ l.label

/-- The interval from the last accepted capture XT misses the labels' difference by more than the tolerance (R36). -/
def CaptureOffGrid (set : RefSet) (last : Option Accepted) (capXt label : Nat) : Prop :=
  ∃ l c, last = some l ∧ l.capXt = some c ∧ (set.tolerance : Int) < |(capXt : Int) - (c + 10 ^ 9 * (label - l.label))|

/-- The first setting of the timescale would go backward (R37). -/
def StepBackward (s : State) (q : Pulse) (label : Nat) : Prop :=
  s.tsu.state = .unset ∧ (10 ^ 9 * label + s.ref.set.dRef : Int) < q.capXt

theorem labelStale_iff (last : Option Accepted) (label : Nat) :
    LabelStale last label ↔ last.any (fun l => decide (label ≤ l.label)) = true := by
  simp only [LabelStale, Option.any_eq_true, decide_eq_true_eq]

/-- Without a last accepted pulse, or without its capture XT, there is nothing to compare with. -/
theorem captureOffGrid_iff (set : RefSet) (last : Option Accepted) (capXt label : Nat) :
    CaptureOffGrid set last capXt label ↔ onGrid set last capXt label = false := by
  match last with
  | none => simp [CaptureOffGrid, onGrid]
  | some ⟨_, none, _⟩ => simp [CaptureOffGrid, onGrid]
  | some ⟨old, some c, _⟩ =>
    have beyond (i : Int) : (set.tolerance : Int) < |i| ↔ set.tolerance < i.natAbs := by rw [Int.abs_eq_natAbs, Nat.cast_lt]
    simp only [onGrid, decide_eq_false_iff_not, not_le]
    simp [CaptureOffGrid, nsPerSecond, beyond]

theorem stepBackward_iff (s : State) (q : Pulse) (label : Nat) :
    StepBackward s q label ↔ s.tsu.state = .unset ∧ expectedTime s.ref.set label < q.capXt := by
  norm_num [StepBackward, expectedTime, nsPerSecond]
  omega

section

variable {s : State} {q : Pulse} {w : Window}

theorem rejectReason_badSum (sum : w.sum ≠ 0) : rejectReason s q w = some (.badSum, .none) := if_pos sum

theorem rejectReason_noFix (sum : w.sum = 0) (valid : w.valid = false) :
    rejectReason s q w = some (.noFix, if w.antenna then .antenna else .none) := by
  simp [rejectReason, sum, valid]

theorem rejectReason_stale (sum : w.sum = 0) (valid : w.valid = true) (stale : LabelStale s.ref.last w.label) :
    rejectReason s q w = some (.stale, .none) := by
  simp [rejectReason, sum, valid, (labelStale_iff ..).mp stale]

theorem rejectReason_offGrid (sum : w.sum = 0) (valid : w.valid = true) (order : ¬LabelStale s.ref.last w.label)
    (offGrid : CaptureOffGrid s.ref.set s.ref.last q.capXt w.label) : rejectReason s q w = some (.offGrid, .none) := by
  rw [labelStale_iff] at order
  simp only [rejectReason, sum, valid, order, (captureOffGrid_iff ..).mp offGrid]
  rfl

theorem rejectReason_backward (sum : w.sum = 0) (valid : w.valid = true) (order : ¬LabelStale s.ref.last w.label)
    (interval : ¬CaptureOffGrid s.ref.set s.ref.last q.capXt w.label) (backward : StepBackward s q w.label) :
    rejectReason s q w = some (.backward, .none) := by
  rw [labelStale_iff] at order
  rw [captureOffGrid_iff] at interval
  simp only [rejectReason, sum, valid, order, interval, (stepBackward_iff ..).mp backward]
  rfl

end

/-- A check that fails decides the completed read: the pulse is rejected with its reason, and the STOP follows (R32, R39). -/
theorem exec_readComplete_rejected {s : State} {q : Pulse} {bytes : List Byte} {reason : RefReason} {sub : SubReason}
    (run : s.osc.phase = .running) (phase : s.ref.phase = .transaction) (pending : s.ref.pending = some q)
    (failed : rejectReason s q (readWindow bytes) = some (reason, sub)) (order : List Pick) :
    exec (.readComplete bytes order) s
      = .next (rejectPulse reason sub { s with ref := { s.ref with pending := none, phase := .stopping } }) := by
  calc exec (.readComplete bytes order) s
      = .next (readComplete bytes order s) := live_running run (readComplete bytes order)
    _ = _ := by simp only [readComplete, phase, pending, decidePulse, failed, onRef]

/-- Settles O19: each check's failure, after those before it have passed, is `rejectReason`'s answer on the window. -/
theorem first_failed_check_rejects_the_pulse : Obligations.first_failed_check_rejects_the_pulse := by
  intro s q bytes order run phase pending len valid antenna label expected rejected stale offGrid backward
  have rejects : ∀ {reason sub}, rejectReason s q (readWindow bytes) = some (reason, sub) → rejected reason sub :=
    fun failed => exec_readComplete_rejected run phase pending failed order
  rw [readWindow_eq len] at rejects
  exact ⟨fun sum => rejects (rejectReason_badSum sum), fun sum =>
    ⟨fun invalid => rejects (rejectReason_noFix sum invalid),
     fun fix late => rejects (rejectReason_stale sum fix late),
     fun fix after missed => rejects (rejectReason_offGrid sum fix after missed),
     fun fix after interval back => rejects (rejectReason_backward sum fix after interval back)⟩⟩

end Sys2Proof.Machine
end

section
/-! SUPPORT. An evaluation of the divergence monitor: its bound, the two classes, the downgrade and the upgrade run (R45 to R48, R51,
R52), and the statement of the divergence chapter that rests on them. -/

namespace Sys2Proof.Machine

/-! ### The bound (R46 to R48) -/

theorem Div.bound_unset (d : Div) (o : OscState) : d.bound .unset o = 4294967295 := rfl

theorem Div.bound_holdover (d : Div) (o : OscState) : d.bound .holdover o
    = min 4294967295 (d.u0 + (if o = .locked then d.trace.rateH else d.trace.rateBackup) * d.secs) := by
  cases o <;> rfl

/-- ACQUIRING, TRACKING and SLEWING share the bound of the last-pulse terms (R46). -/
theorem Div.bound_of_terms {d : Div} {ts : TsState} {terms : PulseTerms} (set : ts ≠ .unset) (referenced : ts ≠ .holdover)
    (held : d.terms = some terms) (o : OscState) :
    d.bound ts o = min 4294967295 (terms.uMod + terms.absTheta + d.trace.guardG) := by
  cases ts with
  | unset => exact absurd rfl set
  | holdover => exact absurd rfl referenced
  | acquiring | tracking | slewing => simp only [Div.bound, held]; rfl

/-! ### The raw and the capped class (R51) -/

theorem rawClass_eq_a_iff (t : TraceSet) (u : Nat) : rawClass t u = .a ↔ u ≤ t.limitA := by
  unfold rawClass
  split_ifs with within <;> simp [within]

theorem rawClass_eq_b_iff {t : TraceSet} {u : Nat} (above : t.limitA < u) : rawClass t u = .b ↔ u ≤ t.limitB := by
  rw [rawClass, if_neg above.not_ge]
  split_ifs with within <;> simp [within]

theorem Cls.low_b (c : Cls) : c.low .b = if c = .a then .b else c := by cases c <;> rfl

theorem capClass_unsettled {ts : TsState} (unsettled : ts = .unset ∨ ts = .acquiring) (o : OscState) (raw : Cls) :
    capClass ts o raw = .none := by
  rcases unsettled with rfl | rfl <;> rfl

theorem capClass_locked {ts : TsState} (set : ts ≠ .unset) (acquired : ts ≠ .acquiring) (raw : Cls) :
    capClass ts .locked raw = raw := by
  cases ts with
  | unset => exact absurd rfl set
  | acquiring => exact absurd rfl acquired
  | tracking | slewing | holdover => rfl

theorem capClass_backup {ts : TsState} (set : ts ≠ .unset) (acquired : ts ≠ .acquiring) (raw : Cls) :
    capClass ts .backup raw = if raw = .a then .b else raw := by
  cases ts with
  | unset => exact absurd rfl set
  | acquiring => exact absurd rfl acquired
  | tracking | slewing | holdover => exact raw.low_b

/-! ### The downgrade and the upgrade run (R52) -/

section

variable {d : Div} {c : Cls}

theorem Div.hysteresis_lower (lower : c.rank < d.cls.rank) :
    (d.hysteresis c).cls = c ∧ (d.hysteresis c).upCount = 0 ∧ (d.hysteresis c).upTarget = none := by
  rw [Div.hysteresis, if_pos lower]
  exact ⟨rfl, rfl, rfl⟩

theorem Div.hysteresis_equal (equal : c = d.cls) :
    (d.hysteresis c).cls = d.cls ∧ (d.hysteresis c).upCount = 0 ∧ (d.hysteresis c).upTarget = none := by
  rw [Div.hysteresis, if_neg (equal ▸ lt_irrefl _), if_pos equal]
  exact ⟨rfl, rfl, rfl⟩

/-- A better class is neither lower than the class in force nor equal to it, so the counter decides. -/
theorem Div.hysteresis_better (better : d.cls.rank < c.rank) :
    d.hysteresis c = if d.upCount + 1 < d.trace.upgradeHold
      then { d with upCount := d.upCount + 1, upTarget := some (d.nextTarget c) }
      else { d with cls := d.nextTarget c, upCount := 0, upTarget := none } := by
  have differs : c ≠ d.cls := fun equal => better.ne' (congrArg Cls.rank equal)
  rw [Div.hysteresis, if_neg better.not_gt, if_neg differs]

theorem Div.hysteresis_counting (better : d.cls.rank < c.rank) (counting : d.upCount + 1 < d.trace.upgradeHold) :
    (d.hysteresis c).cls = d.cls ∧ (d.hysteresis c).upCount = d.upCount + 1
      ∧ (d.hysteresis c).upTarget = some (d.nextTarget c) := by
  rw [Div.hysteresis_better better, if_pos counting]
  exact ⟨rfl, rfl, rfl⟩

theorem Div.hysteresis_reached (better : d.cls.rank < c.rank) (reached : d.trace.upgradeHold ≤ d.upCount + 1) :
    (d.hysteresis c).cls = d.nextTarget c ∧ (d.hysteresis c).upCount = 0 ∧ (d.hysteresis c).upTarget = none := by
  rw [Div.hysteresis_better better, if_neg reached.not_gt]
  exact ⟨rfl, rfl, rfl⟩

/-- The comparison touches the class in force and the upgrade run alone. -/
theorem Div.hysteresis_frame (d : Div) (c : Cls) : d.hysteresis c = { d with
    cls := (d.hysteresis c).cls, upCount := (d.hysteresis c).upCount, upTarget := (d.hysteresis c).upTarget } := by
  unfold Div.hysteresis
  split_ifs <;> rfl

end

/-! ### The evaluation (R45) -/

/-- The monitor with the bound and the two classes of an evaluation, before they meet the class in force. -/
def Div.measured (d : Div) (ts : TsState) (o : OscState) : Div :=
  { d with
    u := d.bound ts o
    raw := rawClass d.trace (d.bound ts o)
    capped := capClass ts o (rawClass d.trace (d.bound ts o)) }

section

variable (d : Div) (ts : TsState) (o : OscState)

/-- An evaluation leaves what was measured as it is: the comparison touches the class in force and the upgrade run alone. -/
theorem Div.evaluate_eq_measured : d.evaluate ts o = { d.measured ts o with
    cls := (d.evaluate ts o).cls, upCount := (d.evaluate ts o).upCount, upTarget := (d.evaluate ts o).upTarget } :=
  Div.hysteresis_frame _ _

@[simp] theorem Div.evaluate_u : (d.evaluate ts o).u = d.bound ts o := congrArg Div.u (d.evaluate_eq_measured ts o)

@[simp] theorem Div.evaluate_raw : (d.evaluate ts o).raw = rawClass d.trace (d.evaluate ts o).u := by
  rw [Div.evaluate_u]
  exact congrArg Div.raw (d.evaluate_eq_measured ts o)

@[simp] theorem Div.evaluate_capped : (d.evaluate ts o).capped = capClass ts o (d.evaluate ts o).raw := by
  rw [Div.evaluate_raw, Div.evaluate_u]
  exact congrArg Div.capped (d.evaluate_eq_measured ts o)

theorem Div.evaluate_eq_hysteresis : d.evaluate ts o = (d.measured ts o).hysteresis (d.evaluate ts o).capped := by
  rw [Div.evaluate_capped, Div.evaluate_raw, Div.evaluate_u]
  rfl

theorem Div.evaluate_frame : d.evaluate ts o = { d with
    u := (d.evaluate ts o).u, raw := (d.evaluate ts o).raw, capped := (d.evaluate ts o).capped
    cls := (d.evaluate ts o).cls, upCount := (d.evaluate ts o).upCount, upTarget := (d.evaluate ts o).upTarget } := by
  rw [Div.evaluate_capped, Div.evaluate_raw, Div.evaluate_u]
  exact d.evaluate_eq_measured ts o

end

/-- Settles O22: the bound and the two classes by the lemmas on `bound`, `rawClass` and `capClass`, and the class in force by the three
outcomes of `hysteresis` on the capped class. -/
theorem evaluation_gives_bound_and_class : Obligations.evaluation_gives_bound_and_class := by
  intro d ts o e
  have bound : e.u = d.bound ts o := d.evaluate_u ts o
  have raw : e.raw = rawClass d.trace e.u := d.evaluate_raw ts o
  have capped : e.capped = capClass ts o e.raw := d.evaluate_capped ts o
  have compared : e = (d.measured ts o).hysteresis e.capped := d.evaluate_eq_hysteresis ts o
  have cls := congrArg Div.cls compared
  have count := congrArg Div.upCount compared
  have target := congrArg Div.upTarget compared
  refine ⟨?unset, ?holdover, ?terms, ?rawA, ?rawB, ?unsettled, ?locked, ?backup, ?lower, ?equal, ?better, ?frame⟩
  case unset => rintro rfl; exact bound.trans (d.bound_unset o)
  case holdover => rintro rfl; exact bound.trans (d.bound_holdover o)
  case terms => exact fun _ _ set referenced held => bound.trans (Div.bound_of_terms set referenced held o)
  case rawA => rw [raw]; exact rawClass_eq_a_iff d.trace e.u
  case rawB => rw [raw]; exact rawClass_eq_b_iff
  case unsettled => exact fun unsettled => capped.trans (capClass_unsettled unsettled o e.raw)
  case locked => rintro set acquired rfl; exact capped.trans (capClass_locked set acquired e.raw)
  case backup => rintro set acquired rfl; exact capped.trans (capClass_backup set acquired e.raw)
  case lower => rw [cls, count, target]; exact Div.hysteresis_lower (d := d.measured ts o)
  case equal => rw [cls, count, target]; exact Div.hysteresis_equal (d := d.measured ts o)
  case better =>
    intro better reach
    have lowest : reach = d.nextTarget e.capped := by
      unfold reach Div.nextTarget
      cases d.upTarget <;> rfl
    rw [cls, count, target, lowest]
    exact ⟨Div.hysteresis_counting (d := d.measured ts o) better, Div.hysteresis_reached (d := d.measured ts o) better⟩
  case frame => exact d.evaluate_frame ts o

end Sys2Proof.Machine
end

section
/-! SUPPORT. What a port reads out of a frame: the check sequence, the keys, the group and the kind class (R63 to R66), and the
statement of the tap port chapter that rests on them. -/

namespace Sys2Proof.Machine

/-! ### Byte order (R63, R64) -/

theorem leNat_eq_foldr (bs : List Byte) : leNat bs = bs.foldr (fun b v => b.toNat + 256 * v) 0 := by
  induction bs with
  | nil => rfl
  | cons b bs ih => rw [leNat, ih, List.foldr_cons]

/-- Most significant first: each further byte moves the value up by one byte. -/
theorem beNat_eq_foldl (bs : List Byte) : beNat bs = bs.foldl (fun v b => b.toNat + 256 * v) 0 := by
  rw [beNat, leNat_eq_foldr, List.foldr_reverse]

theorem leNat_four (w x y z : Byte) :
    leNat [w, x, y, z] = w.toNat + 256 * x.toNat + 65536 * y.toNat + 16777216 * z.toNat := by
  simp only [leNat_eq_foldr, List.foldr_cons, List.foldr_nil]
  omega

theorem beNat_one (x : Byte) : beNat [x] = x.toNat := by
  simp only [beNat_eq_foldl, List.foldl_cons, List.foldl_nil]
  omega

theorem beNat_two (x y : Byte) : beNat [x, y] = 256 * x.toNat + y.toNat := by
  simp only [beNat_eq_foldl, List.foldl_cons, List.foldl_nil]
  omega

theorem beNat_four (x y z w : Byte) :
    beNat [x, y, z, w] = 16777216 * x.toNat + 65536 * y.toNat + 256 * z.toNat + w.toNat := by
  simp only [beNat_eq_foldl, List.foldl_cons, List.foldl_nil]
  omega

section

variable {frame : List Byte}

/-! ### The frame check sequence (R63) -/

theorem fcsBad_iff : fcsBad frame = true
    ↔ crc32 (frame.take (frame.length - 4)) ≠ leNat (frame.drop (frame.length - 4)) := bne_iff_ne

/-! ### Keys (R64) -/

/-- A key without an offset, or with one at which it is not wholly ahead of the check sequence, is absent. -/
theorem keyAt_absent {at_ : Option Nat} {size : Nat} (beyond : ∀ off, at_ = some off → frame.length - 4 < off + size) :
    keyAt frame size at_ = none := by
  cases at_ with
  | none => rfl
  | some off => exact if_pos (beyond off rfl)

theorem keyAt_present {off size : Nat} {bytes : List Byte} (ahead : off + size ≤ frame.length - 4)
    (slice : (frame.drop off).take size = bytes) : keyAt frame size (some off) = some (beNat bytes) := by
  rw [keyAt, if_neg ahead.not_gt, sliceAt, slice]

theorem keyAt_byte {off : Nat} {b : Byte} (ahead : off + 1 ≤ frame.length - 4) (first : (frame.drop off).head? = some b) :
    keyAt frame 1 (some off) = some b.toNat := by
  have slice : (frame.drop off).take 1 = [b] := by rw [List.take_one, first, Option.toList_some]
  rw [keyAt_present ahead slice, beNat_one]

/-! ### The group and its default (R65) -/

variable {c : PortConfig}

theorem arrivalOf_group_inRange {g : Nat} (read : keyAt frame 1 c.groupAt = some g) (h : g < 64) :
    (arrivalOf c frame).group = some ⟨g, h⟩ ∧ (arrivalOf c frame).groupRange = false
      ∧ (arrivalOf c frame).defaulted = false := by
  simp [arrivalOf, read, h]

theorem arrivalOf_group_outOfRange {g : Nat} (read : keyAt frame 1 c.groupAt = some g) (h : 64 ≤ g) :
    (arrivalOf c frame).group = c.defaultGroup ∧ (arrivalOf c frame).groupRange = true
      ∧ (arrivalOf c frame).defaulted = c.defaultGroup.isSome := by
  simp [arrivalOf, read, h.not_gt]

theorem arrivalOf_group_absent (read : keyAt frame 1 c.groupAt = none) :
    (arrivalOf c frame).group = c.defaultGroup ∧ (arrivalOf c frame).groupRange = false
      ∧ (arrivalOf c frame).defaulted = c.defaultGroup.isSome := by
  simp [arrivalOf, read]

end

/-! ### The kind class (R66) -/

section

variable {kindMap : List (Option KindEntry)} {b : Byte}

theorem mem_presentEntries {e : KindEntry} : e ∈ kindMap.filterMap id ↔ some e ∈ kindMap := by
  simp [List.mem_filterMap]

/-- Some present entry matches, and distinct byte values leave no other one for the search to stop at. -/
theorem classify_matching (distinct : ((kindMap.filterMap id).map KindEntry.value).Nodup) {e : KindEntry}
    (present : some e ∈ kindMap) (value : e.value = b) : classify kindMap (some b.toNat) = e.kind := by
  have member : e ∈ kindMap.filterMap id := mem_presentEntries.mpr present
  unfold classify
  dsimp only
  split
  next e' found =>
    have matching := List.find?_some found
    have sameByte : e'.value = b := BitVec.eq_of_toNat_eq (beq_iff_eq.mp matching)
    have same : e' = e :=
      List.inj_on_of_nodup_map distinct (List.mem_of_find?_eq_some found) member (sameByte.trans value.symm)
    rw [same]
  next missing => exact absurd (beq_iff_eq.mpr (congrArg BitVec.toNat value)) (List.find?_eq_none.mp missing e member)

theorem classify_unmatched (differs : ∀ e, some e ∈ kindMap → e.value ≠ b) : classify kindMap (some b.toNat) = .other := by
  have missing : (kindMap.filterMap id).find? (fun e => e.value.toNat == b.toNat) = none :=
    List.find?_eq_none.mpr fun e member matching =>
      differs e (mem_presentEntries.mp member) (BitVec.eq_of_toNat_eq (beq_iff_eq.mp matching))
  simp only [classify, missing]

end

/-- Settles O28: each key by the two cases of `keyAt`, then the group by the three ways it can be read and the kind class by the search
of the kind map. -/
theorem keys_are_read_ahead_of_the_frame_check : Obligations.keys_are_read_ahead_of_the_frame_check := by
  intro c frame a none'
  refine ⟨?fcs, ?session, keyAt_absent, ?message, keyAt_absent, ?group, ?groupAbsent, ?kind, ?kindAbsent, rfl⟩
  case fcs =>
    intro f0 f1 f2 f3 last
    rw [← leNat_four, ← last]
    exact fcsBad_iff
  case session =>
    intro off offset ahead x y slice
    have read := keyAt_present ahead slice
    rwa [beNat_two, ← offset] at read
  case message =>
    intro off offset ahead x y z w slice
    have read := keyAt_present ahead slice
    rwa [beNat_four, ← offset] at read
  case group =>
    intro off b offset ahead first
    have read : keyAt frame 1 c.groupAt = some b.toNat := offset ▸ keyAt_byte ahead first
    exact ⟨arrivalOf_group_inRange read, arrivalOf_group_outOfRange read⟩
  case groupAbsent => exact fun beyond => arrivalOf_group_absent (keyAt_absent beyond)
  case kind =>
    intro off b offset ahead first
    have read : keyAt frame 1 c.kindAt = some b.toNat := offset ▸ keyAt_byte ahead first
    have kind : a.kind = classify c.kindMap (some b.toNat) := congrArg (classify c.kindMap) read
    refine ⟨congrArg Option.isSome read, ?_, ?_⟩
    · exact fun e distinct present value => kind.trans (classify_matching distinct present value)
    · exact fun differs => kind.trans (classify_unmatched differs)
  case kindAbsent =>
    intro beyond
    have read : keyAt frame 1 c.kindAt = none := keyAt_absent beyond
    exact ⟨congrArg (classify c.kindMap) read, congrArg Option.isSome read⟩

end Sys2Proof.Machine
end

section
/-! SUPPORT. What the release of a notice or of a tap's entry does to the gates, the sequence counter and the staging buffers (R80 to
R83, R86, R92), and the two statements of the sequencing chapter that rest on them. -/

namespace Sys2Proof.Machine

/-! ### Gates and verdicts (R80, R81) -/

theorem Gate.after_eq (g : Gate) (n : Notice) : g.after n =
    if n.kind = .callOpen ∨ n.kind = .reopen then ⟨.opened, n.cycle⟩
    else if n.kind = .cutoff then ⟨.shut, n.cycle⟩
    else if n.kind = .cancel ∨ n.kind = .clear then ⟨.none, g.cycle⟩ else g := by
  unfold Gate.after
  cases n.kind <;> rfl

theorem verdictOf_absent (s : State) : verdictOf s none = (.noAuction, none) := rfl

section

variable {s : State} {g : Fin 64} {cycle : Nat}

theorem verdictOf_noGate (gate : s.seq.gates[g] = ⟨.none, cycle⟩) : verdictOf s (some g) = (.noAuction, none) := by
  simp only [verdictOf, gate]

theorem verdictOf_opened (gate : s.seq.gates[g] = ⟨.opened, cycle⟩) : verdictOf s (some g) = (.inTime, some cycle) := by
  simp only [verdictOf, gate]

theorem verdictOf_shut (gate : s.seq.gates[g] = ⟨.shut, cycle⟩) : verdictOf s (some g) = (.late, some cycle) := by
  simp only [verdictOf, gate]

end

/-! ### Staging (R82, R83, R85) -/

theorem nextNumber_of_lt {n : Nat} (h : n + 1 < 2 ^ 64) : nextNumber n = n + 1 := Nat.mod_eq_of_lt h

theorem mapLast_append_singleton {α : Type} (f : α → α) (l : List α) (x : α) : mapLast f (l ++ [x]) = l ++ [f x] := by
  induction l with
  | nil => rfl
  | cons y l ih => cases l with
    | nil => rfl
    | cons z l => exact congrArg (y :: ·) ih

theorem Record.fold_gap {lost had : Nat} (h : had + lost < 2 ^ 64) (lastLost : Nat) (hdr : Header) (seq : Nat) (o : Origin)
    (last : Nat) : Record.fold lost lastLost ⟨hdr, seq, .gap o had last⟩ = ⟨hdr, seq, .gap o (had + lost) lastLost⟩ := by
  simp only [Record.fold, fit64, if_pos h]

section

variable {s : State} {hdr : Header} {body : RecBody}

theorem stage_counter (bound : s.seq.counter + 1 < 2 ^ 64) : (stage hdr body s).seq.counter = s.seq.counter + 1 :=
  nextNumber_of_lt bound

theorem stage_stg_arrival (stream : body.stream = .arrival) : (stage hdr body s).stg = { s.stg with
    staged := { s.stg.staged with arrival := s.stg.staged.arrival ++ [⟨hdr, s.seq.counter, body⟩] } } := by
  simp only [stage, stream, PerStream.put, PerStream.get]

theorem stage_stg_auction (stream : body.stream = .auction) : (stage hdr body s).stg = { s.stg with
    staged := { s.stg.staged with auction := s.stg.staged.auction ++ [⟨hdr, s.seq.counter, body⟩] } } := by
  simp only [stage, stream, PerStream.put, PerStream.get]

theorem stageOrdinary_stg (stream : body.stream = .arrival) : (stageOrdinary hdr body s).stg = { s.stg with
    staged := { s.stg.staged with arrival := s.stg.staged.arrival ++ [⟨hdr, s.seq.counter, body⟩] }, openGap := false } :=
  stage_stg_arrival stream

variable {lost lastLost : Nat}

theorem stageLoss_closed (closed : s.stg.openGap = false) :
    stageLoss hdr lost lastLost s
      = stage hdr (.gap .staging lost lastLost) { s with stg := { s.stg with openGap := true } } := by
  simp [stageLoss, closed]

theorem stageLoss_open (opened : s.stg.openGap = true) :
    stageLoss hdr lost lastLost s = { s with stg := { s.stg with
      staged := { s.stg.staged with arrival := mapLast (Record.fold lost lastLost) s.stg.staged.arrival } } } := by
  simp [stageLoss, opened]

/-- With no staging GAP open, a loss opens one, which takes the next number. -/
theorem stageLoss_opens (closed : s.stg.openGap = false) (bound : s.seq.counter + 1 < 2 ^ 64) :
    (stageLoss hdr lost lastLost s).seq.counter = s.seq.counter + 1
    ∧ (stageLoss hdr lost lastLost s).stg = { s.stg with
        staged := { s.stg.staged with
          arrival := s.stg.staged.arrival ++ [⟨hdr, s.seq.counter, .gap .staging lost lastLost⟩] }
        openGap := true } := by
  rw [stageLoss_closed closed]
  exact ⟨stage_counter bound, stage_stg_arrival rfl⟩

/-- With a staging GAP open, a loss is folded into it and takes no number. -/
theorem stageLoss_folds {l : List Record} {h : Header} {q : Nat} {o : Origin} {had last : Nat} (opened : s.stg.openGap = true)
    (newest : s.stg.staged.arrival = l ++ [⟨h, q, .gap o had last⟩]) (bound : had + lost < 2 ^ 64) :
    (stageLoss hdr lost lastLost s).seq.counter = s.seq.counter
    ∧ (stageLoss hdr lost lastLost s).stg = { s.stg with
        staged := { s.stg.staged with arrival := l ++ [⟨h, q, .gap o (had + lost) lastLost⟩] } } := by
  rw [stageLoss_open opened, newest, mapLast_append_singleton, Record.fold_gap bound]
  exact ⟨rfl, rfl⟩

/-- A loss changes the staging buffers and the counter alone. -/
theorem stageLoss_frame : stageLoss hdr lost lastLost s = { s with
    stg := (stageLoss hdr lost lastLost s).stg
    seq := { s.seq with counter := (stageLoss hdr lost lastLost s).seq.counter } } := by
  cases opened : s.stg.openGap with
  | false => rw [stageLoss_closed opened]; rfl
  | true => rw [stageLoss_open opened]

end

/-! ### Notices (R79, R80, R86) -/

section

variable {s : State} {q : QueuedNotice}

theorem takeHead_notices {rest : List QueuedNotice} (queue : s.auc.notices = q :: rest) :
    takeHead .notices s = releaseNotice q { s with auc := { s.auc with notices := rest } } := by
  simp only [takeHead, queue]

theorem releaseNotice_room (room : s.stg.staged.auction.length < 512) :
    releaseNotice q s = stage q.hdr (.notice q.notice) (updateGate q.notice s) := if_pos room

theorem releaseNotice_full (full : 512 ≤ s.stg.staged.auction.length) :
    releaseNotice q s = onAcc Accum.noteNoticeLost (updateGate q.notice s) := if_neg (not_lt.mpr full)

/-- With or without room, the release of a notice updates the gate of its group, and beside the gate it changes only the counter, the
staging buffers and the evidence unit. -/
theorem releaseNotice_frame : releaseNotice q s = { updateGate q.notice s with
    stg := (releaseNotice q s).stg
    evu := (releaseNotice q s).evu
    seq := { (updateGate q.notice s).seq with counter := (releaseNotice q s).seq.counter } } := by
  rcases Nat.lt_or_ge s.stg.staged.auction.length 512 with room | full
  · rw [releaseNotice_room room]; rfl
  · rw [releaseNotice_full full]; rfl

theorem releaseNotice_gates :
    (releaseNotice q s).seq.gates = s.seq.gates.set q.notice.group ((s.seq.gates[q.notice.group]).after q.notice) :=
  congrArg (·.seq.gates) releaseNotice_frame

end

/-- Settles O32: the gate and the frame hold of either branch of `releaseNotice`; the room in auction staging decides the rest. -/
theorem notice_release_updates_the_gate_and_is_staged_or_dropped :
    Obligations.notice_release_updates_the_gate_and_is_staged_or_dropped := by
  intro s q rest queue bound t n gate held
  have released : t = releaseNotice q { s with auc := { s.auc with notices := rest } } := takeHead_notices queue
  clear_value t
  have gates : t.seq.gates = s.seq.gates.set n.group (gate.after n) := released ▸ releaseNotice_gates
  have auc : t.auc = { s.auc with notices := rest } := released ▸ releaseNotice_auc _ q
  refine ⟨auc, ?gate, ?room, ?full, ?frame⟩
  case gate => rw [gates, Gate.after_eq]
  case room =>
    intro room
    rw [released.trans (releaseNotice_room room)]
    exact ⟨rfl, stage_counter bound, stage_stg_auction rfl⟩
  case full =>
    intro full
    rw [released.trans (releaseNotice_full full)]
    exact ⟨rfl, rfl, rfl⟩
  case frame =>
    rw [auc, gates, released]
    exact releaseNotice_frame

/-! ### Arrivals and port GAPs (R81, R83, R92) -/

section

variable {s : State} {n : Fin 8} {hdr : Header} {a : Arrival} {lost lastLost : Nat}

theorem takeHead_arrival {e : PortEntry} {rest : List PortEntry} (fifo : (port s n).fifo = e :: rest)
    (body : e.body = .arrival a) :
    takeHead (.tap n) s = releaseArrival n e.hdr a (setPort n { port s n with fifo := rest } s) := by
  simp only [takeHead, fifo, body]

theorem takeHead_gap {e : PortEntry} {rest : List PortEntry} {o : Bool} (fifo : (port s n).fifo = e :: rest)
    (body : e.body = .gap lost lastLost o) :
    takeHead (.tap n) s = releaseGap n e.hdr lost lastLost (setPort n { port s n with fifo := rest } s) := by
  simp only [takeHead, fifo, body]

theorem arrivalRoom_iff : arrivalRoom s = true ↔ s.stg.staged.arrival.length < 16383 := decide_eq_true_iff

theorem releaseArrival_room (room : s.stg.staged.arrival.length < 16383) : releaseArrival n hdr a s
    = stageOrdinary hdr (.arrival n (verdictOf s a.group).1 (verdictOf s a.group).2 a) s :=
  if_pos (arrivalRoom_iff.mpr room)

theorem releaseArrival_full (full : 16383 ≤ s.stg.staged.arrival.length) :
    releaseArrival n hdr a s = onAcc Accum.noteLost (stageLoss hdr 1 hdr.stamp s) :=
  if_neg (arrivalRoom_iff.not.mpr (not_lt.mpr full))

theorem releaseGap_room (room : s.stg.staged.arrival.length < 16383) :
    releaseGap n hdr lost lastLost s = stageOrdinary hdr (.gap (.port n) lost lastLost) s :=
  if_pos (arrivalRoom_iff.mpr room)

theorem releaseGap_full (full : 16383 ≤ s.stg.staged.arrival.length) :
    releaseGap n hdr lost lastLost s = stageLoss hdr lost lastLost s :=
  if_neg (arrivalRoom_iff.not.mpr (not_lt.mpr full))

/-- The release of an arrival changes the counter, the staging buffers and the evidence unit alone. -/
theorem releaseArrival_frame : releaseArrival n hdr a s = { s with
    seq := { s.seq with counter := (releaseArrival n hdr a s).seq.counter }
    stg := (releaseArrival n hdr a s).stg
    evu := (releaseArrival n hdr a s).evu } := by
  rcases Nat.lt_or_ge s.stg.staged.arrival.length 16383 with room | full
  · rw [releaseArrival_room room]; rfl
  · rw [releaseArrival_full full]; rw [stageLoss_frame]; rfl

/-- The release of a port GAP changes the counter and the staging buffers alone. -/
theorem releaseGap_frame : releaseGap n hdr lost lastLost s = { s with
    seq := { s.seq with counter := (releaseGap n hdr lost lastLost s).seq.counter }
    stg := (releaseGap n hdr lost lastLost s).stg } := by
  rcases Nat.lt_or_ge s.stg.staged.arrival.length 16383 with room | full
  · rw [releaseGap_room room]; rfl
  · rw [releaseGap_full full]; exact stageLoss_frame

end

/-- Settles O33: an arrival and a port GAP each by the room in arrival staging; without room both are a loss, which `stageLoss_opens`
and `stageLoss_folds` place. -/
theorem tap_release_is_staged_or_folded_into_the_staging_gap :
    Obligations.tap_release_is_staged_or_folded_into_the_staging_gap := by
  intro s n e rest fifo bound t held staged lostInto
  refine ⟨?arrival, ?gap, ?frame⟩
  case arrival =>
    intro a body
    have released : t = releaseArrival n e.hdr a (setPort n { port s n with fifo := rest } s) := takeHead_arrival fifo body
    clear_value t
    constructor
    · intro room
      obtain rfl := released.trans (releaseArrival_room room)
      refine ⟨rfl, (verdictOf s a.group).1, (verdictOf s a.group).2, ⟨stage_counter bound, stageOrdinary_stg rfl⟩, ?_, ?_⟩
      · intro absent
        rw [absent, verdictOf_absent]
        exact ⟨rfl, rfl⟩
      · intro g present
        rw [present]
        split
        next gate => rw [verdictOf_noGate gate]; exact ⟨rfl, rfl⟩
        next gate => rw [verdictOf_opened gate]; exact ⟨rfl, rfl⟩
        next gate => rw [verdictOf_shut gate]; exact ⟨rfl, rfl⟩
    · intro full
      obtain rfl := released.trans (releaseArrival_full full)
      refine ⟨⟨fun closed => stageLoss_opens closed bound, ?_⟩, ?_⟩
      · exact fun l h q o had last opened newest fits => stageLoss_folds opened newest fits
      · exact congrArg (·.onAcc Accum.noteLost) (stageLoss_evu _ _ _ _)
  case gap =>
    intro lost last o body
    have released : t = releaseGap n e.hdr lost last (setPort n { port s n with fifo := rest } s) := takeHead_gap fifo body
    clear_value t
    refine ⟨released ▸ releaseGap_evu _ n e.hdr lost last, ?_, ?_⟩
    · intro room
      obtain rfl := released.trans (releaseGap_room room)
      exact ⟨stage_counter bound, stageOrdinary_stg rfl⟩
    · intro full
      obtain rfl := released.trans (releaseGap_full full)
      exact ⟨fun closed => stageLoss_opens closed bound,
        fun l h q o had last opened newest fits => stageLoss_folds opened newest fits⟩
  case frame =>
    cases body : e.body with
    | arrival a =>
      have released : t = _ := takeHead_arrival fifo body
      clear_value t
      rw [released]
      exact releaseArrival_frame
    | gap lost last o =>
      have released : t = _ := takeHead_gap fifo body
      clear_value t
      rw [released, releaseGap_frame]
      rfl

end Sys2Proof.Machine
end

section
/-! SUPPORT. What a part that leaves power-on or pin reset holds in its divergence monitor, its evidence unit with evidence staging,
and its request processor: their reset tables, with the RESET record and its reservation (R55, R94, R134, R136, R179); and the
statement of the reset tables that rests on them. -/

namespace Sys2Proof.Machine

section

variable {straps : Straps} {s t : State}

/-- `leaveReset` leaves the divergence monitor as its reset table has it (R55). -/
theorem LeftReset.div_eq (h : LeftReset straps s t) : t.div = Div.cleared := by
  obtain ⟨_, _, _, rfl⟩ := h.eq_leaveReset
  rfl

/-- The evidence unit differs from its reset table by one record in the queue, the RESET record of R134 (R136). -/
theorem LeftReset.evu_eq (h : LeftReset straps s t) :
    ∃ causes, t.evu = { Evu.cleared with queue := [resetRecord causes t.osc.state] } := by
  obtain ⟨_, power, pin, rfl⟩ := h.eq_leaveReset
  exact ⟨⟨power, pin, false, false⟩, rfl⟩

/-- The staging buffers differ from their reset table by one reservation, the one that the RESET record holds (R94, R134). -/
theorem LeftReset.stg_eq (h : LeftReset straps s t) : t.stg = { Stg.cleared with reserved := 1 } := by
  obtain ⟨_, _, _, rfl⟩ := h.eq_leaveReset
  rfl

/-- `leaveReset` leaves the request processor as its reset table has it (R179). -/
theorem LeftReset.rqp_eq (h : LeftReset straps s t) : t.rqp = Rqp.cleared := by
  obtain ⟨_, _, _, rfl⟩ := h.eq_leaveReset
  rfl

end

/-- Settles O6: each block is its reset table, but for the RESET record in the evidence queue and its reservation in staging; the
values are those of the tables. -/
theorem divergence_evidence_and_requests_after_reset : Obligations.divergence_evidence_and_requests_after_reset := by
  intro straps s t h
  obtain ⟨causes, evu⟩ := h.evu_eq
  rw [h.div_eq, evu, h.stg_eq, h.rqp_eq]
  refine ⟨?div, ?evidence, ?requests⟩
  case div => exact ⟨rfl, rfl, rfl, rfl, rfl, rfl, rfl, rfl, rfl, rfl, rfl⟩
  case evidence => exact ⟨⟨resetRecord causes t.osc.state, rfl⟩, rfl, rfl, rfl, rfl, rfl, rfl⟩
  case requests => exact ⟨rfl, rfl, rfl, rfl, rfl⟩

end Sys2Proof.Machine
end

section
/-! SUPPORT. What each command does to a part that takes it, the keeping of a property by every command, and the statements that every
command completes, that a step runs the front command, and what the two whole resets leave (R2, R43, R74, R94, R117, R134, R160). -/

namespace Sys2Proof.Machine

/-! ### The effect of a command -/

/-- The commands a part in reset takes: the resets, the oscillator's and the links' events, and the write that is always ignored
(R2; logs 4, 29). -/
def actsInReset : Instr → Bool
  | .powerOnReset _ | .lockWaitEnd | .pinReset _ | .lockEvent | .lossOfLock | .linkGain _ | .linkLoss _ | .otherRegisterWrite _ => true
  | _ => false

/-- What a command does to a part that takes it. -/
def effect : Instr → State → State
  | .powerOnReset straps => fun s => { clearBlocks straps s with
      osc := { phase := .lockWait s.osc.phase.pinLow s.osc.phase.pinLow, state := .backup, tick := 0 } }
  | .lockWaitEnd => endLockWait
  | .pinReset edge => fun s => match edge with
    | .fall straps => pinFall straps s
    | .rise => pinRise s
  | .lockEvent => lockEvent
  | .lossOfLock => lossOfLock
  | .slewExpiry => slewExpiry
  | .pulseCapture => pulseCapture
  | .readStart => readStart
  | .readComplete window order => readComplete window order
  | .readAbortMismatch bit => fun s => abortTransaction (canMismatch s.ref.set bit) .mismatch s
  | .readAbortNack bit => fun s => abortTransaction (canNack s.ref.set bit) .nack s
  | .clockHoldTimeout => clockHold
  | .readTimeout clockHigh => readTimeout clockHigh
  | .recoveryEnd bothHigh => recoveryEnd bothHigh
  | .busStopEnd bothHigh => busStopEnd bothHigh
  | .lossTimeout => lossTimeout
  | .holdoverSecond => fun s => secondIn s.tsu.state s
  | .linkGain n => linkGain n
  | .linkLoss n => linkLoss n
  | .startOfFrame n => startOfFrame n
  | .endOfFrame n frame => endOfFrame n frame
  | .mergeRelease => release
  | .startDeadline => handleTagged .start
  | .endDeadline => handleTagged .end_
  | .cutoffDeadline => handleTagged .cutoff
  | .decideLimit => handleTagged .decideLimit
  | .summaryDue => summaryStep
  | .pendingReset => flushReset
  | .burstStart => burstStart
  | .burstComplete ok => burstComplete ok
  | .trailerComplete st ok => trailerComplete st ok
  | .statusWriteComplete ok => statusWriteComplete ok
  | .entryWriteComplete which ok => entryWriteComplete which ok
  | .areaWrite value => areaWrite value
  | .enableSet value => controlWrite true value
  | .enableClear value => controlWrite false value
  | .maskWrite value => fun s => controlWrite s.arc.enable value s
  | .linkReset _ => beginLinkReset ⟨false, true⟩
  | .linkHot => beginLinkReset ⟨true, false⟩
  | .linkResetTakesEffect => linkResetTakesEffect
  | .handWrite value => handWrite value
  | .handFetchComplete entry => handFetchComplete entry
  | .causeWrite value => causeWrite value
  | .otherRegisterWrite _ => id
  | .requestSegmentTake => requestSegmentTake
  | .slotReadComplete slot => slotReadComplete slot
  | .slotWriteComplete ended => slotWriteComplete ended.which ended.ok
  | .stamp => takeRequest 0x01 takeStamp
  | .mark => takeRequest 0x02 takeMark
  | .setTime order => takeRequest 0x03 (takeSetTime order)
  | .schedule => takeRequest 0x10 takeSchedule
  | .amend => takeRequest 0x11 takeAmend
  | .cancel => takeRequest 0x12 takeCancel
  | .decideClose => takeRequest 0x13 fun b s => if (readDecide b).decision = 1 then s else takeDecide b s
  | .decideExtend => takeRequest 0x13 fun b s => if (readDecide b).decision = 0 then s else takeDecide b s
  | .clear => takeRequest 0x14 takeClear
  | .queryGroup => takeRequest 0x15 takeQueryGroup
  | .queryPort => takeRequest 0x20 takeQueryPort
  | .configPortConfigure => takeRequest 0x21 (takeConfigPort actionConfigure configurePort)
  | .configPortEnable => takeRequest 0x21 (takeConfigPort actionEnable fun n _ => enablePort n)
  | .configPortDisable => takeRequest 0x21 (takeConfigPort actionDisable fun n _ => disablePort n)
  | .cut => takeRequest 0x30 takeCut
  | .configDiscipline => takeRequest 0x40 takeDiscipline
  | .configReference => takeRequest 0x41 takeReference
  | .configTrace => takeRequest 0x42 takeTrace
  | .tick => tick

/-- A command has its effect on a running part, and on a part in reset when it is one of those such a part takes. -/
theorem exec_eq_effect (c : Instr) (s : State) :
    exec c s = if actsInReset c then .next (effect c s) else live (effect c) s := by
  cases c <;> rfl

/-- Whether the part takes a command in a state. -/
def Takes (c : Instr) (s : State) : Prop := actsInReset c = true ∨ s.osc.phase = .running

theorem exec_of_takes {c : Instr} {s : State} (h : Takes c s) : exec c s = .next (effect c s) := by
  rw [exec_eq_effect]
  split
  · rfl
  · exact live_running (h.resolve_left ‹_›) _

theorem exec_of_not_takes {c : Instr} {s : State} (h : ¬Takes c s) : exec c s = .next s := by
  obtain ⟨reset, run⟩ := not_or.mp h
  rw [exec_eq_effect, if_neg reset, live, if_neg run]

theorem exec_running {c : Instr} {s : State} (run : s.osc.phase = .running) : exec c s = .next (effect c s) :=
  exec_of_takes (.inr run)

/-- What holds of a state and of the effect of a command that is taken holds after the command. -/
theorem exec_keeps {P : State → Prop} {c : Instr} {s t : State} (h : exec c s = .next t) (idle : P s)
    (taken : Takes c s → P (effect c s)) : P t := by
  by_cases hc : Takes c s
  · rw [exec_of_takes hc] at h
    exact Host.Outcome.next.inj h ▸ taken hc
  · rw [exec_of_not_takes hc] at h
    exact Host.Outcome.next.inj h ▸ idle

/-- What every effect keeps and does not speak of the queue of waiting commands, every step keeps. -/
theorem step_keeps {P : State → Prop} (queue : ∀ s l, P s → P { s with pending := l })
    (taken : ∀ c s, P s → Takes c s → P (effect c s)) {s t : State} (hs : P s) (h : step s = .next t) : P t := by
  unfold step at h
  split at h
  · exact Host.Outcome.next.inj h ▸ hs
  · exact exec_keeps h (queue s _ hs) (taken _ _ (queue s _ hs))

/-! ### Requests -/

/-- What holds of a state and of what its owner makes of the slot offered holds after the request. -/
theorem takeRequest_keeps {P : State → Prop} {kind : Nat} {f : List Byte → State → State} {s : State} (idle : P s)
    (taken : s.rqp.phase = .offered → P (f s.rqp.bytes s)) : P (takeRequest kind f s) := by
  unfold takeRequest
  split
  · exact taken (‹_ ∧ _›.1)
  · exact idle

theorem whenRoom_keeps {P : State → Prop} {f : State → State} {s : State} (idle : P s)
    (taken : noticeRoom s = true → P (f s)) : P (whenRoom f s) := by
  unfold whenRoom
  split
  · exact taken (Bool.and_eq_true_iff.mp ‹_›).1
  · exact idle

theorem takeConfigPort_keeps {P : State → Prop} {action : Nat} {f : Fin 8 → List Byte → State → State} {b : List Byte} {s : State}
    (idle : P s) (refused : P (answer .badParam [] s)) (taken : ∀ n, P (f n b s)) : P (takeConfigPort action f b s) := by
  unfold takeConfigPort
  (repeat' split) <;> first | exact taken _ | exact refused | exact idle

theorem takeMark_frame (b : List Byte) (s : State) : GroupFrame s (takeMark b s) := by
  unfold takeMark flushReset
  dsimp only
  (repeat' split) <;> rfl

end Sys2Proof.Machine
end

section
/-! SUPPORT. The commands that only read, report and keep books: what they leave (R2, R140). -/

namespace Sys2Proof.Machine

/-! ### Commands that report and read -/

/-- What a command leaves when it does no more than read, report and keep the books of the host-facing side: the blocks and fields the
invariants speak of are as they were, and the reservations of evidence staging stay in step with the evidence queue. -/
structure Quiet (s t : State) : Prop where
  osc : t.osc = s.osc
  tsu : t.tsu = { s.tsu with xtRead := t.tsu.xtRead }
  div : t.div = s.div
  taps : t.taps = s.taps
  settle : t.seq.settle = s.seq.settle
  comps : t.seq.comps = s.seq.comps
  staged : t.stg.staged = s.stg.staged
  openGap : t.stg.openGap = s.stg.openGap
  auc : t.auc = s.auc
  jwr : t.jwr = s.jwr
  copies : t.arc.copies = s.arc.copies
  lent : t.arc.lent = s.arc.lent
  openSeg : t.arc.openSeg = s.arc.openSeg
  closing : t.arc.closing = s.arc.closing
  requests : t.arc.requests = s.arc.requests
  hand : t.arc.hand = s.arc.hand
  cur : t.rqp.cur = s.rqp.cur
  pending : t.pending = s.pending
  evidence : EvidenceHeld s → EvidenceHeld t

namespace Quiet

variable {s t u : State}

theorem refl (s : State) : Quiet s s := by constructor <;> simp

theorem trans (h : Quiet s t) (k : Quiet t u) : Quiet s u where
  osc := k.osc.trans h.osc
  tsu := by rw [k.tsu, h.tsu]
  div := k.div.trans h.div
  taps := k.taps.trans h.taps
  settle := k.settle.trans h.settle
  comps := k.comps.trans h.comps
  staged := k.staged.trans h.staged
  openGap := k.openGap.trans h.openGap
  auc := k.auc.trans h.auc
  jwr := k.jwr.trans h.jwr
  copies := k.copies.trans h.copies
  lent := k.lent.trans h.lent
  openSeg := k.openSeg.trans h.openSeg
  closing := k.closing.trans h.closing
  requests := k.requests.trans h.requests
  hand := k.hand.trans h.hand
  cur := k.cur.trans h.cur
  pending := k.pending.trans h.pending
  evidence := fun e => k.evidence (h.evidence e)

theorem onRef (f : Ref → Ref) (s : State) : Quiet s (onRef f s) := by
  constructor
  case evidence => exact fun e => e.congr rfl rfl rfl
  all_goals simp

theorem onAcc (f : Accum → Accum) (s : State) : Quiet s (onAcc f s) := by
  constructor
  case evidence => exact fun e => e.onAcc f
  all_goals simp

theorem raise (c : Cause) (s : State) : Quiet s (raise c s) := by
  constructor
  case evidence => exact fun e => e.raise c
  all_goals simp

theorem readXt (s : State) : Quiet s (readXt s) := by
  constructor
  case evidence => exact fun e => e.congr rfl rfl rfl
  all_goals rfl

theorem answer (o : ReqOutcome) (fs : List Field) (s : State) : Quiet s (answer o fs s) := by
  constructor
  case evidence => exact fun e => e.answer o fs
  all_goals rfl

theorem setSlotPhase (p : SlotPhase) (s : State) : Quiet s (setSlotPhase p s) := by
  constructor
  case evidence => exact fun e => e.congr rfl rfl rfl
  all_goals rfl

theorem deliver (o : ReqOutcome) (fs : List Field) (s : State) : Quiet s (deliver o fs s) := by
  unfold Machine.deliver
  split
  · exact setSlotPhase .idle s
  · exact answer o fs s

theorem flushReset (s : State) : Quiet s (flushReset s) := by
  constructor
  case evidence => exact fun e => e.flushReset
  all_goals simp

theorem makeEvidence (b : EvBody) (s : State) : Quiet s (makeEvidence b s) := by
  constructor
  case evidence => exact fun e => e.makeEvidence b
  all_goals simp

theorem statusEvent (s : State) : Quiet s (statusEvent s) := by
  constructor
  case evidence => exact fun e => e.statusEvent
  all_goals simp

theorem issueStatus (s : State) : Quiet s (issueStatus s) := by
  constructor
  case evidence => exact fun e => e.congr rfl rfl rfl
  all_goals simp

theorem checkStarved (s : State) : Quiet s (checkStarved s) := by
  constructor
  case evidence => exact fun e => e.checkStarved
  all_goals simp

theorem summaryStep (s : State) : Quiet s (summaryStep s) := by
  constructor
  case evidence => exact fun e => e.summaryStep
  all_goals simp

/-- A change of the area controller that leaves the segments and the HAND in progress as they are. -/
theorem onArc {f : Arc → Arc} {s : State} (copies : (f s.arc).copies = s.arc.copies) (lent : (f s.arc).lent = s.arc.lent)
    (openSeg : (f s.arc).openSeg = s.arc.openSeg) (closing : (f s.arc).closing = s.arc.closing)
    (requests : (f s.arc).requests = s.arc.requests) (hand : (f s.arc).hand = s.arc.hand) : Quiet s (onArc f s) where
  copies := copies
  lent := lent
  openSeg := openSeg
  closing := closing
  requests := requests
  hand := hand
  osc := rfl
  tsu := rfl
  div := rfl
  taps := rfl
  settle := rfl
  comps := rfl
  staged := rfl
  openGap := rfl
  auc := rfl
  jwr := rfl
  cur := rfl
  pending := rfl
  evidence := fun e => e.congr rfl rfl rfl

/-- A request is quiet when what its owner makes of the slot is. -/
theorem takeRequest {kind : Nat} {f : List Byte → State → State} {s : State} (hf : Quiet s (f s.rqp.bytes s)) :
    Quiet s (takeRequest kind f s) := takeRequest_keeps (refl s) fun _ => hf

end Quiet

/-- A command that only reads, reports and keeps the books of the host-facing side. -/
def isQuiet : Instr → Bool
  | .pulseCapture | .readStart | .readAbortMismatch _ | .readAbortNack _ | .clockHoldTimeout | .readTimeout _ | .recoveryEnd _
  | .busStopEnd _ | .summaryDue | .pendingReset | .statusWriteComplete _ | .entryWriteComplete _ _ | .areaWrite _ | .enableSet _
  | .enableClear _ | .maskWrite _ | .causeWrite _ | .otherRegisterWrite _ | .stamp | .mark | .queryGroup | .queryPort
  | .configReference => true
  | _ => false

theorem rejectPulse_quiet (reason : RefReason) (sub : SubReason) (s : State) : Quiet s (rejectPulse reason sub s) := by
  have counted := (Quiet.onRef (fun r => { r with rejectRun := satAdd 65535 r.rejectRun 1, state := .bad }) s).trans
    (.onAcc (Accum.noteRejected reason sub) _)
  unfold rejectPulse
  dsimp only
  split
  · exact counted
  · exact counted.trans ((Quiet.makeEvidence _ _).trans (.statusEvent _))

theorem abortRead_quiet (sub : SubReason) (s : State) : Quiet s (abortRead sub s) :=
  (Quiet.onRef _ s).trans (rejectPulse_quiet _ _ _)

theorem noteWrite_quiet (ok : Bool) (s : State) : Quiet s (noteWrite ok s) := by
  unfold noteWrite
  split
  · exact .refl s
  · exact .raise _ s

theorem resume_cur (r : Rqp) : r.resume.cur = r.cur := by
  unfold Rqp.resume
  split <;> rfl

theorem controlWrite_quiet (enable : Bool) (value : RegWord) (s : State) : Quiet s (controlWrite enable value s) := by
  have resumed : ∀ t, Quiet t { t with rqp := t.rqp.resume } := fun t => by
    constructor
    case cur => exact resume_cur _
    case evidence => exact fun e => e.congr rfl rfl rfl
    all_goals rfl
  have written := Quiet.onArc (f := fun a => { a with enable := enable, mask := maskOf value }) (s := s) rfl rfl rfl rfl rfl rfl
  unfold controlWrite resumeHost
  dsimp only
  split
  · exact .refl s
  · split
    · exact written.trans ((Quiet.statusEvent _).trans ((resumed _).trans (.checkStarved _)))
    · exact written

theorem takeStamp_quiet (b : List Byte) (s : State) : Quiet s (takeStamp b s) := by
  unfold takeStamp
  split
  · exact .refl s
  · constructor
    case evidence => exact fun e => e.congr rfl rfl rfl
    all_goals rfl

theorem takeMark_quiet (b : List Byte) (s : State) : Quiet s (takeMark b s) := by
  have suppressed : ∀ t, Quiet t (suppress t) := fun t => by
    constructor
    case evidence => exact fun e => e.suppress
    all_goals simp
  unfold takeMark
  dsimp only
  split
  · refine (Quiet.flushReset s).trans ?_
    constructor
    case evidence => exact fun e => (e.pushEvidence ‹_› _ _).congr rfl rfl rfl
    all_goals simp
  · exact (Quiet.flushReset s).trans ((suppressed _).trans ((Quiet.readXt _).trans (.answer _ _ _)))

theorem takeReference_quiet (b : List Byte) (s : State) : Quiet s (takeReference b s) := by
  unfold takeReference
  split
  · exact .answer _ _ s
  · split
    · exact .answer _ _ s
    · exact (Quiet.onRef _ s).trans ((Quiet.makeEvidence _ _).trans (.answer _ _ _))

theorem effect_quiet {c : Instr} (h : isQuiet c = true) (s : State) : Quiet s (effect c s) := by
  cases c <;> dsimp only [effect]
  case pulseCapture =>
    unfold pulseCapture
    (repeat' split) <;> first | exact .refl s | exact rejectPulse_quiet _ _ s | exact .onRef _ s
  case readStart =>
    unfold readStart
    split
    · exact .onRef _ s
    · exact .refl s
  case readAbortMismatch bit =>
    unfold abortTransaction
    split
    · exact (Quiet.onRef _ s).trans (abortRead_quiet _ _)
    · exact .refl s
  case readAbortNack bit =>
    unfold abortTransaction
    split
    · exact (Quiet.onRef _ s).trans (abortRead_quiet _ _)
    · exact .refl s
  case clockHoldTimeout =>
    unfold clockHold
    split
    · exact .refl s
    · exact (Quiet.onRef _ s).trans (abortRead_quiet _ _)
    · exact (Quiet.onRef _ s).trans (abortRead_quiet _ _)
    · exact .onRef _ s
    · exact .onRef _ s
  case readTimeout high =>
    unfold readTimeout
    split
    · exact (Quiet.onRef _ s).trans (abortRead_quiet _ _)
    · exact .refl s
  case recoveryEnd high =>
    unfold recoveryEnd
    split
    · split
      · exact .onRef _ s
      · exact (Quiet.onRef _ s).trans (abortRead_quiet _ _)
    · exact .onRef _ s
    all_goals exact .refl s
  case busStopEnd high =>
    unfold busStopEnd
    split
    · exact .onRef _ s
    · exact .refl s
  case summaryDue => exact .summaryStep s
  case pendingReset => exact .flushReset s
  case statusWriteComplete ok =>
    have done := (Quiet.onArc (f := Arc.statusDone) (s := s) rfl rfl rfl rfl rfl rfl).trans (noteWrite_quiet ok _)
    unfold statusWriteComplete
    dsimp only
    (repeat' split) <;> first | exact .refl s | exact done | exact done.trans (.issueStatus _)
  case entryWriteComplete which ok =>
    unfold entryWriteComplete
    split
    · exact (Quiet.onArc rfl rfl rfl rfl rfl rfl).trans (noteWrite_quiet ok _)
    · exact .refl s
  case areaWrite value =>
    unfold areaWrite
    split
    · exact .onArc rfl rfl rfl rfl rfl rfl
    · exact .refl s
  case enableSet value => exact controlWrite_quiet _ _ s
  case enableClear value => exact controlWrite_quiet _ _ s
  case maskWrite value => exact controlWrite_quiet _ _ s
  case causeWrite value => exact .onArc rfl rfl rfl rfl rfl rfl
  case otherRegisterWrite value => exact .refl s
  case stamp => exact .takeRequest (takeStamp_quiet _ s)
  case mark => exact .takeRequest (takeMark_quiet _ s)
  case queryGroup =>
    refine .takeRequest ?_
    unfold takeQueryGroup
    split
    · exact (Quiet.readXt s).trans (.answer _ _ _)
    · exact .answer _ _ s
  case queryPort =>
    refine .takeRequest ?_
    unfold takeQueryPort
    split <;> exact .answer _ _ s
  case configReference => exact .takeRequest (takeReference_quiet _ s)
  all_goals exact absurd h Bool.false_ne_true


end Sys2Proof.Machine
end

section
/-! SUPPORT. What the other commands leave, and the case split over the commands by what they may change. -/

namespace Sys2Proof.Machine

/-! ### What the other commands leave -/

variable (s : State)

theorem endLockWait_frame : endLockWait s = { s with
    osc := (endLockWait s).osc, stg := (endLockWait s).stg, evu := (endLockWait s).evu } := by
  unfold endLockWait
  (repeat' split) <;> rfl

theorem lockEvent_frame : lockEvent s = { s with
    osc := (lockEvent s).osc, div := (lockEvent s).div, stg := (lockEvent s).stg, evu := (lockEvent s).evu
    arc := (lockEvent s).arc } := by
  refine State.eq_of_fields rfl ?_ ?_ rfl ?_ ?_ rfl ?_ rfl ?_ rfl ?_ ?_ <;> unfold lockEvent <;> split <;> try split
  all_goals simp <;> rw [endLockWait_frame] <;> rfl

theorem lossOfLock_frame : lossOfLock s = { s with
    osc := (lossOfLock s).osc, div := (lossOfLock s).div, stg := (lossOfLock s).stg, evu := (lossOfLock s).evu
    arc := (lossOfLock s).arc } := by
  refine State.eq_of_fields rfl ?_ ?_ rfl ?_ ?_ rfl ?_ rfl ?_ rfl ?_ ?_ <;> unfold lossOfLock <;> split <;> try split
  all_goals simp

/-- What a tap port's events and its configuration may change: the ports, SETTLE, an evidence record with its reservation, and the slot. -/
def TapFrame (s t : State) : Prop :=
  t = { s with
    taps := t.taps, seq := { s.seq with comps := t.seq.comps, settle := t.seq.settle }
    evu := { s.evu with queue := t.evu.queue, acc := t.evu.acc, pendingReset := t.evu.pendingReset }
    stg := { s.stg with reserved := t.stg.reserved }, rqp := { s.rqp with phase := t.rqp.phase, tickResult := t.rqp.tickResult } }

namespace TapFrame

variable {s t u : State}

theorem refl (s : State) : TapFrame s s := rfl

theorem trans (h : TapFrame s t) (k : TapFrame t u) : TapFrame s u := by
  unfold TapFrame at h k ⊢
  rw [k, h]

theorem setPort (n : Fin 8) (p : Port) (s : State) : TapFrame s (setPort n p s) := rfl

theorem reportSettle (n : Fin 8) (c : Option Nat) (s : State) : TapFrame s (reportSettle n c s) := rfl

theorem makeEvidence (b : EvBody) (s : State) : TapFrame s (makeEvidence b s) := by
  unfold TapFrame Machine.makeEvidence flushReset
  (repeat' split) <;> rfl

theorem answer (o : ReqOutcome) (fs : List Field) (s : State) : TapFrame s (answer o fs s) := rfl

theorem answerForTick (r : TickResult) (fs : List Field) (s : State) : TapFrame s (answerForTick r fs s) := rfl

theorem onAcc (f : Accum → Accum) (s : State) : TapFrame s (onAcc f s) := rfl

theorem movePort (n : Fin 8) (p : Port) (s : State) : TapFrame s (movePort n p s) := (setPort n p s).trans (makeEvidence _ _)

theorem enterFifo (n : Fin 8) (hdr : Header) (tick : Nat) (a : Arrival) (p : Port) (s : State) :
    TapFrame s (enterFifo n hdr tick a p s) := by
  unfold Machine.enterFifo
  split <;> rfl

end TapFrame

theorem linkGain_frame (n : Fin 8) : TapFrame s (linkGain n s) := by
  unfold linkGain
  dsimp only
  split
  · exact .movePort n _ s
  all_goals exact .setPort n _ s

theorem linkLoss_frame (n : Fin 8) : TapFrame s (linkLoss n s) := by
  unfold linkLoss
  dsimp only
  split
  · exact .movePort n _ s
  all_goals exact .setPort n _ s

theorem startOfFrame_frame (n : Fin 8) : TapFrame s (startOfFrame n s) := by
  unfold startOfFrame
  dsimp only
  (repeat' split) <;> rfl

theorem endOfFrame_frame (n : Fin 8) (frame : List Byte) : TapFrame s (endOfFrame n frame s) := by
  unfold endOfFrame finishFrame
  dsimp only
  split
  · exact .refl s
  · (repeat' split) <;> first | exact .enterFifo _ _ _ _ _ s | rfl

theorem configurePort_frame (n : Fin 8) (b : List Byte) : TapFrame s (configurePort n b s) := by
  unfold configurePort
  dsimp only
  (repeat' split)
  · rfl
  · rfl
  · exact (TapFrame.setPort n _ s).trans ((TapFrame.makeEvidence _ _).trans (.answer _ _ _))

theorem enablePort_frame (n : Fin 8) : TapFrame s (enablePort n s) := by
  unfold enablePort
  dsimp only
  split
  · rfl
  · exact (TapFrame.setPort n _ s).trans ((TapFrame.reportSettle n _ _).trans ((TapFrame.makeEvidence _ _).trans
      ((TapFrame.makeEvidence _ _).trans (.answerForTick _ _ _))))

theorem disablePort_frame (n : Fin 8) : TapFrame s (disablePort n s) := by
  unfold disablePort
  dsimp only
  split
  · rfl
  · exact (TapFrame.setPort n _ s).trans ((TapFrame.reportSettle n _ _).trans ((TapFrame.makeEvidence _ _).trans
      ((TapFrame.makeEvidence _ _).trans (.answer _ _ _))))

/-- The commands of the tap ports. -/
def isTap : Instr → Bool
  | .linkGain _ | .linkLoss _ | .startOfFrame _ | .endOfFrame _ _ | .configPortConfigure | .configPortEnable | .configPortDisable => true
  | _ => false

theorem effect_tapFrame {c : Instr} (h : isTap c = true) : TapFrame s (effect c s) := by
  cases c <;> dsimp only [effect]
  case linkGain n => exact linkGain_frame s n
  case linkLoss n => exact linkLoss_frame s n
  case startOfFrame n => exact startOfFrame_frame s n
  case endOfFrame n frame => exact endOfFrame_frame s n frame
  case configPortConfigure =>
    exact takeRequest_keeps (.refl s) fun _ => takeConfigPort_keeps (.refl s) (.answer _ _ s) fun n => configurePort_frame s n _
  case configPortEnable =>
    exact takeRequest_keeps (.refl s) fun _ => takeConfigPort_keeps (.refl s) (.answer _ _ s) fun n => enablePort_frame s n
  case configPortDisable =>
    exact takeRequest_keeps (.refl s) fun _ => takeConfigPort_keeps (.refl s) (.answer _ _ s) fun n => disablePort_frame s n
  all_goals exact absurd h Bool.false_ne_true

/-- The requests that act on a group. -/
def isGroupRequest : Instr → Bool
  | .schedule | .amend | .cancel | .decideClose | .decideExtend | .clear | .queryGroup => true
  | _ => false

theorem effect_groupFrame {c : Instr} (h : isGroupRequest c = true) : GroupFrame s (effect c s) := by
  have decide : ∀ code b t, GroupFrame t (if (readDecide b).decision = code then t else takeDecide b t) := by
    intro code b t
    split
    · exact .refl t
    · exact takeDecide_frame b t
  cases c <;> dsimp only [effect]
  case schedule => exact (GroupFrame.refl s).takeRequest _ takeSchedule_frame
  case amend => exact (GroupFrame.refl s).takeRequest _ takeAmend_frame
  case cancel => exact (GroupFrame.refl s).takeRequest _ takeCancel_frame
  case decideClose => exact (GroupFrame.refl s).takeRequest _ (decide 1)
  case decideExtend => exact (GroupFrame.refl s).takeRequest _ (decide 0)
  case clear => exact (GroupFrame.refl s).takeRequest _ takeClear_frame
  case queryGroup => exact (GroupFrame.refl s).takeRequest _ takeQueryGroup_frame
  all_goals exact absurd h Bool.false_ne_true

/-- The commands of the journal writer, the area controller and the request processor that move a segment. -/
def isHost : Instr → Bool
  | .burstStart | .burstComplete _ | .trailerComplete _ _ | .linkReset _ | .linkHot | .linkResetTakesEffect | .handWrite _
  | .handFetchComplete _ | .requestSegmentTake | .slotReadComplete _ | .slotWriteComplete _ | .cut => true
  | _ => false

/-- What those commands may change: the stagings, the evidence unit, the journal writer, the area controller and the request
processor. -/
def HostFrame (s t : State) : Prop := t = { s with stg := t.stg, evu := t.evu, jwr := t.jwr, arc := t.arc, rqp := t.rqp }

theorem HostFrame.of_fields {s t : State} (osc : t.osc = s.osc) (tsu : t.tsu = s.tsu) (ref : t.ref = s.ref) (div : t.div = s.div)
    (taps : t.taps = s.taps) (seq : t.seq = s.seq) (auc : t.auc = s.auc) (pending : t.pending = s.pending) : HostFrame s t :=
  State.eq_of_fields osc tsu ref div taps seq rfl auc rfl rfl rfl rfl pending

theorem takeCut_frame (b : List Byte) : takeCut b s = { s with arc := (takeCut b s).arc, rqp := (takeCut b s).rqp } := by
  unfold takeCut
  (repeat' split)
  · rfl
  · rfl
  · rfl
  · refine State.eq_of_fields ?_ ?_ ?_ ?_ ?_ ?_ ?_ ?_ ?_ ?_ rfl rfl ?_ <;> simp

theorem effect_hostFrame {c : Instr} (h : isHost c = true) : HostFrame s (effect c s) := by
  cases c <;> dsimp only [effect]
  case cut =>
    refine takeRequest_keeps (P := HostFrame s) rfl fun _ => ?_
    rw [takeCut_frame]
    rfl
  case burstStart => apply HostFrame.of_fields <;> simp
  case burstComplete ok => apply HostFrame.of_fields <;> simp
  case trailerComplete st ok => apply HostFrame.of_fields <;> simp
  case linkReset value => apply HostFrame.of_fields <;> simp
  case linkHot => apply HostFrame.of_fields <;> simp
  case linkResetTakesEffect => apply HostFrame.of_fields <;> simp
  case handWrite value => apply HostFrame.of_fields <;> simp
  case handFetchComplete entry => apply HostFrame.of_fields <;> simp
  case requestSegmentTake => apply HostFrame.of_fields <;> simp
  case slotReadComplete slot => apply HostFrame.of_fields <;> simp
  case slotWriteComplete ended => apply HostFrame.of_fields <;> simp
  all_goals exact absurd h Bool.false_ne_true

/-- The commands by what they may change: the quiet ones, those of the tap ports, the group requests, those of the host-facing side,
the deadline rows, and each of the others. -/
theorem command_cases {P : Instr → Prop} (quiet : ∀ c, isQuiet c = true → P c) (tap : ∀ c, isTap c = true → P c)
    (group : ∀ c, isGroupRequest c = true → P c) (host : ∀ c, isHost c = true → P c)
    (deadline : ∀ c tag, effect c = handleTagged tag → P c) (powerOnReset : ∀ straps, P (.powerOnReset straps))
    (pinFall : ∀ straps, P (.pinReset (.fall straps))) (pinRise : P (.pinReset .rise)) (lockWaitEnd : P .lockWaitEnd)
    (lockEvent : P .lockEvent) (lossOfLock : P .lossOfLock) (slewExpiry : P .slewExpiry)
    (readComplete : ∀ window order, P (.readComplete window order)) (lossTimeout : P .lossTimeout)
    (holdoverSecond : P .holdoverSecond) (mergeRelease : P .mergeRelease) (setTime : ∀ order, P (.setTime order))
    (configDiscipline : P .configDiscipline) (configTrace : P .configTrace) (tick : P .tick) (c : Instr) : P c := by
  cases c
  case powerOnReset straps => exact powerOnReset straps
  case pinReset edge =>
    cases edge with
    | fall straps => exact pinFall straps
    | rise => exact pinRise
  case readComplete window order => exact readComplete window order
  case setTime order => exact setTime order
  case startDeadline => exact deadline _ .start rfl
  case endDeadline => exact deadline _ .end_ rfl
  case cutoffDeadline => exact deadline _ .cutoff rfl
  case decideLimit => exact deadline _ .decideLimit rfl
  all_goals first | assumption | exact quiet _ rfl | exact tap _ rfl | exact group _ rfl | exact host _ rfl

/-! ### The queue of waiting commands and XT -/

theorem takeTrace_pending (b : List Byte) : (takeTrace b s).pending = s.pending := by
  unfold takeTrace
  split <;> simp

theorem takeDiscipline_pending (b : List Byte) : (takeDiscipline b s).pending = s.pending := by
  unfold takeDiscipline
  split <;> simp

theorem takeSetTime_pending (order : List Pick) (b : List Byte) : (takeSetTime order b s).pending = s.pending := by
  unfold takeSetTime
  dsimp only
  (repeat' split) <;> simp

/-- No command touches the queue of waiting commands. -/
theorem effect_pending (c : Instr) : (effect c s).pending = s.pending := by
  cases c using command_cases with
  | quiet c h => exact (effect_quiet h s).pending
  | tap c h => rw [effect_tapFrame s h]
  | group c h => rw [effect_groupFrame s h]
  | host c h => rw [effect_hostFrame s h]
  | deadline c tag h => simp [h]
  | powerOnReset straps => rfl
  | pinFall straps => dsimp only [effect, pinFall]; split <;> rfl
  | pinRise => dsimp only [effect, pinRise]; split <;> rfl
  | lockWaitEnd => dsimp only [effect]; rw [endLockWait_frame]
  | lockEvent => dsimp only [effect]; rw [lockEvent_frame]
  | lossOfLock => dsimp only [effect]; rw [lossOfLock_frame]
  | slewExpiry => dsimp only [effect, slewExpiry]; split <;> rfl
  | readComplete window order => dsimp only [effect]; unfold readComplete; split <;> simp
  | lossTimeout => dsimp only [effect, lossTimeout]; split <;> simp
  | setTime order => exact takeRequest_keeps (P := fun t => t.pending = s.pending) rfl fun _ => takeSetTime_pending s order _
  | configDiscipline => exact takeRequest_keeps (P := fun t => t.pending = s.pending) rfl fun _ => takeDiscipline_pending s _
  | configTrace => exact takeRequest_keeps (P := fun t => t.pending = s.pending) rfl fun _ => takeTrace_pending s _
  | tick => rfl
  | _ => simp [effect]

end Sys2Proof.Machine
end

section
/-! SUPPORT. The timescale unit under the commands that move it; and the statements on steps, the two whole resets, XT and the
invariants right after reset. -/

namespace Sys2Proof.Machine

/-! ### The timescale unit under the commands that move it -/

theorem applyMove_tsu (m : Move) (s : State) : (applyMove m s).tsu = m.tsu := by
  unfold applyMove
  split <;> simp

theorem lossAtTsu_tsu (s : State) : (lossAtTsu s).tsu = if s.tsu.state.losesReference then s.tsu.lose else s.tsu := by
  unfold lossAtTsu
  split <;> simp

/-- The reports after a move leave the timescale unit as the move gives it, but for the note that this tick's XT has been read. -/
theorem runOrder_applyMove_tsu (m : Move) (s : State) (step : Option Nat) (old : TsState) (order : List Pick) (rs : List Report) :
    ∃ b, (runOrder step old order rs (applyMove m s)).tsu = { m.tsu with xtRead := b } := by
  obtain ⟨b, hb⟩ := runOrder_tsu (applyMove m s) step old order rs
  exact ⟨b, hb.trans (by rw [applyMove_tsu])⟩

/-- An accepted pulse moves the timescale unit, unless its step cannot be of this tick. -/
theorem acceptPulse_tsu (q : Pulse) (w : Window) (order : List Pick) (s : State) :
    (acceptPulse q w order s).tsu = s.tsu
      ∨ ∃ theta first b, (acceptPulse q w order s).tsu = { (pulseMove s.tsu w.leap theta first).tsu with xtRead := b } := by
  unfold acceptPulse
  dsimp only
  split
  · exact .inl rfl
  · exact .inr ⟨thetaOf s.ref.set q w.label, expectedTime s.ref.set w.label - q.capXt, runOrder_applyMove_tsu _ _ _ _ _ _⟩

/-- A completed read leaves the timescale unit, or moves it by a pulse; the reports note at most that this tick's XT has been read. -/
theorem readComplete_tsu (window : List Byte) (order : List Pick) (s : State) :
    (readComplete window order s).tsu = s.tsu
      ∨ ∃ leap theta first b, (readComplete window order s).tsu = { (pulseMove s.tsu leap theta first).tsu with xtRead := b } := by
  unfold readComplete decidePulse
  split
  · split
    · exact (acceptPulse_tsu _ _ order s).imp_right fun h => ⟨_, h⟩
    · exact .inl (by simp)
  · exact .inl rfl

/-- A SET_TIME leaves the timescale unit, or sets it when it is UNSET. -/
theorem takeSetTime_tsu (order : List Pick) (b : List Byte) (s : State) :
    (takeSetTime order b s).tsu = s.tsu
      ∨ s.tsu.state = .unset ∧ ∃ value r, (takeSetTime order b s).tsu = { (s.tsu.setTime value).tsu with xtRead := r } := by
  unfold takeSetTime acceptSetTime
  dsimp only
  split
  · exact .inl rfl
  · split
    · exact .inl rfl
    · split
      · exact .inl rfl
      · exact .inr ⟨not_not.mp ‹_›, fieldAt b 16 8, runOrder_applyMove_tsu _ _ _ _ _ _⟩

/-- At or above a value, or the free value of a sum beyond 64 bits (log 6). -/
def AtOrAbove (x y : Nat) : Prop := x ≤ y ∨ ∃ n, 2 ^ 64 ≤ n ∧ y = fit64 n

theorem AtOrAbove.fit64_add (x n : Nat) : AtOrAbove x (fit64 (x + n)) := by
  by_cases h : x + n < 2 ^ 64
  · refine .inl ?_
    rw [fit64, if_pos h]
    exact Nat.le_add_right x n
  · exact .inr ⟨x + n, Nat.le_of_not_lt h, rfl⟩

theorem AtOrAbove.of_eq {x y : Nat} (h : y = x) : AtOrAbove x y := .inl h.ge

theorem Tsu.update_xt (t : Tsu) (kp ki : Nat) (theta : Int) : (t.update kp ki theta).xt = t.xt := rfl

theorem Tsu.transition_xt (t : Tsu) (theta : Int) (first : Nat) : AtOrAbove t.xt (t.transition theta first).tsu.xt := by
  unfold transition acquire
  dsimp only
  (repeat' split) <;> first
    | exact .fit64_add _ _
    | exact .of_eq rfl

theorem Tsu.inForce_xt (t : Tsu) : t.inForce.xt = t.xt := by
  unfold inForce
  split <;> rfl

theorem pulseMove_xt (t : Tsu) (leap : Nat) (theta : Int) (first : Nat) :
    AtOrAbove t.xt (pulseMove t leap theta first).tsu.xt := by
  have h := Tsu.transition_xt { t.inForce with leap := leap, theta := theta } theta first
  rwa [show ({ t.inForce with leap := leap, theta := theta } : Tsu).xt = t.xt from t.inForce_xt] at h

theorem Tsu.setTime_xt (t : Tsu) (value : Nat) : AtOrAbove t.xt (t.setTime value).tsu.xt := by
  show AtOrAbove t.xt (fit64 (t.inForce.xt + (value - t.xt)))
  rw [t.inForce_xt]
  exact .fit64_add _ _

/-- No command but a power-on or pin reset lowers XT. -/
theorem effect_xt (s : State) (c : Instr) (powerOn : ∀ straps, c ≠ .powerOnReset straps) (pin : ∀ e, c ≠ .pinReset e) :
    AtOrAbove s.tsu.xt (effect c s).tsu.xt := by
  cases c using command_cases with
  | quiet c h => exact .of_eq (by rw [(effect_quiet h s).tsu])
  | tap c h => exact .of_eq (by rw [effect_tapFrame s h])
  | group c h => exact .of_eq (by rw [effect_groupFrame s h])
  | host c h => exact .of_eq (by rw [effect_hostFrame s h])
  | deadline c tag h => exact .of_eq (by simp [h])
  | powerOnReset straps => exact absurd rfl (powerOn straps)
  | pinFall straps => exact absurd rfl (pin _)
  | pinRise => exact absurd rfl (pin _)
  | lockWaitEnd => exact .of_eq (by dsimp only [effect]; rw [endLockWait_frame])
  | lockEvent => exact .of_eq (by dsimp only [effect]; rw [lockEvent_frame])
  | lossOfLock => exact .of_eq (by dsimp only [effect]; rw [lossOfLock_frame])
  | slewExpiry => exact .of_eq (by dsimp only [effect, slewExpiry]; split <;> rfl)
  | readComplete window order =>
    obtain h | ⟨leap, theta, first, b, h⟩ := readComplete_tsu window order s
    · exact .of_eq (congrArg Tsu.xt h)
    · rw [show (effect (.readComplete window order) s).tsu = _ from h]
      exact pulseMove_xt s.tsu leap theta first
  | lossTimeout =>
    refine .of_eq ?_
    dsimp only [effect, lossTimeout]
    split
    · rw [loseReference_tsu, lossAtTsu_tsu]
      split <;> rfl
    · rfl
  | holdoverSecond =>
    obtain ⟨b, h⟩ := secondIn_tsu s s.tsu.state
    exact .of_eq (by dsimp only [effect]; rw [h])
  | mergeRelease => exact .of_eq (by simp [effect])
  | setTime order =>
    refine takeRequest_keeps (P := fun t => AtOrAbove s.tsu.xt t.tsu.xt) (.of_eq rfl) fun _ => ?_
    obtain h | ⟨_, value, r, h⟩ := takeSetTime_tsu order s.rqp.bytes s
    · exact .of_eq (congrArg Tsu.xt h)
    · rw [h]
      exact s.tsu.setTime_xt value
  | configDiscipline =>
    refine takeRequest_keeps (P := fun t => AtOrAbove s.tsu.xt t.tsu.xt) (.of_eq rfl) fun _ => .of_eq ?_
    unfold takeDiscipline
    split <;> simp
  | configTrace =>
    refine takeRequest_keeps (P := fun t => AtOrAbove s.tsu.xt t.tsu.xt) (.of_eq rfl) fun _ => .of_eq ?_
    unfold takeTrace
    split <;> simp
  | tick => exact .fit64_add _ _

/-! ### The statements -/

/-- Settles O60: XT changes by a tick's carry or by a step forward alone, each formed by `fit64`. -/
theorem xt_never_decreases : Obligations.xt_never_decreases := fun c s _ powerOn pin h =>
  exec_keeps (P := fun t => AtOrAbove s.tsu.xt t.tsu.xt) h (.of_eq rfl) fun _ => effect_xt s c powerOn pin

/-- Settles O1: it is the definition of `step`. -/
theorem step_runs_the_front_command : Obligations.step_runs_the_front_command :=
  ⟨fun _ _ _ => rfl, fun s h => by rw [step, h]⟩

/-- Settles O2: a command that is not taken leaves the state, and no effect touches the queue. -/
theorem every_command_completes_and_keeps_the_queue : Obligations.every_command_completes_and_keeps_the_queue := by
  intro c s
  by_cases h : Takes c s
  · exact ⟨_, exec_of_takes h, effect_pending s c⟩
  · exact ⟨s, exec_of_not_takes h, rfl⟩

theorem ResetPhase.pinLow_iff (p : ResetPhase) :
    p.pinLow = true ↔ (∃ power, p = .held power) ∨ ∃ seen, p = .lockWait true seen := by
  cases p <;> simp [ResetPhase.pinLow]

/-- Settles O3: the three commands are evaluated in each phase; the end of the lock wait leaves reset, or holds the part while RESET_N
is low. -/
theorem power_on_waits_for_lock_and_then_leaves_reset : Obligations.power_on_waits_for_lock_and_then_leaves_reset := by
  constructor
  · intro straps s low h
    obtain rfl : low = s.osc.phase.pinLow := Bool.eq_iff_iff.mpr (h.trans s.osc.phase.pinLow_iff.symm)
    exact ⟨_, rfl, rfl, rfl, rfl, rfl, rfl⟩
  · intro s pinLow pinSeen wait backup c o hc
    have exits : ∀ u : State, u.osc.phase = .lockWait pinLow pinSeen → endLockWait u =
        if pinLow then setPhase (.held true) u else leaveReset true pinSeen u := by
      intro u hu
      rw [endLockWait, hu]
    obtain ⟨rfl, rfl⟩ | ⟨rfl, rfl⟩ := hc
    · refine ⟨endLockWait s, rfl, ?_⟩
      rw [exits s wait]
      cases pinLow
      · exact ⟨backup, by rw [← backup]; rfl, by rw [← backup]; rfl⟩
      · exact ⟨backup, rfl, rfl⟩
    · refine ⟨endLockWait (setOsc .locked s), exec_lockEvent_of_lockWait wait, ?_⟩
      rw [exits (setOsc .locked s) wait]
      cases pinLow <;> exact ⟨rfl, rfl, rfl⟩

/-- Settles O4: the pin's edges in each phase. -/
theorem pin_reset_holds_and_releases : Obligations.pin_reset_holds_and_releases := by
  intro straps s
  refine ⟨fun run => ?_, fun power held => ?_, fun low seen wait => ⟨?_, ?_⟩⟩
  · exact ⟨_, congrArg Host.Outcome.next (pinFall_running run straps), rfl, rfl⟩
  · exact ⟨_, congrArg Host.Outcome.next (pinRise_held held), rfl, rfl⟩
  · have fall : pinFall straps s = setPhase (.lockWait true true) (latchStraps straps s) := by rw [pinFall, wait]
    exact ⟨_, congrArg Host.Outcome.next fall, rfl, rfl, rfl⟩
  · have rise : pinRise s = setPhase (.lockWait false seen) s := by rw [pinRise, wait]
    exact ⟨_, congrArg Host.Outcome.next rise, rfl, rfl⟩

/-- Settles O7: the part leaves reset from the reset tables of these blocks. -/
theorem other_blocks_after_reset : Obligations.other_blocks_after_reset := by
  intro straps s t h
  obtain ⟨osc, power, pin, rfl⟩ := h.eq_leaveReset
  refine ⟨?ref, ?taps, ?seq, rfl, ?auc, ?arc, rfl, rfl, rfl, rfl, rfl⟩
  case ref => exact ⟨rfl, rfl, rfl, rfl, rfl, rfl, rfl, rfl, rfl, rfl⟩
  case taps =>
    intro n
    simp [port, leaveReset, clearBlocks, Port.cleared, PortConfig.default]
  case seq =>
    refine ⟨rfl, rfl, fun n => ?_, fun g => ?_, rfl, rfl⟩ <;> simp [leaveReset, clearBlocks, Seq.cleared]
  case auc =>
    refine ⟨rfl, rfl, rfl, fun g => ?_⟩
    simp [group, leaveReset, clearBlocks, Auc.cleared, Group.cleared]
  case arc =>
    refine ⟨rfl, rfl, rfl, rfl, rfl, fun i => ?_, rfl, rfl, rfl, rfl, rfl, rfl, rfl, rfl, rfl, rfl, rfl, rfl, rfl⟩
    simp [leaveReset, clearBlocks, Arc.cleared]

/-! ### The invariants right after reset -/

theorem DiscSet.default_legal : DiscSet.default.legal := by
  refine ⟨?_, ?_, ?_, ?_, ?_, ?_, ?_, ?_, ?_, ?_, ?_, ?_, ?_, ?_, ?_⟩ <;> decide

theorem Tsu.cleared_inc : Tsu.cleared.inc = incOf (Tsu.cleared.f + Tsu.cleared.p) := by decide

theorem Group.cleared_legal : Group.cleared.legal := by simp [Group.legal, Group.cleared]

theorem PerStream.get_const {α : Type} (x : α) (st : Stream) : (PerStream.const x).get st = x := by cases st <;> rfl

theorem settleOf_none : settleOf (Vector.replicate 8 none) = 1250 := by decide

theorem port_reset (n : Fin 8) : port State.reset n = Port.cleared false := by simp [port, State.reset]

theorem group_reset (g : Fin 64) : group State.reset g = Group.cleared := by simp [group, State.reset, Auc.cleared]

theorem queuesHeld_reset : QueuesHeld State.reset := by
  refine ⟨by decide, fun st => ?_, by decide, by decide, fun _ => rfl⟩
  rw [show State.reset.arc.lent = PerStream.const [] from rfl, PerStream.get_const]
  exact Nat.zero_le _

theorem rateHeld_reset : RateHeld State.reset := by
  refine ⟨Tsu.cleared_inc, by decide, by decide, by decide, by decide, by decide, by decide, DiscSet.default_legal, ?_, ?_, ?_,
    by decide, fun _ => rfl⟩ <;> simp [State.reset, Tsu.cleared]

theorem auctionsHeld_reset : AuctionsHeld State.reset := by
  refine ⟨fun g => (group_reset g).symm ▸ Group.cleared_legal, List.Pairwise.nil, ?_, fun g i t h => ?_⟩
  · simp [State.reset, Auc.cleared]
  · rw [group_reset] at h
    exact nomatch h

theorem settleHeld_reset : SettleHeld State.reset := by
  refine ⟨settleOf_none.symm, by decide, by decide, fun n => ?_⟩
  rw [port_reset]
  simp [Port.cleared, PortConfig.default, State.reset, Seq.cleared]

theorem segmentsHeld_reset : SegmentsHeld State.reset := by
  have lent : State.reset.arc.lent = PerStream.const [] := rfl
  have openSeg : State.reset.arc.openSeg = PerStream.const none := rfl
  have closing : State.reset.arc.closing = PerStream.const [] := rfl
  simp only [SegmentsHeld, lent, openSeg, closing, PerStream.get_const]
  simp [State.reset, Jwr.cleared, Arc.cleared, Rqp.cleared]

/-- Settles O55: the invariants are read off the reset tables. -/
theorem invariants_hold_after_reset : Obligations.invariants_hold_after_reset := by
  refine ⟨fun h => absurd rfl h, ⟨rfl, by decide, by decide⟩, ⟨by decide, by decide⟩, ⟨by decide, fun _ => by decide, by decide⟩,
    fun n => ?fifos, queuesHeld_reset, rateHeld_reset, auctionsHeld_reset, settleHeld_reset, segmentsHeld_reset⟩
  rw [port_reset]
  simp [Port.cleared, fifoPlaces]

end Sys2Proof.Machine
end

section
/-! SUPPORT. The deadline list and the auction table: what an insertion, a replaced entry, a deadline and a group request do to them;
and the statement that every step keeps the table legal and the list exact and in order (R95, R96). -/

namespace Sys2Proof.Machine

/-! ### The order of the deadline list (R96) -/

theorem Deadline.before_iff (a b : Deadline) :
    a.before b = true ↔ a.instant < b.instant ∨ a.instant = b.instant ∧ a.group < b.group := by
  simp [Deadline.before]

theorem Deadline.before_trans {a b c : Deadline} (h : a.before b = true) (k : b.before c = true) : a.before c = true := by
  rw [Deadline.before_iff] at *
  omega

theorem Deadline.before_of_not {a b : Deadline} (h : ¬a.before b = true) (groups : b.group ≠ a.group) : b.before a = true := by
  rw [Deadline.before_iff] at *
  omega

theorem mem_insertDeadline {x d : Deadline} {l : List Deadline} : x ∈ insertDeadline d l ↔ x = d ∨ x ∈ l := by
  induction l with
  | nil => simp [insertDeadline]
  | cons e l ih =>
    unfold insertDeadline
    split
    · simp
    · simp [ih]
      tauto

theorem insertDeadline_pairwise {d : Deadline} {l : List Deadline} (sorted : l.Pairwise fun a b => a.before b = true)
    (fresh : ∀ e ∈ l, e.group ≠ d.group) : (insertDeadline d l).Pairwise fun a b => a.before b = true := by
  induction l with
  | nil => exact List.pairwise_singleton _ d
  | cons e l ih =>
    obtain ⟨first, rest⟩ := List.pairwise_cons.mp sorted
    unfold insertDeadline
    split
    · refine List.pairwise_cons.mpr ⟨fun x hx => ?_, sorted⟩
      obtain rfl | hx := List.mem_cons.mp hx
      · assumption
      · exact Deadline.before_trans ‹_› (first x hx)
    · refine List.pairwise_cons.mpr ⟨fun x hx => ?_, ih rest fun x hx => fresh x (List.mem_cons_of_mem e hx)⟩
      obtain rfl | hx := mem_insertDeadline.mp hx
      · exact Deadline.before_of_not ‹_› (fresh e List.mem_cons_self)
      · exact first x hx

theorem mem_dropDeadline {x : Deadline} {g : Fin 64} {l : List Deadline} : x ∈ dropDeadline g l ↔ x ∈ l ∧ x.group ≠ g := by
  simp [dropDeadline]

/-! ### The deadline a state calls for (R95) -/

theorem Group.deadline_start {v : Group} {i : Nat} : v.deadline = some (i, .start) ↔ v.state = .scheduled ∧ v.start = i := by
  unfold Group.deadline
  split <;> simp_all

theorem Group.deadline_end {v : Group} {i : Nat} : v.deadline = some (i, .end_) ↔ v.state = .call ∧ v.tEnd = i := by
  unfold Group.deadline
  split <;> simp_all

theorem Group.deadline_cutoff {v : Group} {i : Nat} : v.deadline = some (i, .cutoff) ↔ v.state = .window ∧ v.cutoff = some i := by
  unfold Group.deadline
  split <;> simp_all

theorem Group.deadline_limit {v : Group} {i : Nat} : v.deadline = some (i, .decideLimit) ↔ v.state = .decide ∧ v.limit = some i := by
  unfold Group.deadline
  split <;> simp_all

/-! ### Legal entries (R95) -/

/-- The ranges of an entry that no state changes. -/
structure Group.Ranged (v : Group) : Prop where
  cycle : v.cycle < 65536
  w : v.w ≤ 300000000
  dfltW : v.dfltW ≤ 300000000
  ext : v.ext ≤ 7

theorem Group.legal.ranged {v : Group} (h : v.legal) : v.Ranged := by
  obtain ⟨cycle, w, dfltW, ext, -⟩ := h
  exact ⟨cycle, w, dfltW, ext⟩

theorem Group.legal.draw {v : Group} (h : v.legal) {r : Nat} (hr : v.r = some r) : r ≤ v.w := by
  obtain ⟨-, -, -, -, draw, -⟩ := h
  exact draw r hr

/-- In IDLE, SCHEDULED and CALL the optional fields are absent. -/
theorem Group.legal.absent {v : Group} (h : v.legal) (state : v.state = .idle ∨ v.state = .scheduled ∨ v.state = .call) :
    v.r = none ∧ v.cutoff = none ∧ v.limit = none := by
  obtain ⟨-, -, -, -, -, shown⟩ := h
  obtain h | h | h := state <;> simpa [h] using shown

theorem Group.legal.window {v : Group} (h : v.legal) (state : v.state = .window) :
    v.r.isSome ∧ v.cutoff.isSome ∧ v.limit = none := by
  obtain ⟨-, -, -, -, -, shown⟩ := h
  simpa [state] using shown

theorem Group.legal.decided {v : Group} (h : v.legal) (state : v.state = .decide ∨ v.state = .closed) :
    v.r.isSome ∧ v.cutoff.isSome ∧ v.limit.isSome := by
  obtain ⟨-, -, -, -, -, shown⟩ := h
  obtain h | h := state <;> simpa [h] using shown

theorem Group.Ranged.legal_absent {v : Group} (h : v.Ranged) (state : v.state = .idle ∨ v.state = .scheduled ∨ v.state = .call)
    (r : v.r = none) (cutoff : v.cutoff = none) (limit : v.limit = none) : v.legal := by
  refine ⟨h.cycle, h.w, h.dfltW, h.ext, by simp [r], ?_⟩
  obtain h | h | h := state <;> simp [h, r, cutoff, limit]

/-! ### An entry replaced (R96) -/

variable {s : State}

/-- The invariant speaks of the table and the list alone. -/
theorem AuctionsHeld.congr {t : State} (h : AuctionsHeld s) (groups : t.auc.groups = s.auc.groups)
    (deadlines : t.auc.deadlines = s.auc.deadlines) : AuctionsHeld t := by
  simpa only [AuctionsHeld, group, groups, deadlines] using h

theorem AuctionsHeld.of_auc {t : State} (h : AuctionsHeld s) (auc : t.auc = s.auc) : AuctionsHeld t := h.congr (by rw [auc]) (by rw [auc])

theorem setGroup_same (g : Fin 64) (v : Group) (d : Option (Nat × Tag)) (s : State) : group (setGroup g v d s) g = v := by
  simp [group, setGroup]

theorem setGroup_other {g k : Fin 64} (h : k ≠ g) (v : Group) (d : Option (Nat × Tag)) (s : State) :
    group (setGroup g v d s) k = group s k := by
  simp only [group, setGroup]
  exact Vector.getElem_set_ne _ _ fun e => h (Fin.ext e.symm)

theorem mem_setGroup {g : Fin 64} {v : Group} {d : Option (Nat × Tag)} {s : State} {x : Deadline} :
    x ∈ (setGroup g v d s).auc.deadlines ↔ (x.group = g ∧ d = some (x.instant, x.tag)) ∨ (x ∈ s.auc.deadlines ∧ x.group ≠ g) := by
  obtain ⟨instant, k, tag⟩ := x
  cases d with
  | none => simp [setGroup, mem_dropDeadline]
  | some p => simp [setGroup, mem_insertDeadline, mem_dropDeadline, Prod.ext_iff]; grind

/-- A legal entry goes in with the deadline its state calls for. -/
theorem AuctionsHeld.setGroup (h : AuctionsHeld s) {g : Fin 64} {v : Group} {d : Option (Nat × Tag)} (legal : v.legal)
    (deadline : v.deadline = d) : AuctionsHeld (setGroup g v d s) := by
  obtain ⟨table, sorted, sound, complete⟩ := h
  have dropped : (dropDeadline g s.auc.deadlines).Pairwise fun a b => a.before b = true := sorted.filter _
  refine ⟨fun k => ?_, ?_, fun x hx => ?_, fun k i t hk => ?_⟩
  · by_cases hg : k = g
    · rwa [hg, setGroup_same]
    · rw [setGroup_other hg]
      exact table k
  · cases d with
    | none => exact dropped
    | some p => exact insertDeadline_pairwise dropped fun e he => (mem_dropDeadline.mp he).2
  · obtain ⟨hg, hd⟩ | ⟨hx, hg⟩ := mem_setGroup.mp hx
    · rw [hg, setGroup_same, deadline, hd]
    · rw [setGroup_other hg]
      exact sound x hx
  · rw [mem_setGroup]
    by_cases hg : k = g
    · rw [hg, setGroup_same, deadline] at hk
      exact .inl ⟨hg, hk⟩
    · rw [setGroup_other hg] at hk
      exact .inr ⟨complete k i t hk, hg⟩

theorem AuctionsHeld.pushNotice (h : AuctionsHeld s) (n : Notice) (x : Nat) : AuctionsHeld (pushNotice n x s) := h.congr rfl rfl

theorem AuctionsHeld.makeEvidence (h : AuctionsHeld s) (b : EvBody) : AuctionsHeld (makeEvidence b s) := h.of_auc (by simp)

theorem AuctionsHeld.raise (h : AuctionsHeld s) (c : Cause) : AuctionsHeld (raise c s) := h.of_auc rfl

theorem AuctionsHeld.pruneSpans (h : AuctionsHeld s) : AuctionsHeld (pruneSpans s) := by
  unfold Machine.pruneSpans
  split
  · exact h
  · exact h.congr rfl rfl

/-! ### A deadline handled -/

theorem drawOffset_le (w : Nat) (s : State) : (drawOffset w s).1 ≤ w := by
  unfold drawOffset
  split
  · exact Nat.zero_le w
  · exact Nat.lt_succ_iff.mp (Nat.mod_lt _ w.succ_pos)

theorem AuctionsHeld.drawOffset (h : AuctionsHeld s) (w : Nat) : AuctionsHeld (drawOffset w s).2 := by
  unfold Machine.drawOffset
  split
  · exact h
  · exact h.congr rfl rfl

theorem AuctionsHeld.enterDecide (h : AuctionsHeld s) {v : Group} {r : Nat} (ranged : v.Ranged) (draw : r ≤ v.w) (g : Fin 64)
    (cutoff : Nat) (flags : NoticeFlags) : AuctionsHeld (enterDecide g v r cutoff flags s) := by
  refine AuctionsHeld.raise (AuctionsHeld.makeEvidence (AuctionsHeld.pushNotice (h.setGroup ?_ rfl) _ _) _) _
  exact ⟨ranged.cycle, ranged.w, ranged.dfltW, ranged.ext, by simpa using draw, by simp⟩

/-- What the list says of the group of a deadline it holds. -/
theorem AuctionsHeld.deadline (h : AuctionsHeld s) {d : Deadline} (mem : d ∈ s.auc.deadlines) :
    (group s d.group).legal ∧ (group s d.group).deadline = some (d.instant, d.tag) := by
  obtain ⟨table, -, sound, -⟩ := h
  exact ⟨table _, sound d mem⟩

theorem AuctionsHeld.handleStart (h : AuctionsHeld s) {d : Deadline} (mem : d ∈ s.auc.deadlines) (tag : d.tag = .start) :
    AuctionsHeld (handleStart d s) := by
  obtain ⟨legal, due⟩ := h.deadline mem
  obtain ⟨state, -⟩ := Group.deadline_start.mp (tag ▸ due)
  obtain ⟨r, cutoff, limit⟩ := legal.absent (.inr (.inl state))
  refine AuctionsHeld.pushNotice (h.setGroup ?_ rfl) _ _
  exact Group.Ranged.legal_absent ⟨legal.ranged.cycle, legal.ranged.w, legal.ranged.dfltW, legal.ranged.ext⟩ (.inr (.inr rfl))
    r cutoff limit

theorem AuctionsHeld.handleEnd (h : AuctionsHeld s) {d : Deadline} (mem : d ∈ s.auc.deadlines) (tag : d.tag = .end_) :
    AuctionsHeld (handleEnd d s) := by
  obtain ⟨legal, due⟩ := h.deadline mem
  obtain ⟨state, -⟩ := Group.deadline_end.mp (tag ▸ due)
  obtain ⟨-, -, limit⟩ := legal.absent (.inr (.inr state))
  unfold Machine.handleEnd
  dsimp only
  split
  · exact h.enterDecide legal.ranged (Nat.zero_le _) _ _ _
  · split
    · exact (h.drawOffset _).enterDecide legal.ranged (Nat.zero_le _) _ _ _
    · refine AuctionsHeld.pushNotice ((h.drawOffset _).setGroup ?_ rfl) _ _
      exact ⟨legal.ranged.cycle, legal.ranged.w, legal.ranged.dfltW, legal.ranged.ext, by simpa using drawOffset_le _ s,
        rfl, rfl, limit⟩

theorem AuctionsHeld.handleCutoff (h : AuctionsHeld s) {d : Deadline} (mem : d ∈ s.auc.deadlines) (tag : d.tag = .cutoff) :
    AuctionsHeld (handleCutoff d s) := by
  obtain ⟨legal, due⟩ := h.deadline mem
  obtain ⟨state, -⟩ := Group.deadline_cutoff.mp (tag ▸ due)
  obtain ⟨r, hr⟩ := Option.isSome_iff_exists.mp (legal.window state).1
  refine h.enterDecide legal.ranged ?_ _ _ _
  rw [hr]
  exact legal.draw hr

theorem AuctionsHeld.handleLimit (h : AuctionsHeld s) {d : Deadline} (mem : d ∈ s.auc.deadlines) (tag : d.tag = .decideLimit) :
    AuctionsHeld (handleLimit d s) := by
  obtain ⟨legal, due⟩ := h.deadline mem
  obtain ⟨state, -⟩ := Group.deadline_limit.mp (tag ▸ due)
  unfold Machine.handleLimit
  dsimp only
  split
  · refine AuctionsHeld.pushNotice (h.setGroup ?_ rfl) _ _
    exact Group.Ranged.legal_absent ⟨legal.ranged.cycle, legal.ranged.dfltW, legal.ranged.dfltW, (‹_ ∧ _›.2 : _ < 7)⟩
      (.inr (.inr rfl)) rfl rfl rfl
  · refine AuctionsHeld.pushNotice (h.setGroup ?_ rfl) _ _
    exact ⟨legal.ranged.cycle, legal.ranged.w, legal.ranged.dfltW, legal.ranged.ext, fun _ hr => legal.draw hr,
      legal.decided (.inl state)⟩

theorem AuctionsHeld.handleDeadline (h : AuctionsHeld s) {d : Deadline} (mem : d ∈ s.auc.deadlines) :
    AuctionsHeld (handleDeadline d s) := by
  unfold Machine.handleDeadline
  split
  · exact h.handleStart mem ‹_›
  · exact h.handleEnd mem ‹_›
  · exact h.handleCutoff mem ‹_›
  · exact h.handleLimit mem ‹_›

/-- A ready deadline is of the list. -/
theorem ready_mem {d : Deadline} (h : ready s = some d) : d ∈ s.auc.deadlines := by
  unfold ready at h
  split at h
  · exact List.mem_of_head? (Option.eq_some_of_filter_eq_some h)
  · exact nomatch h

theorem AuctionsHeld.handleReady (h : AuctionsHeld s) : AuctionsHeld (handleReady s) := by
  unfold Machine.handleReady
  split
  · exact (h.handleDeadline (ready_mem ‹_›)).pruneSpans
  · exact h

theorem AuctionsHeld.handleTagged (h : AuctionsHeld s) (tag : Tag) : AuctionsHeld (handleTagged tag s) := by
  unfold Machine.handleTagged
  split
  · split
    · exact (h.handleDeadline (ready_mem ‹_›)).pruneSpans
    · exact h
  · exact h

/-! ### Group requests -/

theorem AuctionsHeld.answer (h : AuctionsHeld s) (o : ReqOutcome) (fs : List Field) : AuctionsHeld (answer o fs s) := h.of_auc rfl

theorem AuctionsHeld.answerNow (h : AuctionsHeld s) (o : ReqOutcome) (fs : List Field) : AuctionsHeld (answerNow o fs s) :=
  h.of_auc rfl

theorem AuctionsHeld.amendTo (h : AuctionsHeld s) {g : Fin 64} {v : Group} {i : Nat} {t : Tag} (legal : v.legal)
    (deadline : v.deadline = some (i, t)) : AuctionsHeld (amendTo g v i t s) := (h.setGroup legal deadline).of_auc rfl

theorem AuctionsHeld.openCall (h : AuctionsHeld s) {v : Group} (ranged : v.Ranged) (r : v.r = none) (cutoff : v.cutoff = none)
    (limit : v.limit = none) (g : Fin 64) : AuctionsHeld (openCall g v s) := by
  refine AuctionsHeld.pushNotice (h.setGroup ?_ rfl) _ _
  exact Group.Ranged.legal_absent ⟨ranged.cycle, ranged.w, ranged.dfltW, ranged.ext⟩ (.inr (.inr rfl)) r cutoff limit

theorem clampW_le (w : Nat) : clampW w ≤ 300000000 := min_le_left _ _

theorem scheduledEntry_ranged (v : Group) (p : ScheduleParams) (dflt : Decision) (strict : Bool) :
    (scheduledEntry v p dflt strict).1.Ranged :=
  ⟨Nat.mod_lt _ (by decide), clampW_le _, clampW_le _, Nat.zero_le _⟩

theorem AuctionsHeld.acceptSchedule (h : AuctionsHeld s) (g : Fin 64) (p : ScheduleParams) (dflt : Decision) (strict : Bool) :
    AuctionsHeld (acceptSchedule g p dflt strict s) := by
  have ranged := scheduledEntry_ranged (group s g) p dflt strict
  unfold Machine.acceptSchedule
  dsimp only
  split
  · refine AuctionsHeld.answerNow (h.setGroup ?_ rfl) _ _
    exact Group.Ranged.legal_absent ⟨ranged.cycle, ranged.w, ranged.dfltW, ranged.ext⟩ (.inr (.inl rfl)) rfl rfl rfl
  · exact whenRoom_keeps h fun _ => (h.openCall ranged rfl rfl rfl g).answerNow _ _

theorem AuctionsHeld.takeSchedule (h : AuctionsHeld s) (b : List Byte) : AuctionsHeld (takeSchedule b s) := by
  unfold Machine.takeSchedule refuseGroup
  dsimp only
  (repeat' split) <;> first | exact h.answer _ _ | exact h.acceptSchedule _ _ _ _

theorem AuctionsHeld.acceptAmend (h : AuctionsHeld s) {g : Fin 64} (tEnd : Nat) (start : Option Nat)
    (state : (group s g).state = .scheduled ∨ (group s g).state = .call) : AuctionsHeld (acceptAmend g tEnd start s) := by
  have legal : (group s g).legal := h.1 g
  have ranged := legal.ranged
  obtain ⟨r, cutoff, limit⟩ := legal.absent (.inr state)
  have amended : ∀ v : Group, v.Ranged → v.state = (group s g).state → v.r = (group s g).r → v.cutoff = (group s g).cutoff →
      v.limit = (group s g).limit → v.legal := fun v hv hs hr hc hl =>
    hv.legal_absent (.inr (hs ▸ state)) (hr.trans r) (hc.trans cutoff) (hl.trans limit)
  unfold Machine.acceptAmend
  dsimp only
  split
  · refine h.amendTo (amended _ ⟨ranged.cycle, ranged.w, ranged.dfltW, ranged.ext⟩ rfl rfl rfl rfl) ?_
    exact Group.deadline_end.mpr ⟨‹_›, rfl⟩
  · have scheduled := state.resolve_right ‹_›
    split
    · refine h.amendTo (amended _ ⟨ranged.cycle, ranged.w, ranged.dfltW, ranged.ext⟩ rfl rfl rfl rfl) ?_
      exact Group.deadline_start.mpr ⟨scheduled, rfl⟩
    · split
      · refine h.amendTo (amended _ ⟨ranged.cycle, ranged.w, ranged.dfltW, ranged.ext⟩ rfl rfl rfl rfl) ?_
        exact Group.deadline_start.mpr ⟨scheduled, rfl⟩
      · refine whenRoom_keeps h fun _ => AuctionsHeld.answerNow ?_ _ _
        exact h.openCall (v := { group s g with tEnd := tEnd }) ⟨ranged.cycle, ranged.w, ranged.dfltW, ranged.ext⟩ r cutoff limit g

theorem AuctionsHeld.takeAmend (h : AuctionsHeld s) (b : List Byte) : AuctionsHeld (takeAmend b s) := by
  unfold Machine.takeAmend refuseGroup
  dsimp only
  split
  · split
    · exact h.answer _ _
    · rename_i given _
      generalize (if given = true then some (readAmend b).start else none) = start
      split
      · exact h.answer _ _
      · split
        · exact h.answer _ _
        · have state := or_iff_not_and_not.mpr ‹¬(_ ∧ _)›
          split
          · exact h.answer _ _
          · split
            · exact h.answer _ _
            · split
              · exact h.answer _ _
              · exact h.acceptAmend _ _ state
  · exact h.answer _ _

theorem Group.Ranged.idled {v : Group} (h : v.Ranged) : v.idled.legal :=
  Group.Ranged.legal_absent ⟨h.cycle, h.w, h.dfltW, h.ext⟩ (.inl rfl) rfl rfl rfl

theorem AuctionsHeld.idle (h : AuctionsHeld s) (g : Fin 64) (n : Notice) (x : Nat) :
    AuctionsHeld (Machine.pushNotice n x (Machine.setGroup g (group s g).idled none s)) :=
  AuctionsHeld.pushNotice (h.setGroup (h.1 g).ranged.idled rfl) n x

theorem AuctionsHeld.takeCancel (h : AuctionsHeld s) (b : List Byte) : AuctionsHeld (takeCancel b s) := by
  have accepted : ∀ g, AuctionsHeld (acceptCancel g s) := by
    intro g
    unfold acceptCancel
    dsimp only
    refine AuctionsHeld.answerNow ?_ _ _
    split
    · exact (h.idle g _ _).makeEvidence _
    · exact h.idle g _ _
  unfold Machine.takeCancel refuseGroup
  dsimp only
  (repeat' split) <;> first | exact h.answer _ _ | exact whenRoom_keeps h fun _ => accepted _

theorem AuctionsHeld.acceptClose (h : AuctionsHeld s) {g : Fin 64} (state : (group s g).state = .decide) :
    AuctionsHeld (acceptClose g s) := by
  have legal : (group s g).legal := h.1 g
  refine AuctionsHeld.answerNow (AuctionsHeld.pushNotice (h.setGroup ?_ rfl) _ _) _ _
  exact ⟨legal.ranged.cycle, legal.ranged.w, legal.ranged.dfltW, legal.ranged.ext, fun _ hr => legal.draw hr,
    legal.decided (.inl state)⟩

theorem AuctionsHeld.acceptExtend (h : AuctionsHeld s) {g : Fin 64} (room : (group s g).ext < 7) (e w : Nat) :
    AuctionsHeld (acceptExtend g e w s) := by
  have ranged := Group.legal.ranged (h.1 g)
  refine AuctionsHeld.answerNow (AuctionsHeld.pushNotice (h.setGroup ?_ rfl) _ _) _ _
  exact Group.Ranged.legal_absent ⟨ranged.cycle, clampW_le w, ranged.dfltW, room⟩ (.inr (.inr rfl)) rfl rfl rfl

theorem AuctionsHeld.takeDecide (h : AuctionsHeld s) (b : List Byte) : AuctionsHeld (takeDecide b s) := by
  unfold Machine.takeDecide refuseGroup
  dsimp only
  split
  · split
    · exact h.answer _ _
    · split
      · exact h.answer _ _
      · have state := not_not.mp ‹_›
        split
        · exact h.answer _ _
        · split
          · exact whenRoom_keeps h fun _ => h.acceptClose state
          · split
            · exact h.answerNow _ _
            · exact whenRoom_keeps h fun _ => h.acceptExtend (Nat.lt_of_not_le ‹_›) _ _
  · exact h.answer _ _

theorem AuctionsHeld.takeClear (h : AuctionsHeld s) (b : List Byte) : AuctionsHeld (takeClear b s) := by
  unfold Machine.takeClear refuseGroup acceptClear
  dsimp only
  (repeat' split) <;> first
    | exact h.answer _ _
    | exact whenRoom_keeps h fun _ => (h.idle _ _ _).answerNow _ _

theorem AuctionsHeld.takeQueryGroup (h : AuctionsHeld s) (b : List Byte) : AuctionsHeld (takeQueryGroup b s) := by
  unfold Machine.takeQueryGroup
  split
  · exact h.answerNow _ _
  · exact h.answer _ _

theorem AuctionsHeld.takeGroupRequest (h : AuctionsHeld s) : AuctionsHeld (takeGroupRequest s) := by
  have request : ∀ {kind : Nat} {f : List Byte → State → State}, (∀ b t, AuctionsHeld t → AuctionsHeld (f b t)) →
      ∀ t, AuctionsHeld t → AuctionsHeld (takeRequest kind f t) := fun hf t ht => takeRequest_keeps ht fun _ => hf _ t ht
  refine request (fun b t k => k.takeQueryGroup b) _ (request (fun b t k => k.takeClear b) _ (request (fun b t k => k.takeDecide b) _
    (request (fun b t k => k.takeCancel b) _ (request (fun b t k => k.takeAmend b) _ (request (fun b t k => k.takeSchedule b) _ h)))))

theorem AuctionsHeld.runOrder (h : AuctionsHeld s) (step : Option Nat) (old : TsState) (ps : List Pick) (rs : List Report) :
    AuctionsHeld (runOrder step old ps rs s) :=
  runOrder_keeps (fun _ _ h => h.of_auc (by simp)) (fun _ h => h.handleReady) (fun _ h => h.of_auc (by simp))
    (fun _ _ h => h.of_auc (by simp)) (fun _ h => h.takeGroupRequest) step old ps rs h

theorem AuctionsHeld.applyMove (h : AuctionsHeld s) (m : Move) : AuctionsHeld (applyMove m s) := by
  unfold Machine.applyMove
  split
  · exact h.of_auc rfl
  · exact AuctionsHeld.pruneSpans (h.congr rfl rfl)

theorem AuctionsHeld.acceptPulse (h : AuctionsHeld s) (q : Pulse) (w : Window) (order : List Pick) :
    AuctionsHeld (acceptPulse q w order s) := by
  unfold Machine.acceptPulse
  dsimp only
  split
  · exact h
  · refine AuctionsHeld.runOrder (AuctionsHeld.applyMove ?_ _) _ _ _ _
    exact h.of_auc rfl

theorem AuctionsHeld.readComplete (h : AuctionsHeld s) (window : List Byte) (order : List Pick) :
    AuctionsHeld (readComplete window order s) := by
  unfold Machine.readComplete decidePulse
  split
  · split
    · exact h.acceptPulse _ _ order
    · exact h.of_auc (by simp)
  · exact h

theorem AuctionsHeld.clearBlocks (straps : Straps) (s : State) (osc : Osc) :
    AuctionsHeld { clearBlocks straps s with osc := osc } := by
  refine ⟨fun g => ?_, List.Pairwise.nil, fun _ hd => absurd hd List.not_mem_nil, fun g i t hd => ?_⟩
  · simpa [group, Machine.clearBlocks, Auc.cleared] using Group.cleared_legal
  · simp [group, Machine.clearBlocks, Auc.cleared, Group.deadline, Group.cleared] at hd

theorem release_auctions (s : State) :
    (release s).auc.groups = s.auc.groups ∧ (release s).auc.deadlines = s.auc.deadlines := by
  have head : ∀ src t, (takeHead src t).auc.groups = t.auc.groups ∧ (takeHead src t).auc.deadlines = t.auc.deadlines := by
    intro src t
    unfold takeHead
    dsimp only
    (repeat' split) <;> simp
  unfold release
  (repeat' split) <;> simp [head]

theorem AuctionsHeld.effect (h : AuctionsHeld s) (c : Instr) : AuctionsHeld (effect c s) := by
  cases c using command_cases with
  | quiet c k => exact h.of_auc (effect_quiet k s).auc
  | tap c k => exact h.of_auc (by rw [effect_tapFrame s k])
  | group c k =>
    cases c <;> dsimp only [Machine.effect]
    case schedule => exact takeRequest_keeps h fun _ => h.takeSchedule _
    case amend => exact takeRequest_keeps h fun _ => h.takeAmend _
    case cancel => exact takeRequest_keeps h fun _ => h.takeCancel _
    case decideClose => exact takeRequest_keeps h fun _ => by split; exacts [h, h.takeDecide _]
    case decideExtend => exact takeRequest_keeps h fun _ => by split; exacts [h, h.takeDecide _]
    case clear => exact takeRequest_keeps h fun _ => h.takeClear _
    case queryGroup => exact takeRequest_keeps h fun _ => h.takeQueryGroup _
    all_goals exact absurd k Bool.false_ne_true
  | host c k => exact h.of_auc (by rw [effect_hostFrame s k])
  | deadline c tag k => exact k ▸ h.handleTagged tag
  | powerOnReset straps => exact .clearBlocks straps s _
  | pinFall straps =>
    dsimp only [Machine.effect, pinFall]
    split
    · exact .clearBlocks straps s _
    · exact h.of_auc rfl
    · exact h
  | pinRise => exact h.of_auc (by dsimp only [Machine.effect, pinRise]; split <;> rfl)
  | lockWaitEnd => exact h.of_auc (by dsimp only [Machine.effect]; rw [endLockWait_frame])
  | lockEvent => exact h.of_auc (by dsimp only [Machine.effect]; rw [lockEvent_frame])
  | lossOfLock => exact h.of_auc (by dsimp only [Machine.effect]; rw [lossOfLock_frame])
  | slewExpiry => exact h.of_auc (by dsimp only [Machine.effect, slewExpiry]; split <;> rfl)
  | readComplete window order => exact h.readComplete window order
  | lossTimeout => exact h.of_auc (by dsimp only [Machine.effect, lossTimeout]; split <;> simp)
  | holdoverSecond => exact h.of_auc (by simp [Machine.effect])
  | mergeRelease => exact h.congr (release_auctions s).1 (release_auctions s).2
  | setTime order =>
    refine takeRequest_keeps h fun _ => ?_
    unfold takeSetTime acceptSetTime
    dsimp only
    (repeat' split) <;> first
      | exact h
      | exact h.answer _ _
      | exact (AuctionsHeld.runOrder (h.applyMove _) _ _ _ _).answer _ _
  | configDiscipline => exact takeRequest_keeps h fun _ => h.of_auc (by unfold takeDiscipline; split <;> simp)
  | configTrace => exact takeRequest_keeps h fun _ => h.of_auc (by unfold takeTrace; split <;> simp)
  | tick => exact h.of_auc rfl

/-- Settles O59: the table and the list change by `setGroup` alone, with a legal entry and the deadline its state calls for. -/
theorem steps_keep_the_auction_table_and_the_deadline_list : Obligations.steps_keep_the_auction_table_and_the_deadline_list :=
  fun _ _ h hstep => step_keeps (fun _ _ h => h.of_auc rfl) (fun c _ h _ => h.effect c) h hstep

end Sys2Proof.Machine
end

section
/-! SUPPORT. The increment, the transitions of the timescale unit and the parameter sets; and the statements on INC, on a pulse's
transition and on the rate and SETTLE under every step (R5, R7, R8, R10, R12, R13, R15, R77). -/

namespace Sys2Proof.Machine

/-! ### The increment (R5) -/

theorem incOf_eq (e : Int) : incOf e = (34359738368 + if 0 ≤ e then (2 * (34359738368 * e) + 10 ^ 12) / (2 * 10 ^ 12)
    else -((2 * (34359738368 * -e) + 10 ^ 12) / (2 * 10 ^ 12))).toNat := by
  have sign : 0 ≤ (baseInc : Int) * e ↔ 0 ≤ e := by simp only [baseInc]; omega
  simp only [incOf, roundDiv, sign, mul_neg]
  rfl

/-- The bounds of INC, and how near it is to the exact value. -/
theorem incOf_near {e : Int} (low : -300000000 ≤ e) (high : e ≤ 300000000) :
    -(10 ^ 12) ≤ 2 * (10 ^ 12 * ((incOf e : Int) - 34359738368) - 34359738368 * e)
      ∧ 2 * (10 ^ 12 * ((incOf e : Int) - 34359738368) - 34359738368 * e) ≤ 10 ^ 12
      ∧ 34349430446 ≤ incOf e ∧ incOf e ≤ 34370046290 := by
  rw [incOf_eq]
  split <;> omega

/-- Settles O10: `roundDiv` is within half a unit of the quotient. -/
theorem inc_is_rounded_and_in_range : Obligations.inc_is_rounded_and_in_range := by
  intro e low high
  obtain ⟨below, above, range⟩ := incOf_near low high
  have near := abs_le.mpr ⟨below, above⟩
  rw [abs_mul, abs_two] at near
  exact ⟨near, range⟩

/-! ### A pulse's transition (R12, R13) -/

theorem Tsu.clampsF_iff (t : Tsu) (ki : Nat) (theta : Int) :
    t.clampsF ki theta = true ↔ 200000000 < |t.f - (1000 * theta).tdiv (2 ^ ki)| := by
  rw [Tsu.clampsF, Bool.or_eq_true, decide_eq_true_iff, decide_eq_true_iff, lt_abs]
  simp only [Tsu.rawF, phaseTerm, fMax]
  omega

section

variable {t : Tsu} {theta : Int} {S : Nat}

theorem Tsu.transition_unset (h : t.state = .unset) : t.transition theta S = t.firstSetting S := by rw [Tsu.transition, h]

theorem Tsu.transition_acquiring (h : t.state = .acquiring) : t.transition theta S = t.acquire theta := by rw [Tsu.transition, h]

/-- A θ below −STEP steps the timescale into ACQUIRING from every state that follows it. -/
theorem Tsu.transition_stepInto (h : t.state = .tracking ∨ t.state = .holdover ∨ t.state = .slewing)
    (far : theta < -(t.set.step : Int)) : t.transition theta S = t.stepInto theta := by
  obtain h | h | h := h <;> simp [Tsu.transition, h, far]

theorem Tsu.transition_slewBack (h : (t.state = .tracking ∨ t.state = .holdover) ∧ (t.set.step : Int) < theta
    ∨ t.state = .slewing ∧ (t.set.lock : Int) < theta) : t.transition theta S = t.slewBack := by
  obtain ⟨h | h, far⟩ | ⟨h, far⟩ := h <;> simp only [Tsu.transition, h] <;> rw [if_neg (by omega), if_pos far]

theorem Tsu.transition_track (h : (t.state = .tracking ∨ t.state = .holdover) ∧ -(t.set.step : Int) ≤ theta ∧ theta ≤ t.set.step
    ∨ t.state = .slewing ∧ -(t.set.step : Int) ≤ theta ∧ theta ≤ t.set.lock) : t.transition theta S = t.track theta := by
  obtain ⟨h | h, low, high⟩ | ⟨h, low, high⟩ := h <;> simp only [Tsu.transition, h] <;> rw [if_neg (by omega), if_neg (by omega)]

/-- The good-pulse count of an acquiring pulse (R13). -/
theorem Tsu.acquire_tsu : (t.acquire theta).tsu =
    let good := if theta.natAbs ≤ t.set.lock then t.good + 1 else 0
    { t.update t.set.kpAcq t.set.kiAcq theta with
      good := if 4 ≤ good then 0 else good, state := if 4 ≤ good then .tracking else t.state } := by
  unfold Tsu.acquire
  dsimp only
  generalize (if theta.natAbs ≤ t.set.lock then t.good + 1 else 0) = good
  by_cases full : 4 ≤ good
  · simp only [full, if_true]
  · simp only [full, if_false]
    rfl

theorem Tsu.transition_frame : (t.transition theta S).tsu = { t with
    xt := (t.transition theta S).tsu.xt, f := (t.transition theta S).tsu.f, p := (t.transition theta S).tsu.p
    slew := (t.transition theta S).tsu.slew, inc := (t.transition theta S).tsu.inc, good := (t.transition theta S).tsu.good
    state := (t.transition theta S).tsu.state } := by
  have acquired : (t.acquire theta).tsu = { t with
      xt := (t.acquire theta).tsu.xt, f := (t.acquire theta).tsu.f, p := (t.acquire theta).tsu.p
      slew := (t.acquire theta).tsu.slew, inc := (t.acquire theta).tsu.inc, good := (t.acquire theta).tsu.good
      state := (t.acquire theta).tsu.state } := by rw [Tsu.acquire_tsu]; rfl
  unfold Tsu.transition
  (repeat' split) <;> first | rfl | exact acquired

end

/-- Settles O12: each row is the transition's branch. -/
theorem pulse_transition_follows_the_table : Obligations.pulse_transition_follows_the_table := by
  intro t theta S
  dsimp only
  intro _
  refine ⟨fun h => ?unset, fun h => ?acquiring, fun h range => ?tracking, fun h range => ?slewing, fun h far => ?step, fun h => ?back,
    Tsu.transition_frame⟩
  case unset =>
    rw [Tsu.transition_unset h]
    exact ⟨rfl, rfl, rfl, rfl, rfl, rfl, rfl, rfl, rfl, congrArg incOf (add_zero _)⟩
  case acquiring =>
    rw [Tsu.transition_acquiring h, Tsu.acquire_tsu]
    refine ⟨rfl, t.clampsF_iff _ _, rfl, rfl, rfl, rfl, rfl, fun near low => ?_, fun near three => ?_, fun far => ?_⟩
    · rw [Int.abs_eq_natAbs] at near
      have near : theta.natAbs ≤ t.set.lock := by omega
      simp [near, h, Nat.not_le.mpr low]
    · rw [Int.abs_eq_natAbs] at near
      have near : theta.natAbs ≤ t.set.lock := by omega
      simp [near, three]
    · rw [Int.abs_eq_natAbs] at far
      have far : ¬theta.natAbs ≤ t.set.lock := by omega
      simp [far, h]
  case tracking =>
    rw [Tsu.transition_track (.inl ⟨h, range⟩)]
    exact ⟨rfl, rfl, t.clampsF_iff _ _⟩
  case slewing =>
    rw [Tsu.transition_track (.inr ⟨h, range⟩)]
    exact ⟨rfl, rfl, t.clampsF_iff _ _⟩
  case step =>
    rw [Tsu.transition_stepInto h far]
    exact ⟨rfl, rfl, rfl, rfl, rfl, rfl, rfl, rfl, rfl, congrArg incOf (add_zero _)⟩
  case back =>
    rw [Tsu.transition_slewBack h]
    exact ⟨rfl, rfl, rfl, rfl, rfl, rfl, rfl, rfl⟩

/-! ### The rate of a timescale unit (R5, R7, R8, R13, R15) -/

/-- What RateHeld says of the timescale unit, but for the range of INC, which follows. -/
structure Tsu.Rated (t : Tsu) : Prop where
  inc : t.inc = incOf (t.f + t.p)
  fLow : -200000000 ≤ t.f
  fHigh : t.f ≤ 200000000
  pLow : -(t.set.slewMax : Int) ≤ t.p
  pHigh : t.p ≤ t.set.slewMax
  legal : t.set.legal
  pendingLegal : ∀ d, t.pendingSet = some d → d.legal
  continuous : t.slew = .continuous ↔ t.state = .slewing
  back : t.state = .slewing → t.p = -(t.set.slewMax : Int)
  goodLow : t.good ≤ 3
  goodAcquiring : t.state ≠ .acquiring → t.good = 0

theorem DiscSet.legal.slewMax_le {d : DiscSet} (h : d.legal) : d.slewMax ≤ 100000000 := by
  obtain ⟨-, -, -, -, -, -, -, -, -, -, -, -, h, -, -⟩ := h
  exact h

theorem DiscSet.legal.initialF_range {d : DiscSet} (h : d.legal) : -200000000 ≤ d.initialF ∧ d.initialF ≤ 200000000 := by
  obtain ⟨-, -, -, -, -, -, -, -, -, -, -, -, -, h⟩ := h
  exact h

theorem rateHeld_iff (s : State) : RateHeld s ↔ s.tsu.Rated := by
  constructor
  · rintro ⟨inc, fLow, fHigh, pLow, pHigh, -, -, legal, pendingLegal, continuous, back, goodLow, goodAcquiring⟩
    exact ⟨inc, fLow, fHigh, pLow, pHigh, legal, pendingLegal, continuous, back, goodLow, goodAcquiring⟩
  · intro h
    have slewMax := h.legal.slewMax_le
    have fLow := h.fLow
    have fHigh := h.fHigh
    have pLow := h.pLow
    have pHigh := h.pHigh
    obtain ⟨-, -, incLow, incHigh⟩ := incOf_near (e := s.tsu.f + s.tsu.p) (by omega) (by omega)
    exact ⟨h.inc, h.fLow, h.fHigh, h.pLow, h.pHigh, h.inc ▸ incLow, h.inc ▸ incHigh, h.legal, h.pendingLegal, h.continuous, h.back,
      h.goodLow, h.goodAcquiring⟩

namespace Tsu.Rated

variable {t : Tsu}

/-- The rate does not rest on XT, its fraction, L, θ or the note that XT has been read. -/
theorem congr {u : Tsu} (h : t.Rated)
    (eq : u = { t with xt := u.xt, frac := u.frac, leap := u.leap, theta := u.theta, xtRead := u.xtRead }) : u.Rated := by
  rw [eq]
  exact ⟨h.inc, h.fLow, h.fHigh, h.pLow, h.pHigh, h.legal, h.pendingLegal, h.continuous, h.back, h.goodLow, h.goodAcquiring⟩

/-- A unit at rest: P 0 and no slew. -/
theorem still {u : Tsu} (fLow : -200000000 ≤ u.f) (fHigh : u.f ≤ 200000000) (legal : u.set.legal)
    (pendingLegal : ∀ d, u.pendingSet = some d → d.legal) (state : u.state ≠ .slewing) (goodLow : u.good ≤ 3)
    (goodAcquiring : u.state ≠ .acquiring → u.good = 0) : u.still.Rated where
  inc := rfl
  fLow := fLow
  fHigh := fHigh
  pLow := by show -(u.set.slewMax : Int) ≤ 0; omega
  pHigh := by show (0 : Int) ≤ u.set.slewMax; omega
  legal := legal
  pendingLegal := pendingLegal
  continuous := ⟨nofun, fun h => absurd h state⟩
  back := fun h => absurd h state
  goodLow := goodLow
  goodAcquiring := goodAcquiring

theorem stepBy {u : Tsu} (fLow : -200000000 ≤ u.f) (fHigh : u.f ≤ 200000000) (legal : u.set.legal)
    (pendingLegal : ∀ d, u.pendingSet = some d → d.legal) (state : u.state ≠ .slewing) (goodLow : u.good ≤ 3)
    (goodAcquiring : u.state ≠ .acquiring → u.good = 0) (S : Nat) : (u.stepBy S).Rated :=
  still (u := { u with xt := fit64 (u.xt + S) }) fLow fHigh legal pendingLegal state goodLow goodAcquiring

/-- The discipline update keeps F and P within their limits and ends a CONTINUOUS slew (R7, R8, R9). -/
theorem update {u : Tsu} (legal : u.set.legal) (pendingLegal : ∀ d, u.pendingSet = some d → d.legal) (state : u.state ≠ .slewing)
    (goodLow : u.good ≤ 3) (goodAcquiring : u.state ≠ .acquiring → u.good = 0) (kp ki : Nat) (theta : Int) :
    (u.update kp ki theta).Rated where
  inc := rfl
  fLow := by rw [Tsu.update_f]; omega
  fHigh := by rw [Tsu.update_f]; omega
  pLow := by
    show -(u.set.slewMax : Int) ≤ (u.update kp ki theta).p
    rw [Tsu.update_p]; omega
  pHigh := by
    show (u.update kp ki theta).p ≤ u.set.slewMax
    rw [Tsu.update_p]; omega
  legal := legal
  pendingLegal := pendingLegal
  continuous := ⟨nofun, fun h => absurd h state⟩
  back := fun h => absurd h state
  goodLow := goodLow
  goodAcquiring := goodAcquiring

end Tsu.Rated

/-- What a pulse's transition needs of the unit, once the set is taken into force: all but P, which each transition sets anew. -/
structure Tsu.Movable (t : Tsu) : Prop where
  fLow : -200000000 ≤ t.f
  fHigh : t.f ≤ 200000000
  legal : t.set.legal
  pendingLegal : ∀ d, t.pendingSet = some d → d.legal
  goodLow : t.good ≤ 3
  goodAcquiring : t.state ≠ .acquiring → t.good = 0

theorem Tsu.Rated.inForce {t : Tsu} (h : t.Rated) : t.inForce.Movable := by
  unfold Tsu.inForce
  split
  · exact ⟨h.fLow, h.fHigh, h.pendingLegal _ ‹_›, nofun, h.goodLow, h.goodAcquiring⟩
  · exact ⟨h.fLow, h.fHigh, h.legal, h.pendingLegal, h.goodLow, h.goodAcquiring⟩

theorem Tsu.inForce_state (t : Tsu) : t.inForce.state = t.state := by
  unfold Tsu.inForce
  split <;> rfl

namespace Tsu.Movable

variable {t : Tsu}

theorem firstSetting (h : t.Movable) (S : Nat) : (t.firstSetting S).tsu.Rated := by
  obtain ⟨low, high⟩ := h.legal.initialF_range
  exact .stepBy (u := { t with f := t.set.initialF, good := 0, state := .acquiring }) low high h.legal h.pendingLegal nofun
    (Nat.zero_le 3) (fun _ => rfl) S

theorem stepInto (h : t.Movable) (theta : Int) : (t.stepInto theta).tsu.Rated :=
  .stepBy (u := { t with good := 0, state := .acquiring }) h.fLow h.fHigh h.legal h.pendingLegal nofun (Nat.zero_le 3)
    (fun _ => rfl) _

theorem track (h : t.Movable) (state : t.state ≠ .acquiring) (theta : Int) : (t.track theta).tsu.Rated := by
  have good := h.goodAcquiring state
  exact .update (u := { t with state := .tracking }) h.legal h.pendingLegal nofun h.goodLow (fun _ => good) _ _ _

theorem slewBack (h : t.Movable) (state : t.state ≠ .acquiring) : t.slewBack.tsu.Rated where
  inc := rfl
  fLow := h.fLow
  fHigh := h.fHigh
  pLow := le_refl _
  pHigh := by show -(t.set.slewMax : Int) ≤ t.set.slewMax; omega
  legal := h.legal
  pendingLegal := h.pendingLegal
  continuous := ⟨fun _ => rfl, fun _ => rfl⟩
  back := fun _ => rfl
  goodLow := h.goodLow
  goodAcquiring := fun _ => h.goodAcquiring state

theorem acquire (h : t.Movable) (state : t.state = .acquiring) (theta : Int) : (t.acquire theta).tsu.Rated := by
  have updated := Tsu.Rated.update h.legal h.pendingLegal (by rw [state]; nofun) h.goodLow h.goodAcquiring t.set.kpAcq t.set.kiAcq theta
  rw [Tsu.acquire_tsu]
  dsimp only
  generalize (if theta.natAbs ≤ t.set.lock then t.good + 1 else 0) = good
  by_cases full : 4 ≤ good
  · simp only [full, if_true]
    exact ⟨updated.inc, updated.fLow, updated.fHigh, updated.pLow, updated.pHigh, h.legal, h.pendingLegal,
      ⟨nofun, nofun⟩, nofun, Nat.zero_le 3, fun _ => rfl⟩
  · simp only [full, if_false]
    exact ⟨updated.inc, updated.fLow, updated.fHigh, updated.pLow, updated.pHigh, h.legal, h.pendingLegal,
      updated.continuous, updated.back, by show good ≤ 3; omega, fun other => absurd state other⟩

/-- Every transition of a pulse keeps the rate. -/
theorem transition (h : t.Movable) (theta : Int) (S : Nat) : (t.transition theta S).tsu.Rated := by
  unfold Tsu.transition
  split
  · exact h.firstSetting S
  · exact h.acquire ‹_› theta
  · have state : t.state ≠ .acquiring := by simp [*]
    (repeat' split) <;> first | exact h.stepInto theta | exact h.slewBack state | exact h.track state theta
  all_goals
    have state : t.state ≠ .acquiring := by simp [*]
    (repeat' split) <;> first | exact h.stepInto theta | exact h.slewBack state | exact h.track state theta

end Tsu.Movable

theorem Tsu.Rated.pulseMove {t : Tsu} (h : t.Rated) (leap : Nat) (theta : Int) (first : Nat) :
    (pulseMove t leap theta first).tsu.Rated := by
  have m := h.inForce
  refine Tsu.Movable.transition (t := { t.inForce with leap := leap, theta := theta }) ?_ theta first
  exact ⟨m.fLow, m.fHigh, m.legal, m.pendingLegal, m.goodLow, m.goodAcquiring⟩

theorem Tsu.Rated.setTime {t : Tsu} (h : t.Rated) (unset : t.state = .unset) (value : Nat) : (t.setTime value).tsu.Rated := by
  have m := h.inForce
  obtain ⟨low, high⟩ := m.legal.initialF_range
  have good : t.inForce.good = 0 := m.goodAcquiring (by rw [t.inForce_state, unset]; nofun)
  exact .stepBy (u := { t.inForce with f := t.inForce.set.initialF, state := .holdover }) low high m.legal m.pendingLegal nofun
    m.goodLow (fun _ => good) _

theorem Tsu.Rated.lose {t : Tsu} (h : t.Rated) : t.lose.Rated :=
  .still h.fLow h.fHigh h.legal h.pendingLegal nofun (Nat.zero_le 3) (fun _ => rfl)

theorem Tsu.Rated.advance {t : Tsu} (h : t.Rated) : t.advance.Rated := by
  have slew : t.advance.slew = .continuous ↔ t.slew = .continuous := by
    unfold Tsu.advance
    dsimp only
    split <;> simp_all
  exact ⟨h.inc, h.fLow, h.fHigh, h.pLow, h.pHigh, h.legal, h.pendingLegal, slew.trans h.continuous, h.back, h.goodLow,
    h.goodAcquiring⟩

theorem Tsu.cleared_rated : Tsu.cleared.Rated := (rateHeld_iff State.reset).mp rateHeld_reset

/-! ### The discipline set (R10) -/

/-- The set after the clamps of its gains. -/
def DiscSet.clamped (d : DiscSet) : DiscSet :=
  { d with kpAcq := min 15 d.kpAcq, kiAcq := min 15 d.kiAcq, kpTrk := min 15 d.kpTrk, kiTrk := min 15 d.kiTrk }

theorem checkDiscipline_of_legal {d : DiscSet} (h : d.clamped.legal) : checkDiscipline d = some (d.clamped, d.clamped != d) := by
  obtain ⟨-, -, -, -, lockLow, lockHigh, stepLow, stepHigh, lockStep, lossLow, lossHigh, slewLow, slewHigh, fLow, fHigh⟩ := h
  exact if_pos ⟨lockLow, lockHigh, stepLow, stepHigh, lossLow, lossHigh, slewLow, slewHigh, fLow, fHigh, lockStep⟩

theorem checkDiscipline_of_not_legal {d : DiscSet} (h : ¬d.clamped.legal) : checkDiscipline d = none := by
  refine if_neg fun ⟨lockLow, lockHigh, stepLow, stepHigh, lossLow, lossHigh, slewLow, slewHigh, fLow, fHigh, lockStep⟩ => h ?_
  exact ⟨min_le_left _ _, min_le_left _ _, min_le_left _ _, min_le_left _ _, lockLow, lockHigh, stepLow, stepHigh, lockStep, lossLow,
    lossHigh, slewLow, slewHigh, fLow, fHigh⟩

theorem checkDiscipline_legal {d c : DiscSet} {clamped : Bool} (h : checkDiscipline d = some (c, clamped)) : c.legal := by
  by_cases legal : d.clamped.legal
  · rw [checkDiscipline_of_legal legal] at h
    obtain ⟨rfl, -⟩ := Prod.mk.inj (Option.some.inj h)
    exact legal
  · rw [checkDiscipline_of_not_legal legal] at h
    exact nomatch h

theorem RateHeld.takeDiscipline {s : State} (h : RateHeld s) (b : List Byte) : RateHeld (takeDiscipline b s) := by
  rw [rateHeld_iff] at *
  unfold Machine.takeDiscipline
  split
  · exact h
  · rw [answer_tsu, makeEvidence_tsu]
    exact ⟨h.inc, h.fLow, h.fHigh, h.pLow, h.pHigh, h.legal, fun d hd => Option.some.inj hd ▸ checkDiscipline_legal ‹_›,
      h.continuous, h.back, h.goodLow, h.goodAcquiring⟩

/-! ### The rate under every command -/

theorem RateHeld.of_tsu {s t : State} (h : RateHeld s) (tsu : t.tsu = { s.tsu with xtRead := t.tsu.xtRead }) : RateHeld t :=
  (rateHeld_iff t).mpr (((rateHeld_iff s).mp h).congr (by rw [tsu]))

theorem RateHeld.of_tsu_eq {s t : State} (h : RateHeld s) (tsu : t.tsu = s.tsu) : RateHeld t := h.of_tsu (by rw [tsu])

theorem RateHeld.effect {s : State} (h : RateHeld s) (c : Instr) : RateHeld (effect c s) := by
  have rated := (rateHeld_iff s).mp h
  cases c using command_cases with
  | quiet c k => exact h.of_tsu (effect_quiet k s).tsu
  | tap c k => exact h.of_tsu_eq (by rw [effect_tapFrame s k])
  | group c k => exact h.of_tsu (by rw [effect_groupFrame s k])
  | host c k => exact h.of_tsu_eq (by rw [effect_hostFrame s k])
  | deadline c tag k => exact h.of_tsu_eq (by simp [k])
  | powerOnReset straps => exact (rateHeld_iff _).mpr Tsu.cleared_rated
  | pinFall straps =>
    rw [rateHeld_iff]
    dsimp only [Machine.effect, Machine.pinFall]
    split
    · exact Tsu.cleared_rated
    · exact rated
    · exact rated
  | pinRise => exact h.of_tsu_eq (by dsimp only [Machine.effect, Machine.pinRise]; split <;> rfl)
  | lockWaitEnd => exact h.of_tsu_eq (by dsimp only [Machine.effect]; rw [endLockWait_frame])
  | lockEvent => exact h.of_tsu_eq (by dsimp only [Machine.effect]; rw [lockEvent_frame])
  | lossOfLock => exact h.of_tsu_eq (by dsimp only [Machine.effect]; rw [lossOfLock_frame])
  | slewExpiry =>
    dsimp only [Machine.effect, slewExpiry]
    split
    · have ended : s.tsu.slew = .ticks 0 := ‹_›
      have state : s.tsu.state ≠ .slewing := fun k => by
        rw [rated.continuous.mpr k] at ended
        exact nomatch ended
      exact (rateHeld_iff _).mpr (.still rated.fLow rated.fHigh rated.legal rated.pendingLegal state rated.goodLow rated.goodAcquiring)
    · exact h
  | readComplete window order =>
    obtain k | ⟨leap, theta, first, b, k⟩ := readComplete_tsu window order s
    · exact h.of_tsu_eq k
    · rw [rateHeld_iff, show (Machine.effect (.readComplete window order) s).tsu = _ from k]
      exact (rated.pulseMove leap theta first).congr rfl
  | lossTimeout =>
    dsimp only [Machine.effect, lossTimeout]
    split
    · rw [rateHeld_iff, loseReference_tsu, lossAtTsu_tsu]
      split
      · exact rated.lose
      · exact rated
    · exact h
  | holdoverSecond =>
    obtain ⟨b, k⟩ := secondIn_tsu s s.tsu.state
    exact h.of_tsu (by dsimp only [Machine.effect]; rw [k])
  | mergeRelease => exact h.of_tsu_eq (by simp [Machine.effect])
  | setTime order =>
    refine takeRequest_keeps h fun _ => ?_
    obtain k | ⟨unset, value, r, k⟩ := takeSetTime_tsu order s.rqp.bytes s
    · exact h.of_tsu_eq k
    · rw [rateHeld_iff, k]
      exact (rated.setTime unset value).congr rfl
  | configDiscipline => exact takeRequest_keeps h fun _ => h.takeDiscipline _
  | configTrace => exact takeRequest_keeps h fun _ => h.of_tsu_eq (by unfold takeTrace; split <;> simp)
  | tick => exact (rateHeld_iff _).mpr (rated.advance.congr rfl)

/-! ### SETTLE (R77) -/

theorem foldl_max_getD_le {bound : Nat} (l : List (Option Nat)) (h : ∀ c ∈ l, c.getD 0 ≤ bound) (m : Nat) (hm : m ≤ bound) :
    l.foldl (fun m c => max m (c.getD 0)) m ≤ bound := by
  induction l generalizing m with
  | nil => exact hm
  | cons c l ih =>
    exact ih (fun d hd => h d (List.mem_cons_of_mem c hd)) _ (max_le hm (h c List.mem_cons_self))

/-- SETTLE lies between that of no compensation and that of the largest. -/
theorem settleOf_range {comps : Vector (Option Nat) 8} (h : ∀ n : Fin 8, comps[n].getD 0 ≤ 16383) :
    1250 ≤ settleOf comps ∧ settleOf comps ≤ 3298 := by
  have top : comps.toList.foldl (fun m c => max m (c.getD 0)) 0 ≤ 16383 := by
    refine foldl_max_getD_le _ (fun c hc => ?_) 0 (Nat.zero_le _)
    obtain ⟨i, hi, rfl⟩ := List.mem_iff_getElem.mp hc
    simpa using h ⟨i, by simpa using hi⟩
  unfold settleOf ticksOfNs
  omega

/-- What the merge holds of a port in SettleHeld: its compensation while it is enabled. -/
def Port.report (p : Port) : Option Nat := if p.state = .disabled then none else some p.config.compensation

variable {s : State}

theorem SettleHeld.congr {t : State} (h : SettleHeld s) (settle : t.seq.settle = s.seq.settle) (comps : t.seq.comps = s.seq.comps)
    (ports : ∀ n, (port t n).state = (port s n).state ∧ (port t n).config = (port s n).config) : SettleHeld t := by
  simpa only [SettleHeld, settle, comps, ports] using h

theorem port_setPort_same (n : Fin 8) (p : Port) (s : State) : port (setPort n p s) n = p := by simp [port, setPort]

theorem port_setPort_other {n k : Fin 8} (h : k ≠ n) (p : Port) (s : State) : port (setPort n p s) k = port s k := by
  simp only [port, setPort]
  exact Vector.getElem_set_ne _ _ fun e => h (Fin.ext e.symm)

/-- A port replaced by one the merge need hear nothing of. -/
theorem SettleHeld.setPort (h : SettleHeld s) {n : Fin 8} {p : Port} (compensation : p.config.compensation ≤ 16383)
    (report : p.report = (port s n).report) : SettleHeld (setPort n p s) := by
  obtain ⟨settle, low, high, ports⟩ := h
  refine ⟨settle, low, high, fun k => ?_⟩
  by_cases hk : k = n
  · rw [hk, port_setPort_same]
    exact ⟨compensation, (ports n).2.trans report.symm⟩
  · rw [port_setPort_other hk]
    exact ports k

/-- A port replaced and reported to the merge. -/
theorem SettleHeld.reported (h : SettleHeld s) {n : Fin 8} {p : Port} (compensation : p.config.compensation ≤ 16383) :
    SettleHeld (reportSettle n p.report (Machine.setPort n p s)) := by
  obtain ⟨-, -, -, ports⟩ := h
  have others : ∀ k : Fin 8, (port (Machine.setPort n p s) k).config.compensation ≤ 16383
      ∧ (s.seq.comps.set n p.report)[k] = (port (Machine.setPort n p s) k).report := by
    intro k
    by_cases hk : k = n
    · subst hk
      rw [port_setPort_same]
      exact ⟨compensation, by simp⟩
    · rw [port_setPort_other hk]
      refine ⟨(ports k).1, ?_⟩
      rw [← show s.seq.comps[k] = (port s k).report from (ports k).2]
      exact Vector.getElem_set_ne _ _ fun e => hk (Fin.ext e.symm)
  have range := settleOf_range (comps := s.seq.comps.set n p.report) fun k => by
    obtain ⟨le, eq⟩ := others k
    rw [eq, Port.report]
    split
    · exact Nat.zero_le _
    · exact le
  exact ⟨rfl, range.1, range.2, others⟩

theorem SettleHeld.quiet {t : State} (h : SettleHeld s) (q : Quiet s t) : SettleHeld t :=
  h.congr q.settle q.comps fun n => by simp only [port, q.taps, and_self]

theorem SettleHeld.of_blocks {t : State} (h : SettleHeld s) (seq : t.seq = s.seq) (taps : t.taps = s.taps) : SettleHeld t :=
  h.congr (by rw [seq]) (by rw [seq]) fun n => by simp only [port, taps, and_self]

theorem SettleHeld.compensation (h : SettleHeld s) (n : Fin 8) : (port s n).config.compensation ≤ 16383 := by
  obtain ⟨-, -, -, ports⟩ := h
  exact (ports n).1

/-- A port that keeps its state and its configuration. -/
theorem SettleHeld.setPort_same (h : SettleHeld s) {n : Fin 8} {p : Port} (state : p.state = (port s n).state)
    (config : p.config = (port s n).config) : SettleHeld (Machine.setPort n p s) :=
  h.setPort (config ▸ h.compensation n) (by rw [Port.report, Port.report, state, config])

/-- An enabled port that stays enabled, with its configuration. -/
theorem SettleHeld.movePort (h : SettleHeld s) {n : Fin 8} {p : Port} (enabled : p.state ≠ .disabled)
    (was : (port s n).state ≠ .disabled) (config : p.config = (port s n).config) : SettleHeld (movePort n p s) := by
  refine SettleHeld.of_blocks (h.setPort (config ▸ h.compensation n) ?_) (makeEvidence_seq _ _) (makeEvidence_taps _ _)
  rw [Port.report, Port.report, if_neg enabled, if_neg was, config]

theorem abandon_config (p : Port) : p.abandon.config = p.config := by
  unfold Port.abandon
  split <;> rfl

theorem abandon_state (p : Port) : p.abandon.state = p.state := by
  unfold Port.abandon
  split <;> rfl

theorem readPortConfig_compensation {b : List Byte} {c : PortConfig} {clamped : Bool} (h : readPortConfig b = some (c, clamped)) :
    c.compensation ≤ 16383 := by
  unfold readPortConfig at h
  iterate 13 obtain ⟨_, -, h⟩ := Option.bind_eq_some_iff.mp h
  dsimp only at h
  split at h
  · obtain ⟨rfl, -⟩ := Prod.mk.inj (Option.some.inj h)
    exact min_le_left _ _
  · exact nomatch h

theorem SettleHeld.finishFrame (h : SettleHeld s) (n : Fin 8) (r : Reading) (frame : List Byte) {p : Port}
    (state : p.state = (port s n).state) (config : p.config = (port s n).config) : SettleHeld (finishFrame n r frame p s) := by
  have kept : ∀ q : Port, q.state = p.state → q.config = p.config → SettleHeld (Machine.setPort n q s) :=
    fun q hs hc => h.setPort_same (hs.trans state) (hc.trans config)
  unfold Machine.finishFrame enterFifo
  dsimp only
  (repeat' split)
  · exact kept _ rfl rfl
  · exact kept _ rfl rfl
  · refine SettleHeld.quiet ?_ (.onAcc _ _)
    exact kept _ rfl rfl
  · exact kept _ rfl rfl

theorem SettleHeld.configurePort (h : SettleHeld s) (n : Fin 8) (b : List Byte) : SettleHeld (configurePort n b s) := by
  unfold Machine.configurePort
  dsimp only
  split
  · exact h.quiet (.answer _ _ s)
  · have disabled : (port s n).state = .disabled := not_not.mp ‹_›
    split
    · exact h.quiet (.answer _ _ s)
    · refine SettleHeld.quiet ?_ ((Quiet.makeEvidence _ _).trans (.answer _ _ _))
      refine h.setPort (readPortConfig_compensation ‹_›) ?_
      rw [Port.report, Port.report, if_pos disabled, if_pos disabled]

theorem Quiet.answerForTick (r : TickResult) (fs : List Field) (s : State) : Quiet s (answerForTick r fs s) := by
  constructor
  case evidence => exact fun e => e.congr rfl rfl rfl
  all_goals rfl

theorem SettleHeld.enablePort (h : SettleHeld s) (n : Fin 8) : SettleHeld (enablePort n s) := by
  unfold Machine.enablePort
  dsimp only
  split
  · exact h.quiet (.answer _ _ s)
  · refine SettleHeld.quiet ?_ ((Quiet.makeEvidence _ _).trans ((Quiet.makeEvidence _ _).trans (.answerForTick _ _ _)))
    have enabled : ∀ p : Port, (if p.present then PortState.up else .down) ≠ .disabled := by
      intro p
      split <;> nofun
    have reported := h.reported (n := n) (p := { port s n with
      state := if (port s n).present then .up else .down
      armEnd := some (fit64 (s.osc.tick + armingLength (port s n).config.compensation)) }) (h.compensation n)
    rwa [Port.report, if_neg (enabled _)] at reported

theorem SettleHeld.disablePort (h : SettleHeld s) (n : Fin 8) : SettleHeld (disablePort n s) := by
  unfold Machine.disablePort
  dsimp only
  split
  · exact h.quiet (.answer _ _ s)
  · refine SettleHeld.quiet ?_ ((Quiet.makeEvidence _ _).trans ((Quiet.makeEvidence _ _).trans (.answer _ _ _)))
    exact h.reported (p := { (port s n).abandon with state := .disabled, armEnd := none })
      ((abandon_config _).symm ▸ h.compensation n)

theorem SettleHeld.tap (h : SettleHeld s) {c : Instr} (k : isTap c = true) : SettleHeld (Machine.effect c s) := by
  cases c <;> dsimp only [Machine.effect]
  case linkGain n =>
    unfold linkGain
    dsimp only
    split
    · exact h.movePort nofun (by simp [*]) rfl
    all_goals exact h.setPort_same rfl rfl
  case linkLoss n =>
    unfold linkLoss
    dsimp only
    split
    · exact h.movePort nofun (by simp [*]) (abandon_config _)
    all_goals exact h.setPort_same rfl rfl
  case startOfFrame n =>
    unfold startOfFrame
    dsimp only
    (repeat' split) <;> first | exact h | exact h.setPort_same rfl rfl
  case endOfFrame n frame =>
    unfold endOfFrame
    split
    · exact h
    · exact h.finishFrame n _ frame rfl rfl
  case configPortConfigure =>
    exact takeRequest_keeps h fun _ => takeConfigPort_keeps h (h.quiet (.answer _ _ s)) fun n => h.configurePort n _
  case configPortEnable =>
    exact takeRequest_keeps h fun _ => takeConfigPort_keeps h (h.quiet (.answer _ _ s)) fun n => h.enablePort n
  case configPortDisable =>
    exact takeRequest_keeps h fun _ => takeConfigPort_keeps h (h.quiet (.answer _ _ s)) fun n => h.disablePort n
  all_goals exact absurd k Bool.false_ne_true

theorem SettleHeld.clearBlocks (straps : Straps) (s : State) (osc : Osc) :
    SettleHeld { clearBlocks straps s with osc := osc } := by
  refine ⟨settleOf_none.symm, Nat.le_refl 1250, (by decide : 1250 ≤ 3298), fun n => ?_⟩
  simp [port, Machine.clearBlocks, Port.cleared, PortConfig.default, Seq.cleared]

theorem releaseStamp_settle (e : StampEntry) (s : State) :
    (releaseStamp e s).seq.settle = s.seq.settle ∧ (releaseStamp e s).seq.comps = s.seq.comps := by
  unfold releaseStamp
  dsimp only
  split <;> split <;> simp

theorem releaseEvidence_settle (q : QueuedEvidence) (s : State) :
    (releaseEvidence q s).seq.settle = s.seq.settle ∧ (releaseEvidence q s).seq.comps = s.seq.comps := by
  unfold releaseEvidence
  dsimp only
  split <;> simp

theorem SettleHeld.releaseArrival (h : SettleHeld s) (n : Fin 8) (hdr : Header) (a : Arrival) :
    SettleHeld (releaseArrival n hdr a s) := by
  refine h.congr ?_ ?_ fun n => by simp [port]
  all_goals rw [releaseArrival_frame]

theorem SettleHeld.releaseGap (h : SettleHeld s) (n : Fin 8) (hdr : Header) (lost lastLost : Nat) :
    SettleHeld (releaseGap n hdr lost lastLost s) := by
  refine h.congr ?_ ?_ fun n => by simp [port]
  all_goals rw [releaseGap_frame]

/-- A release takes from a port its head alone, and leaves SETTLE and the compensations. -/
theorem SettleHeld.takeHead (h : SettleHeld s) (src : Source) : SettleHeld (takeHead src s) := by
  cases src <;> unfold Machine.takeHead <;> dsimp only
  case notices =>
    split
    · exact h
    · refine SettleHeld.congr (h.of_blocks (t := { s with auc := _ }) rfl rfl) ?_ ?_ fun n => by simp [port]
      all_goals rw [releaseNotice_frame]; rfl
  case evidence =>
    split
    · exact h
    · exact h.congr (releaseEvidence_settle _ _).1 (releaseEvidence_settle _ _).2 fun n => by simp [port]
  case tap n =>
    split
    · exact h
    · have popped : ∀ rest, SettleHeld (Machine.setPort n { port s n with fifo := rest } s) := fun rest => h.setPort_same rfl rfl
      split
      · exact (popped _).releaseArrival _ _ _
      · exact (popped _).releaseGap _ _ _ _
  case stampSlot =>
    split
    · exact h
    · exact h.congr (releaseStamp_settle _ _).1 (releaseStamp_settle _ _).2 fun n => by simp [port]

theorem SettleHeld.release (h : SettleHeld s) : SettleHeld (release s) := by
  unfold Machine.release
  (repeat' split)
  · have flagged : SettleHeld { s with seq.released := true } := h.congr rfl rfl fun _ => ⟨rfl, rfl⟩
    exact (flagged.takeHead _).quiet (.checkStarved _)
  all_goals exact h

theorem SettleHeld.effect (h : SettleHeld s) (c : Instr) : SettleHeld (Machine.effect c s) := by
  cases c using command_cases with
  | quiet c k => exact h.quiet (effect_quiet k s)
  | tap c k => exact h.tap k
  | group c k => exact h.of_blocks (by rw [effect_groupFrame s k]) (by rw [effect_groupFrame s k])
  | host c k => exact h.of_blocks (by rw [effect_hostFrame s k]) (by rw [effect_hostFrame s k])
  | deadline c tag k => exact h.of_blocks (by simp [k]) (by simp [k])
  | powerOnReset straps => exact .clearBlocks straps s _
  | pinFall straps =>
    dsimp only [Machine.effect, Machine.pinFall]
    split
    · exact .clearBlocks straps s _
    · exact h.of_blocks rfl rfl
    · exact h
  | pinRise => dsimp only [Machine.effect, Machine.pinRise]; split <;> exact h.of_blocks rfl rfl
  | lockWaitEnd => dsimp only [Machine.effect]; exact h.of_blocks (by rw [endLockWait_frame]) (by rw [endLockWait_frame])
  | lockEvent => dsimp only [Machine.effect]; exact h.of_blocks (by rw [lockEvent_frame]) (by rw [lockEvent_frame])
  | lossOfLock => dsimp only [Machine.effect]; exact h.of_blocks (by rw [lossOfLock_frame]) (by rw [lossOfLock_frame])
  | slewExpiry => dsimp only [Machine.effect, slewExpiry]; split <;> exact h.of_blocks rfl rfl
  | readComplete window order =>
    dsimp only [Machine.effect]
    unfold readComplete
    split
    · exact h.congr (by simp) (by simp) fun n => by simp
    · exact h
  | lossTimeout =>
    dsimp only [Machine.effect, lossTimeout]
    split
    · exact h.of_blocks (by simp) (by simp)
    · exact h
  | holdoverSecond => exact h.of_blocks (by simp [Machine.effect]) (by simp [Machine.effect])
  | mergeRelease => exact h.release
  | setTime order =>
    refine takeRequest_keeps h fun _ => ?_
    unfold takeSetTime
    dsimp only
    (repeat' split)
    · exact h.quiet (.answer _ _ s)
    · exact h.quiet (.answer _ _ s)
    · exact h
    · exact SettleHeld.quiet (h.congr (by simp) (by simp) fun n => by simp) (.answer _ _ _)
  | configDiscipline =>
    refine takeRequest_keeps h fun _ => ?_
    unfold takeDiscipline
    split <;> exact h.of_blocks (by simp) (by simp)
  | configTrace =>
    refine takeRequest_keeps h fun _ => ?_
    unfold takeTrace
    split <;> exact h.of_blocks (by simp) (by simp)
  | tick => exact h.congr rfl rfl fun _ => ⟨rfl, rfl⟩

/-- Settles O58: the rate by the transitions of the timescale unit, SETTLE by the ports' reports. -/
theorem steps_keep_the_rate_and_settle : Obligations.steps_keep_the_rate_and_settle := fun _ _ rate settle h =>
  ⟨step_keeps (fun _ _ h => h.of_tsu_eq rfl) (fun c _ h _ => h.effect c) rate h,
    step_keeps (fun _ _ h => h.of_blocks rfl rfl) (fun c _ h _ => h.effect c) settle h⟩

end Sys2Proof.Machine
end

section
/-! SUPPORT. What keeps a part in reset at its tables, the reservations of evidence staging, and the law of the class in force; and the
statement on them under every step (R2, R3, R52, R56, R87, R120). -/

namespace Sys2Proof.Machine

variable {s : State}

/-! ### A part in reset (R2, R3) -/

theorem ResetHeld.of_running (run : s.osc.phase = .running) : ResetHeld s := fun reset => absurd run reset

/-- The reset tables are at themselves under any reset of the same straps. -/
theorem clearBlocks_at_tables (straps : Straps) (o : Osc) (s : State) :
    clearBlocks straps { clearBlocks straps s with osc := o } = { clearBlocks straps s with osc := o } := by
  simp [clearBlocks, Port.cleared, Arc.cleared, Auc.cleared, Function.comp_def]

theorem ResetHeld.clearBlocks (straps : Straps) (s : State) {o : Osc} (zero : o.tick = 0) :
    ResetHeld { clearBlocks straps s with osc := o } :=
  fun _ => ⟨zero, straps, clearBlocks_at_tables straps o s⟩

/-- At the tables the oscillator supervisor alone may move. -/
theorem ResetHeld.setOscillator (h : ResetHeld s) (reset : s.osc.phase ≠ .running) {o : Osc} (zero : o.tick = 0) :
    ResetHeld { s with osc := o } := by
  obtain ⟨-, straps, tables⟩ := h reset
  intro _
  refine ⟨zero, straps, ?_⟩
  conv_rhs => rw [← tables]
  rfl

theorem ResetHeld.setPending (h : ResetHeld s) (l : List Instr) : ResetHeld { s with pending := l } := by
  intro reset
  obtain ⟨zero, straps, tables⟩ := h reset
  refine ⟨zero, straps, ?_⟩
  conv_rhs => rw [← tables]
  rfl

theorem ResetHeld.tick (h : ResetHeld s) (reset : s.osc.phase ≠ .running) : s.osc.tick = 0 := (h reset).1

theorem ResetHeld.div (h : ResetHeld s) (reset : s.osc.phase ≠ .running) : s.div = Div.cleared := by
  obtain ⟨-, straps, tables⟩ := h reset
  rw [← tables]
  rfl

theorem ResetHeld.stg (h : ResetHeld s) (reset : s.osc.phase ≠ .running) : s.stg = Stg.cleared := by
  obtain ⟨-, straps, tables⟩ := h reset
  rw [← tables]
  rfl

theorem ResetHeld.port (h : ResetHeld s) (reset : s.osc.phase ≠ .running) (n : Fin 8) :
    port s n = Port.cleared (port s n).present := by
  obtain ⟨-, straps, tables⟩ := h reset
  have taps : s.taps.map (fun p => Port.cleared p.present) = s.taps := congrArg State.taps tables
  conv_lhs => rw [Machine.port, ← taps]
  simp [Machine.port]

/-- A link indication that changes while the part is in reset. -/
theorem ResetHeld.indicate (h : ResetHeld s) (reset : s.osc.phase ≠ .running) (n : Fin 8) (present : Bool) :
    ResetHeld (setPort n { Machine.port s n with present := present } s) := by
  obtain ⟨zero, straps, tables⟩ := h reset
  have taps : s.taps.map (fun p => Port.cleared p.present) = s.taps := congrArg State.taps tables
  refine fun _ => ⟨zero, straps, ?_⟩
  have set : (s.taps.set n { Machine.port s n with present := present }).map (fun p => Port.cleared p.present)
      = s.taps.set n { Machine.port s n with present := present } := by
    rw [Vector.map_set, taps, h.port reset n]
    rfl
  calc Machine.clearBlocks straps (setPort n { Machine.port s n with present := present } s)
      = { Machine.clearBlocks straps s with
          taps := (s.taps.set n { Machine.port s n with present := present }).map fun p => Port.cleared p.present } := rfl
    _ = setPort n { Machine.port s n with present := present } s := by rw [tables, set]; rfl

theorem ResetHeld.lockWaitEnd (h : ResetHeld s) : ResetHeld (endLockWait s) := by
  unfold endLockWait
  split
  · have reset : s.osc.phase ≠ .running := by simp [*]
    split
    · exact h.setOscillator reset (h.tick reset)
    · exact .of_running rfl
  all_goals exact h

theorem ResetHeld.setOsc (h : ResetHeld s) (reset : s.osc.phase ≠ .running) (o : OscState) : ResetHeld (setOsc o s) :=
  h.setOscillator reset (h.tick reset)

/-- What a part in reset takes leaves it at its tables, or lets it leave reset. -/
theorem ResetHeld.effect_reset (h : ResetHeld s) (reset : s.osc.phase ≠ .running) {c : Instr} (takes : actsInReset c = true) :
    ResetHeld (effect c s) := by
  cases c <;> dsimp only [effect]
  case powerOnReset straps => exact .clearBlocks straps s rfl
  case lockWaitEnd => exact h.lockWaitEnd
  case pinReset edge =>
    cases edge with
    | fall straps =>
      dsimp only
      unfold pinFall
      split
      · exact .clearBlocks straps s rfl
      · obtain ⟨zero, old, tables⟩ := h reset
        refine fun _ => ⟨zero, straps, ?_⟩
        conv_rhs => rw [← tables]
        conv_lhs => rw [← tables]
        simp [setPhase, latchStraps, Machine.clearBlocks, Port.cleared, Arc.cleared, Auc.cleared, Function.comp_def]
      · exact h
    | rise =>
      dsimp only
      unfold pinRise
      split
      · exact h
      · exact h.setOscillator reset (h.tick reset)
      · exact .of_running rfl
  case lockEvent =>
    unfold lockEvent
    split
    · exact absurd ‹_› reset
    · exact (h.setOsc reset .locked).lockWaitEnd
    · exact h.setOsc reset .locked
  case lossOfLock =>
    unfold lossOfLock
    split
    · exact absurd ‹_› reset
    all_goals exact h.setOsc reset .backup
  case linkGain n =>
    have disabled : (Machine.port s n).state = .disabled := by rw [h.port reset n]; rfl
    unfold linkGain
    dsimp only
    split
    · rename_i other
      exact absurd (disabled.symm.trans other) nofun
    · exact h.indicate reset n true
    · rename_i other
      exact absurd (disabled.symm.trans other) nofun
  case linkLoss n =>
    have disabled : (Machine.port s n).state = .disabled := by rw [h.port reset n]; rfl
    unfold linkLoss
    dsimp only
    split
    · rename_i other
      exact absurd (disabled.symm.trans other) nofun
    · exact h.indicate reset n false
    · exact h.indicate reset n false
  case otherRegisterWrite => exact h
  all_goals exact absurd takes Bool.false_ne_true

/-- No command but the two resets takes a running part out of its phase. -/
theorem effect_running (run : s.osc.phase = .running) {c : Instr} (powerOn : ∀ straps, c ≠ .powerOnReset straps)
    (pin : ∀ straps, c ≠ .pinReset (.fall straps)) : (effect c s).osc.phase = .running := by
  cases c using command_cases with
  | quiet c k => rw [(effect_quiet k s).osc, run]
  | tap c k => rw [effect_tapFrame s k]; exact run
  | group c k => rw [effect_groupFrame s k]; exact run
  | host c k => rw [effect_hostFrame s k]; exact run
  | deadline c tag k => simp [k, run]
  | powerOnReset straps => exact absurd rfl (powerOn straps)
  | pinFall straps => exact absurd rfl (pin straps)
  | pinRise => dsimp only [effect]; rw [pinRise_running run, run]
  | lockWaitEnd => dsimp only [effect]; rw [endLockWait, run]; exact run
  | lockEvent => dsimp only [effect]; rw [lockEvent, run]; dsimp only; split <;> simp [changeOsc, run]
  | lossOfLock => dsimp only [effect]; rw [lossOfLock, run]; dsimp only; split <;> simp [changeOsc, run]
  | slewExpiry => dsimp only [effect, slewExpiry]; split <;> exact run
  | readComplete window order => dsimp only [effect]; unfold readComplete; split <;> simp [run]
  | lossTimeout => dsimp only [effect, lossTimeout]; split <;> simp [run]
  | setTime order =>
    refine takeRequest_keeps (P := fun t => t.osc.phase = .running) run fun _ => ?_
    unfold takeSetTime
    dsimp only
    (repeat' split) <;> simp [run]
  | configDiscipline =>
    refine takeRequest_keeps (P := fun t => t.osc.phase = .running) run fun _ => ?_
    unfold takeDiscipline
    split <;> simp [run]
  | configTrace =>
    refine takeRequest_keeps (P := fun t => t.osc.phase = .running) run fun _ => ?_
    unfold takeTrace
    split <;> simp [run]
  | tick => exact run
  | _ => simp [effect, run]

theorem ResetHeld.effect (h : ResetHeld s) {c : Instr} (takes : Takes c s) : ResetHeld (effect c s) := by
  by_cases run : s.osc.phase = .running
  · by_cases powerOn : ∀ straps, c ≠ .powerOnReset straps
    · by_cases pin : ∀ straps, c ≠ .pinReset (.fall straps)
      · exact .of_running (effect_running run powerOn pin)
      · obtain ⟨straps, rfl⟩ := not_forall_not.mp pin
        dsimp only [Machine.effect]
        rw [pinFall_running run]
        exact .clearBlocks straps s rfl
    · obtain ⟨straps, rfl⟩ := not_forall_not.mp powerOn
      exact .clearBlocks straps s rfl
  · exact h.effect_reset run (takes.resolve_right run)

/-! ### The reservations of evidence staging (R87, R120) -/

theorem EvidenceHeld.setPort (h : EvidenceHeld s) (n : Fin 8) (p : Port) : EvidenceHeld (setPort n p s) := h.congr rfl rfl rfl

theorem EvidenceHeld.movePort (h : EvidenceHeld s) (n : Fin 8) (p : Port) : EvidenceHeld (movePort n p s) :=
  (h.setPort n p).makeEvidence _

theorem EvidenceHeld.finishFrame (h : EvidenceHeld s) (n : Fin 8) (r : Reading) (frame : List Byte) (p : Port) :
    EvidenceHeld (finishFrame n r frame p s) := by
  unfold Machine.finishFrame enterFifo
  dsimp only
  (repeat' split) <;> exact h.congr rfl rfl rfl

/-- The CONFIG record of a port action and its answer, over a change of the port and of SETTLE. -/
theorem EvidenceHeld.configurePort (h : EvidenceHeld s) (n : Fin 8) (b : List Byte) : EvidenceHeld (configurePort n b s) := by
  unfold Machine.configurePort
  dsimp only
  split
  · exact h.answer _ _
  · split
    · exact h.answer _ _
    · exact ((h.setPort n _).makeEvidence _).answer _ _

theorem EvidenceHeld.enablePort (h : EvidenceHeld s) (n : Fin 8) : EvidenceHeld (enablePort n s) := by
  unfold Machine.enablePort
  dsimp only
  split
  · exact h.answer _ _
  · have reported : ∀ p comp, EvidenceHeld (reportSettle n comp (Machine.setPort n p s)) := fun _ _ => h.congr rfl rfl rfl
    exact (((reported _ _).makeEvidence _).makeEvidence _).congr rfl rfl rfl

theorem EvidenceHeld.disablePort (h : EvidenceHeld s) (n : Fin 8) : EvidenceHeld (disablePort n s) := by
  unfold Machine.disablePort
  dsimp only
  split
  · exact h.answer _ _
  · have reported : ∀ p comp, EvidenceHeld (reportSettle n comp (Machine.setPort n p s)) := fun _ _ => h.congr rfl rfl rfl
    exact (((reported _ _).makeEvidence _).makeEvidence _).answer _ _

theorem EvidenceHeld.tap (h : EvidenceHeld s) {c : Instr} (k : isTap c = true) : EvidenceHeld (Machine.effect c s) := by
  cases c <;> dsimp only [Machine.effect]
  case linkGain n =>
    unfold linkGain
    dsimp only
    split
    · exact h.movePort _ _
    all_goals exact h.setPort _ _
  case linkLoss n =>
    unfold linkLoss
    dsimp only
    split
    · exact h.movePort _ _
    all_goals exact h.setPort _ _
  case startOfFrame n =>
    unfold startOfFrame
    dsimp only
    (repeat' split) <;> exact h
  case endOfFrame n frame =>
    unfold endOfFrame
    split
    · exact h
    · exact h.finishFrame _ _ _ _
  case configPortConfigure =>
    exact takeRequest_keeps h fun _ => takeConfigPort_keeps h (h.answer _ _) fun n => h.configurePort n _
  case configPortEnable =>
    exact takeRequest_keeps h fun _ => takeConfigPort_keeps h (h.answer _ _) fun n => h.enablePort n
  case configPortDisable =>
    exact takeRequest_keeps h fun _ => takeConfigPort_keeps h (h.answer _ _) fun n => h.disablePort n
  all_goals exact absurd k Bool.false_ne_true

theorem EvidenceHeld.acceptCancel (h : EvidenceHeld s) (g : Fin 64) : EvidenceHeld (acceptCancel g s) := by
  unfold Machine.acceptCancel
  dsimp only
  refine EvidenceHeld.answerNow ?_ _ _
  split
  · exact ((h.setGroup _ _ _).pushNotice _ _).makeEvidence _
  · exact (h.setGroup _ _ _).pushNotice _ _

/-- A group request makes an AUCTION_DRAW record in the shared way, or none. -/
theorem EvidenceHeld.group (h : EvidenceHeld s) {c : Instr} (k : isGroupRequest c = true) : EvidenceHeld (Machine.effect c s) := by
  have decide : ∀ b, EvidenceHeld (takeDecide b s) := by
    intro b
    unfold takeDecide refuseGroup
    dsimp only
    (repeat' split) <;> first
      | exact h.answer _ _
      | exact h.answerNow _ _
      | exact whenRoom_keeps h fun _ => ((h.setGroup _ _ _).pushNotice _ _).answerNow _ _
  cases c <;> dsimp only [Machine.effect]
  case schedule =>
    refine takeRequest_keeps h fun _ => ?_
    unfold takeSchedule acceptSchedule refuseGroup
    dsimp only
    (repeat' split) <;> first
      | exact h.answer _ _
      | exact (h.setGroup _ _ _).answerNow _ _
      | exact whenRoom_keeps h fun _ => ((h.setGroup _ _ _).pushNotice _ _).answerNow _ _
  case amend =>
    refine takeRequest_keeps h fun _ => ?_
    have accepted : ∀ g tEnd start, EvidenceHeld (acceptAmend g tEnd start s) := by
      intro g tEnd start
      unfold acceptAmend amendTo
      dsimp only
      (repeat' split) <;> first
        | exact (h.setGroup _ _ _).answerForTick _ _
        | exact whenRoom_keeps h fun _ => ((h.setGroup _ _ _).pushNotice _ _).answerNow _ _
    unfold takeAmend refuseGroup
    dsimp only
    (repeat' split) <;> first | exact h.answer _ _ | exact accepted _ _ _
  case cancel =>
    refine takeRequest_keeps h fun _ => ?_
    unfold takeCancel refuseGroup
    dsimp only
    (repeat' split) <;> first | exact h.answer _ _ | exact whenRoom_keeps h fun _ => h.acceptCancel _
  case decideClose => refine takeRequest_keeps h fun _ => ?_; split; exacts [h, decide _]
  case decideExtend => refine takeRequest_keeps h fun _ => ?_; split; exacts [h, decide _]
  case clear =>
    refine takeRequest_keeps h fun _ => ?_
    unfold takeClear refuseGroup
    dsimp only
    (repeat' split) <;> first
      | exact h.answer _ _
      | exact whenRoom_keeps h fun _ => ((h.setGroup _ _ _).pushNotice _ _).answerNow _ _
  case queryGroup =>
    refine takeRequest_keeps h fun _ => ?_
    unfold takeQueryGroup
    split
    · exact h.answerNow _ _
    · exact h.answer _ _
  all_goals exact absurd k Bool.false_ne_true

theorem EvidenceHeld.takeStaged (h : EvidenceHeld s) (st : Stream) (n : Nat) : EvidenceHeld (takeStaged st n s) := by
  obtain ⟨reserved, queue, fits⟩ := h
  refine ⟨reserved, queue, ?_⟩
  cases st
  · exact fits
  · exact fits
  · have fewer : (s.stg.staged.evidence.drop n).length ≤ s.stg.staged.evidence.length := by simp
    exact Nat.le_trans (Nat.add_le_add_right fewer _) fits

theorem EvidenceHeld.burstStart (h : EvidenceHeld s) : EvidenceHeld (burstStart s) := by
  unfold Machine.burstStart
  split
  · exact h
  · split
    · exact h.congr (by simp) (by simp) (by simp)
    · exact h
  · split
    · rename_i st _
      have opened : EvidenceHeld (withOpen st s) := h.congr (by simp) (by simp) (by simp)
      unfold newBurst
      have taken := opened.takeStaged st (burstCount (withOpen st s) st)
      exact taken.congr (by simp) (by simp) (by simp)
    · exact h

/-- The RESET record of a link reset is made with room, or joins the pending one. -/
theorem EvidenceHeld.linkResetRecord (h : EvidenceHeld s) (c : LinkCauses) : EvidenceHeld (linkResetRecord c s) := by
  unfold Machine.linkResetRecord
  dsimp only
  split
  · have room : evidenceRoom { s with evu := { s.evu with pendingReset := none } } = true := ‹_›
    exact EvidenceHeld.pushEvidence (h.congr rfl rfl rfl) room _ _
  · exact h.congr rfl rfl rfl

theorem EvidenceHeld.beginLinkReset (h : EvidenceHeld s) (c : LinkCauses) : EvidenceHeld (beginLinkReset c s) := by
  unfold Machine.beginLinkReset
  split
  · exact h.congr rfl rfl rfl
  · exact h.congr (by simp [Evu.unask]) rfl rfl

theorem EvidenceHeld.host (h : EvidenceHeld s) {c : Instr} (k : isHost c = true) : EvidenceHeld (Machine.effect c s) := by
  cases c <;> dsimp only [Machine.effect]
  case cut =>
    refine takeRequest_keeps h fun _ => ?_
    rw [takeCut_frame]
    exact h.congr rfl rfl rfl
  case burstStart => exact h.burstStart
  case linkReset => exact h.beginLinkReset _
  case linkHot => exact h.beginLinkReset _
  case linkResetTakesEffect =>
    unfold linkResetTakesEffect
    split
    · exact h
    · split
      · refine EvidenceHeld.linkResetRecord ?_ _
        exact h.congr rfl rfl rfl
      · exact h
  case burstComplete => exact h.congr (by simp) (by simp) (by simp)
  case trailerComplete => exact h.congr (by simp) (by simp) (by simp)
  case handWrite => exact h.congr (by simp) (by simp) (by simp)
  case handFetchComplete => exact h.congr (by simp) (by simp) (by simp)
  case requestSegmentTake => exact h.congr (by simp) (by simp) (by simp)
  case slotReadComplete => exact h.congr (by simp) (by simp) (by simp)
  case slotWriteComplete => exact h.congr (by simp) (by simp) (by simp)
  all_goals exact absurd k Bool.false_ne_true

theorem EvidenceHeld.deliver (h : EvidenceHeld s) (o : ReqOutcome) (fs : List Field) : EvidenceHeld (deliver o fs s) :=
  h.congr (by simp) (by simp) (by simp)

theorem releaseNotice_evidence (q : QueuedNotice) (s : State) : (releaseNotice q s).stg.reserved = s.stg.reserved
    ∧ (releaseNotice q s).stg.staged.evidence = s.stg.staged.evidence ∧ (releaseNotice q s).evu.queue = s.evu.queue := by
  unfold releaseNotice
  dsimp only
  split
  · exact ⟨rfl, rfl, rfl⟩
  · exact ⟨rfl, rfl, rfl⟩

theorem stageLoss_evidence (hdr : Header) (lost lastLost : Nat) (s : State) :
    (stageLoss hdr lost lastLost s).stg.reserved = s.stg.reserved
      ∧ (stageLoss hdr lost lastLost s).stg.staged.evidence = s.stg.staged.evidence
      ∧ (stageLoss hdr lost lastLost s).evu = s.evu := by
  unfold stageLoss
  split <;> exact ⟨rfl, rfl, rfl⟩

theorem EvidenceHeld.stageLoss (h : EvidenceHeld s) (hdr : Header) (lost lastLost : Nat) :
    EvidenceHeld (stageLoss hdr lost lastLost s) := by
  obtain ⟨reserved, staged, evu⟩ := stageLoss_evidence hdr lost lastLost s
  exact h.congr (by rw [evu]) reserved staged

/-- The release of an evidence record stages it in the slot it had reserved. -/
theorem EvidenceHeld.releaseEvidence {q : QueuedEvidence} {rest : List QueuedEvidence} (h : EvidenceHeld s)
    (queue : s.evu.queue = q :: rest) : EvidenceHeld (releaseEvidence q { s with evu := { s.evu with queue := rest } }) := by
  obtain ⟨reserved, places, slots⟩ := h
  rw [queue, List.length_cons] at reserved places
  unfold Machine.releaseEvidence
  dsimp only
  have staged : EvidenceHeld (stage q.hdr (.evidence q.body (chainValue s.evu.chain q.hdr s.seq.counter q.body)) { s with
      evu := { s.evu with queue := rest, chain := chainValue s.evu.chain q.hdr s.seq.counter q.body }
      stg := { s.stg with reserved := s.stg.reserved - 1 } }) := by
    refine ⟨?_, ?_, ?_⟩
    · show rest.length = s.stg.reserved - 1
      omega
    · show rest.length ≤ evidencePlaces
      omega
    · show (s.stg.staged.evidence ++ [_]).length + (s.stg.reserved - 1) ≤ evidenceSlots
      rw [List.length_append, List.length_singleton]
      omega
  split
  · exact staged.deliver _ _
  · exact staged

theorem EvidenceHeld.takeHead (h : EvidenceHeld s) (src : Source) : EvidenceHeld (takeHead src s) := by
  cases src <;> unfold Machine.takeHead <;> dsimp only
  case notices =>
    split
    · exact h
    · obtain ⟨reserved, staged, queue⟩ := releaseNotice_evidence ‹_› { s with auc := { s.auc with notices := ‹_› } }
      exact h.congr (by rw [queue]) reserved staged
  case evidence =>
    split
    · exact h
    · exact h.releaseEvidence ‹_›
  case tap n =>
    split
    · exact h
    · split
      · unfold releaseArrival
        split
        · exact h.congr rfl rfl rfl
        · exact ((h.setPort _ _).stageLoss _ _ _).onAcc _
      · unfold releaseGap
        split
        · exact h.congr rfl rfl rfl
        · exact (h.setPort _ _).stageLoss _ _ _
  case stampSlot =>
    split
    · exact h
    · unfold releaseStamp
      dsimp only
      rename_i e _
      have freed : EvidenceHeld { s with seq.stampSlot := none } := h.congr rfl rfl rfl
      have staged : EvidenceHeld (stageOrdinary e.hdr (.hostStamp e.event e.tag) { s with seq.stampSlot := none }) :=
        freed.congr rfl rfl rfl
      split <;> split
      · exact staged.deliver _ _
      · exact staged
      · exact freed.deliver _ _
      · exact freed

theorem EvidenceHeld.release (h : EvidenceHeld s) : EvidenceHeld (release s) := by
  unfold Machine.release
  split
  · split
    · have flagged : EvidenceHeld { s with seq.released := true } := h.congr rfl rfl rfl
      exact (flagged.takeHead _).checkStarved
    · exact h
  · exact h

theorem EvidenceHeld.clearBlocks (straps : Straps) (s : State) (osc : Osc) :
    EvidenceHeld { clearBlocks straps s with osc := osc } :=
  ⟨rfl, Nat.zero_le _, Nat.zero_le _⟩

/-- The part leaves reset with its RESET record and the slot it reserves. -/
theorem EvidenceHeld.leaveReset (reset : ResetHeld s) (held : s.osc.phase ≠ .running) (power pin : Bool) :
    EvidenceHeld (leaveReset power pin s) := by
  refine ⟨rfl, (by decide : 1 ≤ evidencePlaces), ?_⟩
  show s.stg.staged.evidence.length + 1 ≤ evidenceSlots
  rw [reset.stg held]
  decide

theorem EvidenceHeld.lockWaitEnd (h : EvidenceHeld s) (reset : ResetHeld s) : EvidenceHeld (endLockWait s) := by
  unfold endLockWait
  split
  · split
    · exact h.congr rfl rfl rfl
    · exact .leaveReset reset (by simp [*]) _ _
  all_goals exact h

theorem EvidenceHeld.changeOsc (h : EvidenceHeld s) (o : OscState) : EvidenceHeld (changeOsc o s) := by
  have moved : EvidenceHeld (setOsc o s) := h.congr rfl rfl rfl
  have made := moved.makeEvidence (.oscState o)
  unfold Machine.changeOsc
  dsimp only
  refine EvidenceHeld.statusEvent (EvidenceHeld.evaluate ?_)
  exact made.congr rfl rfl rfl

theorem EvidenceHeld.loseReference (h : EvidenceHeld s) : EvidenceHeld (loseReference s) := by
  unfold Machine.loseReference
  split
  · exact h
  · have bad : EvidenceHeld (onRef (fun r => { r with state := .bad }) s) := h.congr rfl rfl rfl
    exact (bad.makeEvidence _).statusEvent

theorem EvidenceHeld.effect (h : EvidenceHeld s) (reset : ResetHeld s) (c : Instr) : EvidenceHeld (Machine.effect c s) := by
  cases c using command_cases with
  | quiet c k => exact (effect_quiet k s).evidence h
  | tap c k => exact h.tap k
  | group c k => exact h.group k
  | host c k => exact h.host k
  | deadline c tag k =>
    rw [k, handleTagged]
    split
    · split
      · exact (h.handleDeadline _).pruneSpans
      · exact h
    · exact h
  | powerOnReset straps => exact .clearBlocks straps s _
  | pinFall straps =>
    dsimp only [Machine.effect, Machine.pinFall]
    split
    · exact .clearBlocks straps s _
    · exact h.congr rfl rfl rfl
    · exact h
  | pinRise =>
    dsimp only [Machine.effect, Machine.pinRise]
    split
    · exact h
    · exact h.congr rfl rfl rfl
    · exact .leaveReset reset (by simp [*]) _ _
  | lockWaitEnd => exact h.lockWaitEnd reset
  | lockEvent =>
    dsimp only [Machine.effect, Machine.lockEvent]
    split
    · split
      · exact h.changeOsc _
      · exact h
    · have moved : EvidenceHeld (setOsc .locked s) := h.congr rfl rfl rfl
      exact moved.lockWaitEnd (reset.setOsc (by simp [*]) _)
    · exact h.congr rfl rfl rfl
  | lossOfLock =>
    dsimp only [Machine.effect, Machine.lossOfLock]
    split
    · split
      · exact h.changeOsc _
      · exact h
    all_goals exact h.congr rfl rfl rfl
  | slewExpiry => dsimp only [Machine.effect, slewExpiry]; split <;> exact h.congr rfl rfl rfl
  | readComplete window order =>
    dsimp only [Machine.effect]
    unfold readComplete
    split
    · unfold decidePulse
      split
      · unfold acceptPulse
        dsimp only
        split
        · exact h
        · have accepted : ∀ f, EvidenceHeld (onRef f s) := fun _ => h.congr rfl rfl rfl
          exact ((accepted _).applyMove _).runOrder _ _ _ _
      · have decided : ∀ f, EvidenceHeld (onRef f s) := fun _ => h.congr rfl rfl rfl
        exact (rejectPulse_quiet _ _ _).evidence (decided _)
    · exact h
  | lossTimeout =>
    dsimp only [Machine.effect, lossTimeout]
    split
    · have expired : EvidenceHeld (onRef Ref.expire s) := h.congr rfl rfl rfl
      refine EvidenceHeld.loseReference ?_
      unfold lossAtTsu
      split
      · have lost : ∀ tsu, EvidenceHeld { onRef Ref.expire s with tsu := tsu } := fun _ => h.congr rfl rfl rfl
        exact EvidenceHeld.act ((lost _).act _) _
      · exact expired
    · exact h
  | holdoverSecond => exact h.secondIn _
  | mergeRelease => exact h.release
  | setTime order =>
    refine takeRequest_keeps h fun _ => ?_
    unfold takeSetTime acceptSetTime
    dsimp only
    split
    · exact h.answer _ _
    · split
      · exact h.answer _ _
      · split
        · exact h
        · exact ((h.applyMove _).runOrder _ _ _ _).answer _ _
  | configDiscipline =>
    refine takeRequest_keeps h fun _ => ?_
    unfold takeDiscipline
    split
    · exact h.answer _ _
    · have set : ∀ tsu, EvidenceHeld { s with tsu := tsu } := fun _ => h.congr rfl rfl rfl
      exact ((set _).makeEvidence _).answer _ _
  | configTrace =>
    refine takeRequest_keeps h fun _ => ?_
    unfold takeTrace applyTrace
    split
    · exact h.answer _ _
    · dsimp only
      refine EvidenceHeld.answer (EvidenceHeld.evaluate (EvidenceHeld.makeEvidence ?_ _)) _ _
      exact h.congr rfl rfl rfl
  | tick => exact h.congr rfl rfl rfl

/-! ### The law of the class in force (R52, R56) -/

/-- The law speaks of the monitor, the timescale state and the oscillator state alone. -/
theorem ClassHeld.congr {t : State} (h : ClassHeld s) (div : t.div = s.div) (ts : t.tsu.state = s.tsu.state)
    (osc : t.osc.state = s.osc.state) : ClassHeld t := by
  simpa [ClassHeld, div, ts, osc] using h

theorem ClassHeld.of_cleared (div : s.div = Div.cleared) : ClassHeld s := by
  rw [ClassHeld, div]
  exact ⟨Nat.zero_le _, by decide⟩

theorem Div.bound_le (d : Div) (ts : TsState) (o : OscState) : d.bound ts o ≤ 4294967295 := by
  unfold Div.bound
  split
  · exact Nat.le_refl 4294967295
  · exact min_le_left _ _
  · split
    · exact min_le_left _ _
    · exact Nat.le_refl 4294967295

theorem Div.nextTarget_rank_le (d : Div) (c : Cls) : (d.nextTarget c).rank ≤ c.rank := by
  unfold Div.nextTarget
  split
  · exact Nat.le_refl _
  · unfold Cls.low
    split
    · assumption
    · exact Nat.le_refl _

/-- A downgrade takes the class down to the capped one, and an upgrade never passes it (R52). -/
theorem Div.hysteresis_rank_le (d : Div) (c : Cls) : (d.hysteresis c).cls.rank ≤ c.rank := by
  unfold Div.hysteresis
  split
  · exact Nat.le_refl _
  · have le : d.cls.rank ≤ c.rank := Nat.le_of_not_lt ‹_›
    split
    · exact le
    · split
      · exact le
      · exact d.nextTarget_rank_le c

theorem Div.evaluate_cls_le (d : Div) (ts : TsState) (o : OscState) :
    (d.evaluate ts o).cls.rank ≤ (d.evaluate ts o).capped.rank := by
  conv_lhs => rw [Div.evaluate_eq_hysteresis]
  exact Div.hysteresis_rank_le _ _

theorem Div.evaluate_trace (d : Div) (ts : TsState) (o : OscState) : (d.evaluate ts o).trace = d.trace := by
  rw [Div.evaluate_frame]

/-- An evaluation in the timescale state in force brings the class under the law, whatever it was. -/
theorem ClassHeld.evaluate (s : State) : ClassHeld (evaluate s) := by
  unfold ClassHeld
  rw [evaluate_div, evaluate_tsu, evaluate_osc, Div.evaluate_trace]
  refine ⟨?_, ?_⟩
  · have le := s.div.evaluate_cls_le s.tsu.state s.osc.state
    rwa [Div.evaluate_capped, Div.evaluate_raw] at le
  · rw [Div.evaluate_u]
    exact s.div.bound_le _ _

theorem ClassHeld.quiet {t : State} (h : ClassHeld s) (q : Quiet s t) : ClassHeld t :=
  h.congr q.div (by rw [q.tsu]) (by rw [q.osc])

/-! ### The class through the reports of a pulse or a SET_TIME -/

/-- The report that evaluates: the pulse's or the entry's into HOLDOVER. -/
def Report.evaluates : Report → Bool
  | .pulse _ _ | .holdover _ => true
  | _ => false

/-- What the law needs between the reports of a step, so that a holdover second does not break it: the spell of HOLDOVER that the step
ends has ended. -/
def ClassSettled (old : TsState) (s : State) : Prop := ClassHeld s ∧ (old = .holdover → s.div.base = none)

theorem ClassSettled.congr {old : TsState} {t : State} (h : ClassSettled old s) (div : t.div = s.div)
    (ts : t.tsu.state = s.tsu.state) (osc : t.osc.state = s.osc.state) : ClassSettled old t :=
  ⟨h.1.congr div ts osc, fun e => by rw [div]; exact h.2 e⟩

theorem act_frame_of_not_evaluates {r : Report} (k : r.evaluates = false) (s : State) :
    (r.act s).div = s.div ∧ (r.act s).tsu = s.tsu ∧ (r.act s).osc = s.osc := by
  cases r
  case pulse | holdover => exact nomatch k
  all_goals simp [Report.act]

/-- The pulse's report ends the spell; the entry's report begins one, and no spell stood before it. -/
theorem ClassSettled.of_evaluates {old : TsState} {r : Report} (k : r.evaluates = true)
    (fresh : ∀ u0, r = .holdover u0 → old ≠ .holdover) : ClassSettled old (r.act s) := by
  cases r
  case pulse uMod theta =>
    refine ⟨.evaluate _, fun _ => ?_⟩
    show (Machine.evaluate _).div.base = none
    rw [evaluate_div, Div.evaluate_frame]
  case holdover u0 => exact ⟨.evaluate _, fun e => absurd e (fresh u0 rfl)⟩
  all_goals exact nomatch k

theorem ClassSettled.act {old : TsState} (h : ClassSettled old s) {r : Report}
    (fresh : ∀ u0, r = .holdover u0 → old ≠ .holdover) : ClassSettled old (r.act s) := by
  by_cases k : r.evaluates = true
  · exact .of_evaluates k fresh
  · obtain ⟨div, tsu, osc⟩ := act_frame_of_not_evaluates (Bool.eq_false_iff.mpr k) s
    exact h.congr div (by rw [tsu]) (by rw [osc])

theorem ClassSettled.second {old : TsState} (h : ClassSettled old s) : ClassSettled old (secondBefore old s) := by
  unfold secondBefore
  split
  · have idle : holdoverDue s = false := by rw [holdoverDue, h.2 ‹_›]
    rw [secondIn, idle]
    exact h
  · exact h

theorem ClassSettled.groupRequest {old : TsState} (h : ClassSettled old s) : ClassSettled old (takeGroupRequest s) :=
  h.congr (by simp) (by rw [takeGroupRequest_frame]) (by simp)

/-- What the reports still to come owe: none of them begins a second spell, and where the class is not settled yet, one of them
evaluates. -/
def ReportsSettle (old : TsState) (rs : List Report) (s : State) : Prop :=
  (∀ u0, .holdover u0 ∈ rs → old ≠ .holdover) ∧ (ClassSettled old s ∨ ∃ r ∈ rs, r.evaluates = true)

namespace ReportsSettle

variable {old : TsState} {r : Report} {rs : List Report}

theorem settled (h : ReportsSettle old [] s) : ClassSettled old s := by
  obtain ⟨-, settled | ⟨r, mem, -⟩⟩ := h
  · exact settled
  · exact nomatch mem

theorem report (h : ReportsSettle old (r :: rs) s) : ReportsSettle old rs (r.act s) := by
  obtain ⟨fresh, owed⟩ := h
  have head : ∀ u0, r = .holdover u0 → old ≠ .holdover := fun u0 e => fresh u0 (e ▸ List.mem_cons_self)
  refine ⟨fun u0 mem => fresh u0 (List.mem_cons_of_mem _ mem), ?_⟩
  obtain settled | ⟨r', mem, evaluates⟩ := owed
  · exact .inl (settled.act head)
  · obtain rfl | tail := List.mem_cons.mp mem
    · exact .inl (.of_evaluates evaluates head)
    · exact .inr ⟨r', tail, evaluates⟩

theorem other {t : State} (h : ReportsSettle old rs s) (keeps : ClassSettled old s → ClassSettled old t) : ReportsSettle old rs t :=
  ⟨h.1, h.2.imp_left keeps⟩

theorem fold (h : ReportsSettle old rs s) : ClassSettled old (rs.foldl (fun t r => r.act t) s) := by
  induction rs generalizing s with
  | nil => exact h.settled
  | cons r rs ih => exact ih h.report

/-- The reports of a step leave the class settled in every order of the tick's acts. -/
theorem runStep (h : ReportsSettle old rs s) (ps : List Pick) : ClassSettled old (Machine.runStep old ps rs s) := by
  induction ps generalizing rs s with
  | nil =>
    show ClassSettled old (summaryStep (cascade noticePlaces _))
    exact h.fold.congr (by simp) (by simp) (by simp)
  | cons p ps ih =>
    cases p with
    | report =>
      cases rs with
      | nil => exact ih h
      | cons r rs => exact ih h.report
    | deadline => exact ih (h.other fun k => k.congr (by simp) (by simp) (by simp))
    | summary => exact ih (h.other fun k => k.congr (by simp) (by simp) (by simp))
    | second => exact ih (h.other fun k => k.second)
    | groupRequest => exact ih (h.other fun k => k.groupRequest)
    | request => exact h.fold

theorem runOrder (h : ReportsSettle old rs s) (step : Option Nat) (ps : List Pick) :
    ClassHeld (Machine.runOrder step old ps rs s) := by
  cases step with
  | none => exact h.fold.1
  | some S => exact (h.runStep ps).1

/-- The reports of a pulse hold its own, and no entry into HOLDOVER. -/
theorem pulse (before : Tsu) (run : Option Nat) (uMod leap : Nat) (theta : Int) (m : Move) (s : State) :
    ReportsSettle old (pulseReports before run uMod leap theta m) s := by
  refine ⟨fun u0 mem => ?_, .inr ⟨.pulse uMod theta, ?_, rfl⟩⟩
  · simp only [pulseReports, List.mem_append] at mem
    obtain ((((mem | mem) | mem) | mem) | mem) | mem := mem <;> (try split at mem) <;> simp at mem
  · simp only [pulseReports, List.mem_append, List.mem_singleton]
    exact .inl (.inr trivial)

/-- The reports of a SET_TIME, which leaves UNSET. -/
theorem entry (new : TsState) (step : Option Nat) (u0 : Nat) (s : State) :
    ReportsSettle .unset [.timescale .unset new step, .holdover u0] s :=
  ⟨fun _ _ => nofun, .inr ⟨.holdover u0, List.mem_cons_of_mem _ List.mem_cons_self, rfl⟩⟩

end ReportsSettle

theorem ClassHeld.readComplete (h : ClassHeld s) (window : List Byte) (order : List Pick) : ClassHeld (readComplete window order s) := by
  unfold Machine.readComplete
  split
  · unfold decidePulse
    split
    · unfold acceptPulse
      dsimp only
      split
      · exact h
      · exact (ReportsSettle.pulse ..).runOrder _ _
    · exact h.quiet ((Quiet.onRef _ s).trans (rejectPulse_quiet _ _ _))
  · exact h

theorem ClassHeld.takeSetTime (h : ClassHeld s) (order : List Pick) (b : List Byte) : ClassHeld (takeSetTime order b s) := by
  unfold Machine.takeSetTime acceptSetTime
  dsimp only
  split
  · exact h.quiet (.answer _ _ s)
  · have unset : s.tsu.state = .unset := not_not.mp ‹_›
    split
    · exact h.quiet (.answer _ _ s)
    · split
      · exact h
      · rw [unset]
        exact ClassHeld.quiet ((ReportsSettle.entry ..).runOrder _ _) (.answer _ _ _)

theorem ClassHeld.changeOsc (o : OscState) (s : State) : ClassHeld (changeOsc o s) :=
  (ClassHeld.evaluate _).quiet (.statusEvent _)

theorem ClassHeld.lossTimeout (h : ClassHeld s) : ClassHeld (lossTimeout s) := by
  unfold Machine.lossTimeout
  split
  · have atTsu : ClassHeld (lossAtTsu (onRef Ref.expire s)) := by
      unfold lossAtTsu
      split
      · exact .evaluate _
      · exact h.quiet (.onRef _ s)
    unfold loseReference
    split
    · exact atTsu
    · exact atTsu.quiet ((Quiet.onRef _ _).trans ((Quiet.makeEvidence _ _).trans (.statusEvent _)))
  · exact h

theorem ClassHeld.lockWaitEnd (h : ClassHeld s) : ClassHeld (endLockWait s) :=
  h.congr (by rw [endLockWait_frame]) (by rw [endLockWait_frame]) (by rw [endLockWait]; (repeat' split) <;> rfl)

theorem ClassHeld.effect (h : ClassHeld s) (reset : ResetHeld s) (c : Instr) : ClassHeld (Machine.effect c s) := by
  have held : s.osc.phase ≠ .running → ∀ o, ClassHeld (setOsc o s) := fun k o => .of_cleared (reset.div k)
  cases c using command_cases with
  | quiet c k => exact h.quiet (effect_quiet k s)
  | tap c k => exact h.congr (by rw [effect_tapFrame s k]) (by rw [effect_tapFrame s k]) (by rw [effect_tapFrame s k])
  | group c k => exact h.congr (by rw [effect_groupFrame s k]) (by rw [effect_groupFrame s k]) (by rw [effect_groupFrame s k])
  | host c k => exact h.congr (by rw [effect_hostFrame s k]) (by rw [effect_hostFrame s k]) (by rw [effect_hostFrame s k])
  | deadline c tag k => exact h.congr (by simp [k]) (by simp [k]) (by simp [k])
  | powerOnReset straps => exact .of_cleared rfl
  | pinFall straps =>
    dsimp only [Machine.effect, Machine.pinFall]
    split
    · exact .of_cleared rfl
    · exact h.congr rfl rfl rfl
    · exact h
  | pinRise => dsimp only [Machine.effect, Machine.pinRise]; split <;> exact h.congr rfl rfl rfl
  | lockWaitEnd => exact h.lockWaitEnd
  | lockEvent =>
    dsimp only [Machine.effect, Machine.lockEvent]
    split
    · split
      · exact .changeOsc _ s
      · exact h
    · exact (held (by simp [*]) _).lockWaitEnd
    · exact held (by simp [*]) _
  | lossOfLock =>
    dsimp only [Machine.effect, Machine.lossOfLock]
    split
    · split
      · exact .changeOsc _ s
      · exact h
    all_goals exact held (by simp [*]) _
  | slewExpiry => dsimp only [Machine.effect, slewExpiry]; split <;> exact h.congr rfl rfl rfl
  | readComplete window order => exact h.readComplete window order
  | lossTimeout => exact h.lossTimeout
  | holdoverSecond =>
    dsimp only [Machine.effect]
    unfold secondIn
    split
    · exact .evaluate _
    · exact h
  | mergeRelease => exact h.congr (by simp [Machine.effect]) (by simp [Machine.effect]) (by simp [Machine.effect])
  | setTime order => exact takeRequest_keeps h fun _ => h.takeSetTime order _
  | configDiscipline =>
    refine takeRequest_keeps h fun _ => ?_
    unfold takeDiscipline
    split <;> exact h.congr (by simp) (by simp) (by simp)
  | configTrace =>
    refine takeRequest_keeps h fun _ => ?_
    unfold takeTrace
    split
    · exact h.quiet (.answer _ _ s)
    · exact (ClassHeld.evaluate _).quiet (.answer _ _ _)
  | tick => exact h.congr rfl rfl rfl

/-- Settles O56: each command by what it may change, and the reports of a step by what they still owe the class. -/
theorem steps_keep_reservations_and_the_class_law : Obligations.steps_keep_reservations_and_the_class_law :=
  fun _ _ reset evidence cls h =>
    step_keeps (P := fun s => ResetHeld s ∧ EvidenceHeld s ∧ ClassHeld s)
      (fun _ l ⟨reset, evidence, cls⟩ => ⟨reset.setPending l, evidence.congr rfl rfl rfl, cls.congr rfl rfl rfl⟩)
      (fun c _ ⟨reset, evidence, cls⟩ takes => ⟨reset.effect takes, evidence.effect reset c, cls.effect reset c⟩)
      ⟨reset, evidence, cls⟩ h

end Sys2Proof.Machine
end

section
/-! SUPPORT. The segments and where their indexes stand, the places of the buffers, and the statement that every step keeps them (R69, R83,
R86, R98, R142 to R148, R161). -/

namespace Sys2Proof.Machine

/-! ### A value for each stream -/

@[simp] theorem PerStream.get_put_same {α : Type} (t : PerStream α) (st : Stream) (x : α) : (t.put st x).get st = x := by
  cases st <;> rfl

theorem PerStream.get_put_other {α : Type} (t : PerStream α) {st st' : Stream} (h : st' ≠ st) (x : α) :
    (t.put st x).get st' = t.get st' := by
  cases st <;> cases st' <;> first | rfl | exact absurd rfl h

theorem PerStream.get_put {α : Type} (t : PerStream α) (st st' : Stream) (x : α) :
    (t.put st x).get st' = if st' = st then x else t.get st' := by
  split
  · subst ‹st' = st›
    exact t.get_put_same _ x
  · exact t.get_put_other ‹_› x

/-! ### Where the indexes stand -/

/-- The segment copies agree with the lists, and the lists and the burst buffer fit their places. -/
structure Segments (a : Arc) (j : Jwr) : Prop where
  lentRoom : ∀ st, (a.lent.get st).length ≤ lentPlaces
  lentNodup : ∀ st, (a.lent.get st).Nodup
  lent : ∀ st, ∀ i ∈ a.lent.get st, ∃ c, a.copies[i] = some c ∧ c.kind = .journal st ∧ c.held = .lent ∧ 16 ≤ c.capacity
  opened : ∀ st seg, a.openSeg.get st = some seg →
    ∃ c, a.copies[seg.index] = some c ∧ c.kind = .journal st ∧ c.held = .opened ∧ seg.fill ≤ c.capacity
  burst : ∀ st, j.phase = .inFlight st →
    ∃ seg c, a.openSeg.get st = some seg ∧ a.copies[seg.index] = some c ∧ seg.fill + j.records.length ≤ c.capacity
  burstRoom : j.records.length ≤ burstRecords
  emptied : j.phase = .empty → j.records = []
  closingNodup : ∀ st, ((a.closing.get st).map ClosingSeg.index).Nodup
  closing : ∀ st, ∀ x ∈ a.closing.get st,
    ∃ c, a.copies[x.index] = some c ∧ c.kind = .journal st ∧ c.held = .closing ∧ x.fill ≤ c.capacity
  requestRoom : a.requests.length ≤ requestPlaces
  requests : ∀ i ∈ a.requests, ∃ c, a.copies[i] = some c ∧ c.kind = .request
  hand : ∀ i, a.hand = some i → a.copies[i] = none

/-- The segments of a part: the lists with the copies, and the current request segment among those queued. -/
def HostHeld (s : State) : Prop := Segments s.arc s.jwr ∧ ∀ i, s.rqp.cur = some i → i ∈ s.arc.requests

theorem segmentsHeld_iff {s : State} (notices : s.auc.notices.length ≤ noticePlaces) :
    QueuesHeld s ∧ SegmentsHeld s ↔ HostHeld s := by
  constructor
  · rintro ⟨⟨-, lentRoom, requestRoom, burstRoom, emptied⟩, lent, opened, inFlight, closing, requests, cur, hand⟩
    refine ⟨⟨lentRoom, fun st => (lent st).1, fun st => (lent st).2, fun st seg h => ?_, fun st h => ?_, burstRoom, emptied,
      fun st => (closing st).1, fun st => (closing st).2, requestRoom, requests, hand⟩, cur⟩
    · obtain ⟨c, copy, kind, held, fill, -⟩ := opened st seg h
      exact ⟨c, copy, kind, held, fill⟩
    · obtain ⟨seg, some⟩ := Option.isSome_iff_exists.mp (inFlight st h)
      obtain ⟨c, copy, -, -, -, burst⟩ := opened st seg some
      exact ⟨seg, c, some, copy, burst h⟩
  · rintro ⟨h, cur⟩
    refine ⟨⟨notices, h.lentRoom, h.requestRoom, h.burstRoom, h.emptied⟩, fun st => ⟨h.lentNodup st, h.lent st⟩, fun st seg some => ?_,
      fun st phase => ?_, fun st => ⟨h.closingNodup st, h.closing st⟩, h.requests, cur, h.hand⟩
    · obtain ⟨c, copy, kind, held, fill⟩ := h.opened st seg some
      refine ⟨c, copy, kind, held, fill, fun phase => ?_⟩
      obtain ⟨seg', c', some', copy', burst⟩ := h.burst st phase
      obtain rfl := Option.some.inj (some.symm.trans some')
      obtain rfl := Option.some.inj (copy.symm.trans copy')
      exact burst
    · obtain ⟨seg, c, some, -, -⟩ := h.burst st phase
      rw [some]
      rfl

/-- No list names the index. -/
structure Arc.Free (a : Arc) (i : Fin 64) : Prop where
  lent : ∀ st, i ∉ a.lent.get st
  opened : ∀ st seg, a.openSeg.get st = some seg → seg.index ≠ i
  closing : ∀ st, ∀ x ∈ a.closing.get st, x.index ≠ i
  requests : i ∉ a.requests

theorem Arc.copy_putCopy_same (a : Arc) (i : Fin 64) (x : Option SegCopy) : (a.putCopy i x).copies[i] = x := by
  simp [Arc.putCopy]

theorem Arc.copy_putCopy_other (a : Arc) {i k : Fin 64} (h : k ≠ i) (x : Option SegCopy) :
    (a.putCopy i x).copies[k] = a.copies[k] := by
  simp only [Arc.putCopy]
  exact Vector.getElem_set_ne _ _ fun e => h (Fin.ext e.symm)

theorem Arc.hold_of_copy {a : Arc} {i : Fin 64} {c : SegCopy} (copy : a.copies[i] = some c) (held : HeldState) :
    a.hold i held = a.putCopy i (some { c with held := held }) := by
  rw [Arc.hold, copy]
  rfl

namespace Segments

variable {a b : Arc} {j : Jwr} {st : Stream} {i : Fin 64}

/-- Lists that lose members, a HAND that is dropped, and a stream whose open segment goes and has no burst in flight. -/
theorem shrink (h : Segments a j) (copies : b.copies = a.copies) (lent : ∀ st, (b.lent.get st).Sublist (a.lent.get st))
    (opened : ∀ st seg, b.openSeg.get st = some seg → a.openSeg.get st = some seg)
    (burst : ∀ st, j.phase = .inFlight st → b.openSeg.get st = a.openSeg.get st)
    (closing : ∀ st, (b.closing.get st).Sublist (a.closing.get st)) (requests : b.requests.Sublist a.requests)
    (hand : ∀ i, b.hand = some i → a.hand = some i) : Segments b j where
  lentRoom st := (lent st).length_le.trans (h.lentRoom st)
  lentNodup st := (h.lentNodup st).sublist (lent st)
  lent st i mem := copies ▸ h.lent st i ((lent st).subset mem)
  opened st seg some := copies ▸ h.opened st seg (opened st seg some)
  burst st phase := by
    rw [burst st phase, copies]
    exact h.burst st phase
  burstRoom := h.burstRoom
  emptied := h.emptied
  closingNodup st := (h.closingNodup st).sublist ((closing st).map _)
  closing st x mem := copies ▸ h.closing st x ((closing st).subset mem)
  requestRoom := requests.length_le.trans h.requestRoom
  requests i mem := copies ▸ h.requests i (requests.subset mem)
  hand i some := copies ▸ h.hand i (hand i some)

theorem congr (h : Segments a j) (copies : b.copies = a.copies) (lent : b.lent = a.lent) (openSeg : b.openSeg = a.openSeg)
    (closing : b.closing = a.closing) (requests : b.requests = a.requests) (hand : b.hand = a.hand) : Segments b j :=
  h.shrink copies (fun _ => lent ▸ .refl _) (fun _ _ k => openSeg ▸ k) (fun _ _ => by rw [openSeg]) (fun _ => closing ▸ .refl _)
    (requests ▸ .refl _) (fun _ k => hand ▸ k)

/-- The copy of an index that no list names, and that no HAND names unless the copy goes. -/
theorem putCopy (h : Segments a j) (free : a.Free i) (x : Option SegCopy) (hand : a.hand = some i → x = none) :
    Segments (a.putCopy i x) j where
  lentRoom := h.lentRoom
  lentNodup := h.lentNodup
  lent st k mem := by
    have ne : k ≠ i := fun e => free.lent st (e ▸ mem)
    rw [a.copy_putCopy_other ne]
    exact h.lent st k mem
  opened st seg some := by
    rw [a.copy_putCopy_other (free.opened st seg some)]
    exact h.opened st seg some
  burst st phase := by
    obtain ⟨seg, c, some, copy, burst⟩ := h.burst st phase
    exact ⟨seg, c, some, (a.copy_putCopy_other (free.opened st seg some) _).trans copy, burst⟩
  burstRoom := h.burstRoom
  emptied := h.emptied
  closingNodup := h.closingNodup
  closing st k mem := by
    rw [a.copy_putCopy_other (free.closing st k mem)]
    exact h.closing st k mem
  requestRoom := h.requestRoom
  requests k mem := by
    have ne : k ≠ i := fun e => free.requests (e ▸ mem)
    rw [a.copy_putCopy_other ne]
    exact h.requests k mem
  hand k some := by
    by_cases e : k = i
    · subst e
      rw [a.copy_putCopy_same]
      exact hand some
    · rw [a.copy_putCopy_other e]
      exact h.hand k some

/-- An index without a copy stands in no list. -/
theorem free_of_none (h : Segments a j) (none : a.copies[i] = none) : a.Free i where
  lent st mem := by
    obtain ⟨c, copy, -⟩ := h.lent st i mem
    exact nomatch none.symm.trans copy
  opened st seg some e := by
    subst e
    obtain ⟨c, copy, -⟩ := h.opened st seg some
    exact nomatch none.symm.trans copy
  closing st x mem e := by
    subst e
    obtain ⟨c, copy, -⟩ := h.closing st x mem
    exact nomatch none.symm.trans copy
  requests mem := by
    obtain ⟨c, copy, -⟩ := h.requests i mem
    exact nomatch none.symm.trans copy

/-- An index whose copy is of a journal stands in the list of its held state, if in any. -/
theorem free_of_copy (h : Segments a j) {c : SegCopy} (copy : a.copies[i] = some c)
    (lent : ∀ st, c.kind = .journal st → c.held = .lent → i ∉ a.lent.get st)
    (opened : ∀ st, c.kind = .journal st → c.held = .opened → ∀ seg, a.openSeg.get st = some seg → seg.index ≠ i)
    (closing : ∀ st, c.kind = .journal st → c.held = .closing → ∀ x ∈ a.closing.get st, x.index ≠ i)
    (requests : c.kind = .request → i ∉ a.requests) : a.Free i where
  lent st mem := by
    obtain ⟨c', copy', kind, held, -⟩ := h.lent st i mem
    obtain rfl := Option.some.inj (copy.symm.trans copy')
    exact lent st kind held mem
  opened st seg some e := by
    subst e
    obtain ⟨c', copy', kind, held, -⟩ := h.opened st seg some
    obtain rfl := Option.some.inj (copy.symm.trans copy')
    exact opened st kind held seg some rfl
  closing st x mem e := by
    subst e
    obtain ⟨c', copy', kind, held, -⟩ := h.closing st x mem
    obtain rfl := Option.some.inj (copy.symm.trans copy')
    exact closing st kind held x mem rfl
  requests mem := by
    obtain ⟨c', copy', kind⟩ := h.requests i mem
    obtain rfl := Option.some.inj (copy.symm.trans copy')
    exact requests kind mem

/-- A HAND names no index that has a copy. -/
theorem hand_ne (h : Segments a j) {c : SegCopy} (copy : a.copies[i] = some c) {P : Prop} (hand : a.hand = some i) : P :=
  nomatch (h.hand i hand).symm.trans copy

theorem addLent (h : Segments a j) {c : SegCopy} (copy : a.copies[i] = some c) (kind : c.kind = .journal st) (held : c.held = .lent)
    (capacity : 16 ≤ c.capacity) (fresh : i ∉ a.lent.get st) (room : (a.lent.get st).length < lentPlaces) :
    Segments { a with lent := a.lent.put st (a.lent.get st ++ [i]) } j where
  lentRoom st' := by
    show ((a.lent.put st _).get st').length ≤ _
    rw [PerStream.get_put]
    split
    · rw [List.length_append, List.length_singleton]
      exact room
    · exact h.lentRoom st'
  lentNodup st' := by
    show ((a.lent.put st _).get st').Nodup
    rw [PerStream.get_put]
    split
    · exact List.nodup_append.mpr ⟨h.lentNodup st, List.nodup_singleton i, fun x mem y single e =>
        fresh (List.mem_singleton.mp single ▸ e ▸ mem)⟩
    · exact h.lentNodup st'
  lent st' k mem := by
    replace mem : k ∈ (a.lent.put st _).get st' := mem
    rw [PerStream.get_put] at mem
    split at mem
    · subst ‹st' = st›
      obtain mem | single := List.mem_append.mp mem
      · exact h.lent st' k mem
      · obtain rfl := List.mem_singleton.mp single
        exact ⟨c, copy, kind, held, capacity⟩
    · exact h.lent st' k mem
  opened := h.opened
  burst := h.burst
  burstRoom := h.burstRoom
  emptied := h.emptied
  closingNodup := h.closingNodup
  closing := h.closing
  requestRoom := h.requestRoom
  requests := h.requests
  hand := h.hand

theorem addRequest (h : Segments a j) {c : SegCopy} (copy : a.copies[i] = some c) (kind : c.kind = .request)
    (room : a.requests.length < requestPlaces) : Segments { a with requests := a.requests ++ [i] } j where
  requestRoom := by
    show (a.requests ++ [i]).length ≤ _
    rw [List.length_append, List.length_singleton]
    exact room
  requests k mem := by
    obtain mem | single := List.mem_append.mp mem
    · exact h.requests k mem
    · obtain rfl := List.mem_singleton.mp single
      exact ⟨c, copy, kind⟩
  lentRoom := h.lentRoom
  lentNodup := h.lentNodup
  lent := h.lent
  opened := h.opened
  burst := h.burst
  burstRoom := h.burstRoom
  emptied := h.emptied
  closingNodup := h.closingNodup
  closing := h.closing
  hand := h.hand

theorem putOpen (h : Segments a j) {seg : OpenSeg} {c : SegCopy} (copy : a.copies[seg.index] = some c) (kind : c.kind = .journal st)
    (held : c.held = .opened) (fill : seg.fill ≤ c.capacity) (idle : j.phase ≠ .inFlight st) : Segments (a.putOpen st (some seg)) j where
  opened st' seg' some := by
    replace some : (a.openSeg.put st _).get st' = _ := some
    rw [PerStream.get_put] at some
    split at some
    · subst ‹st' = st›
      obtain rfl := Option.some.inj some
      exact ⟨c, copy, kind, held, fill⟩
    · exact h.opened st' seg' some
  burst st' phase := by
    obtain ⟨seg', c', some, burst⟩ := h.burst st' phase
    have ne : st' ≠ st := fun e => idle (e ▸ phase)
    exact ⟨seg', c', (PerStream.get_put_other _ ne _).trans some, burst⟩
  lentRoom := h.lentRoom
  lentNodup := h.lentNodup
  lent := h.lent
  burstRoom := h.burstRoom
  emptied := h.emptied
  closingNodup := h.closingNodup
  closing := h.closing
  requestRoom := h.requestRoom
  requests := h.requests
  hand := h.hand

theorem addClosing (h : Segments a j) {x : ClosingSeg} {c : SegCopy} (copy : a.copies[x.index] = some c) (kind : c.kind = .journal st)
    (held : c.held = .closing) (fill : x.fill ≤ c.capacity) (fresh : ∀ y ∈ a.closing.get st, y.index ≠ x.index) :
    Segments { a with closing := a.closing.put st (a.closing.get st ++ [x]) } j where
  closingNodup st' := by
    show (((a.closing.put st _).get st').map _).Nodup
    rw [PerStream.get_put]
    split
    · rw [List.map_append]
      refine List.nodup_append.mpr ⟨h.closingNodup st, List.nodup_singleton _, fun k mem y single e => ?_⟩
      obtain ⟨z, zmem, rfl⟩ := List.mem_map.mp mem
      exact fresh z zmem (e.trans (List.mem_singleton.mp single))
    · exact h.closingNodup st'
  closing st' y mem := by
    replace mem : y ∈ (a.closing.put st _).get st' := mem
    rw [PerStream.get_put] at mem
    split at mem
    · subst ‹st' = st›
      obtain mem | single := List.mem_append.mp mem
      · exact h.closing st' y mem
      · obtain rfl := List.mem_singleton.mp single
        exact ⟨c, copy, kind, held, fill⟩
    · exact h.closing st' y mem
  lentRoom := h.lentRoom
  lentNodup := h.lentNodup
  lent := h.lent
  opened := h.opened
  burst := h.burst
  burstRoom := h.burstRoom
  emptied := h.emptied
  requestRoom := h.requestRoom
  requests := h.requests
  hand := h.hand

theorem setJwr (h : Segments a j) {j' : Jwr} (room : j'.records.length ≤ burstRecords) (emptied : j'.phase = .empty → j'.records = [])
    (burst : ∀ st, j'.phase = .inFlight st →
      ∃ seg c, a.openSeg.get st = some seg ∧ a.copies[seg.index] = some c ∧ seg.fill + j'.records.length ≤ c.capacity) : Segments a j' where
  burst := burst
  burstRoom := room
  emptied := emptied
  lentRoom := h.lentRoom
  lentNodup := h.lentNodup
  lent := h.lent
  opened := h.opened
  closingNodup := h.closingNodup
  closing := h.closing
  requestRoom := h.requestRoom
  requests := h.requests
  hand := h.hand


/-! ### Opening, closing and ending a segment -/

theorem hold {c : SegCopy} {held : HeldState} (copy : a.copies[i] = some c)
    (h : Segments (a.putCopy i (some { c with held := held })) j) : Segments (a.hold i held) j := by
  rwa [Arc.hold_of_copy copy]

/-- The oldest lent segment of a stream that has no burst in flight is opened (R146). -/
theorem openOldest (h : Segments a j) {rest : List (Fin 64)} (oldest : a.lent.get st = i :: rest) (idle : j.phase ≠ .inFlight st) :
    Segments ((({ a with lent := a.lent.put st rest }).putOpen st (some ⟨i, 0, none, none⟩)).hold i .opened) j := by
  have nodup := h.lentNodup st
  obtain ⟨c, copy, kind, held, capacity⟩ := h.lent st i (oldest ▸ List.mem_cons_self)
  rw [oldest] at nodup
  have lent : ∀ st', ((a.lent.put st rest).get st').Sublist (a.lent.get st') := by
    intro st'
    rw [PerStream.get_put]
    split
    · subst ‹st' = st›
      exact oldest ▸ List.sublist_cons_self i rest
    · exact .refl _
  have taken : Segments { a with lent := a.lent.put st rest } j :=
    h.shrink rfl lent (fun _ _ k => k) (fun _ _ => rfl) (fun _ => .refl _) (.refl _) fun _ k => k
  have free : Arc.Free { a with lent := a.lent.put st rest } i := by
    refine taken.free_of_copy copy (fun st' kind' _ mem => ?_) (fun _ _ k => nomatch held.symm.trans k)
      (fun _ _ k => nomatch held.symm.trans k) (fun k => nomatch kind.symm.trans k)
    obtain rfl := SegKind.journal.inj (kind.symm.trans kind')
    rw [show ({ a with lent := a.lent.put st rest } : Arc).lent.get st = rest from PerStream.get_put_same _ _ _] at mem
    exact (List.nodup_cons.mp nodup).1 mem
  refine .hold copy ?_
  have held := taken.putCopy free (some { c with held := .opened }) fun k => h.hand_ne copy k
  exact held.putOpen (seg := ⟨i, 0, none, none⟩) (Arc.copy_putCopy_same _ _ _) kind rfl (Nat.zero_le _) idle

/-- The segment of a stream taken from its place as open segment, no burst of it being in flight. -/
theorem unopen (h : Segments a j) (st : Stream) (idle : j.phase ≠ .inFlight st) : Segments (a.putOpen st none) j := by
  refine h.shrink rfl (fun _ => .refl _) (fun st' seg some => ?_) (fun st' phase => ?_) (fun _ => .refl _) (.refl _) fun _ k => k
  · replace some : (a.openSeg.put st none).get st' = _ := some
    rw [PerStream.get_put] at some
    split at some
    · exact nomatch some
    · exact some
  · have ne : st' ≠ st := fun e => idle (e ▸ phase)
    exact PerStream.get_put_other _ ne _

theorem free_of_unopened (h : Segments a j) {seg : OpenSeg} (some : a.openSeg.get st = some seg)
    (unopened : Segments (a.putOpen st none) j) : (a.putOpen st none).Free seg.index := by
  obtain ⟨c, copy, kind, held, -⟩ := h.opened st seg some
  refine unopened.free_of_copy copy (fun _ _ k => nomatch held.symm.trans k) (fun st' kind' _ seg' some' => ?_)
    (fun _ _ k => nomatch held.symm.trans k) (fun k => nomatch kind.symm.trans k)
  obtain rfl := SegKind.journal.inj (kind.symm.trans kind')
  replace some' : (a.openSeg.put st none).get st = _ := some'
  rw [PerStream.get_put_same] at some'
  exact nomatch some'

/-- The open segment of a stream enters CLOSING (R148). -/
theorem closeOpen (h : Segments a j) {seg : OpenSeg} (some : a.openSeg.get st = some seg) (idle : j.phase ≠ .inFlight st)
    {x : ClosingSeg} (index : x.index = seg.index) (fill : x.fill = seg.fill) :
    Segments ((({ a with closing := a.closing.put st (a.closing.get st ++ [x]) }).putOpen st none).hold seg.index .closing) j := by
  obtain ⟨c, copy, kind, held, capacity⟩ := h.opened st seg some
  have unopened := h.unopen st idle
  have free := h.free_of_unopened some unopened
  refine .hold copy ?_
  have moved := unopened.putCopy free (Option.some { c with held := .closing }) fun k => h.hand_ne copy k
  have atIndex : ((a.putOpen st none).putCopy seg.index (Option.some { c with held := .closing })).copies[x.index]
      = Option.some { c with held := .closing } := by
    simp only [index]
    exact Arc.copy_putCopy_same _ _ _
  exact moved.addClosing atIndex kind rfl (fill ▸ capacity) fun y mem e => free.closing st y mem (e.trans index)

/-- The open segment of a stream is FAULTED (R152). -/
theorem faultOpen (h : Segments a j) {seg : OpenSeg} (some : a.openSeg.get st = some seg) (idle : j.phase ≠ .inFlight st) :
    Segments ((a.putOpen st none).putCopy seg.index none) j :=
  (h.unopen st idle).putCopy (h.free_of_unopened some (h.unopen st idle)) none fun _ => rfl

/-- The oldest segment of a stream in CLOSING ends (R148, R153). -/
theorem release (h : Segments a j) {x : ClosingSeg} {rest : List ClosingSeg} (oldest : a.closing.get st = x :: rest) :
    Segments (a.release st rest x.index) j := by
  have nodup := h.closingNodup st
  obtain ⟨c, copy, kind, held, capacity⟩ := h.closing st x (oldest ▸ List.mem_cons_self)
  rw [oldest] at nodup
  have closing : ∀ st', ((a.closing.put st rest).get st').Sublist (a.closing.get st') := by
    intro st'
    rw [PerStream.get_put]
    split
    · subst ‹st' = st›
      exact oldest ▸ List.sublist_cons_self x rest
    · exact .refl _
  have taken : Segments { a with closing := a.closing.put st rest } j :=
    h.shrink rfl (fun _ => .refl _) (fun _ _ k => k) (fun _ _ => rfl) closing (.refl _) fun _ k => k
  refine taken.putCopy ?_ none fun _ => rfl
  refine taken.free_of_copy copy (fun _ _ k => nomatch held.symm.trans k) (fun _ _ k => nomatch held.symm.trans k)
    (fun st' kind' _ y mem e => ?_) (fun k => nomatch kind.symm.trans k)
  obtain rfl := SegKind.journal.inj (kind.symm.trans kind')
  rw [show ({ a with closing := a.closing.put st rest } : Arc).closing.get st = rest from PerStream.get_put_same _ _ _] at mem
  exact (List.nodup_cons.mp nodup).1 (e ▸ List.mem_map_of_mem mem)

/-- A segment queued for requests is in no journal stream's list. -/
theorem free_of_unqueued (h : Segments a j) (queued : i ∈ a.requests) (unqueued : Segments b j) (copies : b.copies = a.copies)
    (requests : i ∉ b.requests) : b.Free i := by
  obtain ⟨c, copy, kind⟩ := h.requests i queued
  have copy : b.copies[i] = some c := copies ▸ copy
  exact unqueued.free_of_copy copy (fun _ k => nomatch kind.symm.trans k) (fun _ k => nomatch kind.symm.trans k)
    (fun _ k => nomatch kind.symm.trans k) fun _ => requests

/-- The current request segment ends (R163, R164). -/
theorem endRequests (h : Segments a j) (queued : i ∈ a.requests) :
    Segments ({ a with requests := a.requests.filter (· ≠ i) }.putCopy i none) j := by
  have unqueued : Segments { a with requests := a.requests.filter (· ≠ i) } j :=
    h.shrink rfl (fun _ => .refl _) (fun _ _ k => k) (fun _ _ => rfl) (fun _ => .refl _) List.filter_sublist fun _ k => k
  exact unqueued.putCopy (h.free_of_unqueued queued unqueued rfl (by simp)) none fun _ => rfl

/-- The held state of a queued request segment moves (R161). -/
theorem holdRequests (h : Segments a j) (queued : i ∈ a.requests) (held : HeldState) : Segments (a.hold i held) j := by
  obtain ⟨c, copy, kind⟩ := h.requests i queued
  have journal : ∀ {k : Fin 64} {c' : SegCopy} {st : Stream}, a.copies[k] = some c' → c'.kind = .journal st → k ≠ i := by
    rintro k c' st copy' kind' rfl
    obtain rfl := Option.some.inj (copy.symm.trans copy')
    exact nomatch kind.symm.trans kind'
  rw [Arc.hold_of_copy copy]
  refine ⟨h.lentRoom, h.lentNodup, fun st k mem => ?_, fun st seg some => ?_, fun st phase => ?_, h.burstRoom, h.emptied,
    h.closingNodup, fun st x mem => ?_, h.requestRoom, fun k mem => ?_, fun k some => ?_⟩
  · obtain ⟨c', copy', kind', rest⟩ := h.lent st k mem
    exact ⟨c', (a.copy_putCopy_other (journal copy' kind') _).trans copy', kind', rest⟩
  · obtain ⟨c', copy', kind', rest⟩ := h.opened st seg some
    exact ⟨c', (a.copy_putCopy_other (journal copy' kind') _).trans copy', kind', rest⟩
  · obtain ⟨seg, c', some, copy', rest⟩ := h.burst st phase
    obtain ⟨c'', copy'', kind', -⟩ := h.opened st seg some
    exact ⟨seg, c', some, (a.copy_putCopy_other (journal copy'' kind') _).trans copy', rest⟩
  · obtain ⟨c', copy', kind', rest⟩ := h.closing st x mem
    exact ⟨c', (a.copy_putCopy_other (journal copy' kind') _).trans copy', kind', rest⟩
  · by_cases e : k = i
    · subst e
      exact ⟨_, a.copy_putCopy_same _ _, kind⟩
    · rw [a.copy_putCopy_other e]
      exact h.requests k mem
  · by_cases e : k = i
    · subst e
      exact h.hand_ne copy some
    · rw [a.copy_putCopy_other e]
      exact h.hand k some

end Segments

/-! ### The host-facing side -/

variable {s t : State}

theorem HostHeld.congr (h : HostHeld s) (copies : t.arc.copies = s.arc.copies) (lent : t.arc.lent = s.arc.lent)
    (openSeg : t.arc.openSeg = s.arc.openSeg) (closing : t.arc.closing = s.arc.closing) (requests : t.arc.requests = s.arc.requests)
    (hand : t.arc.hand = s.arc.hand) (jwr : t.jwr = s.jwr) (cur : t.rqp.cur = s.rqp.cur) : HostHeld t := by
  obtain ⟨segments, current⟩ := h
  refine ⟨jwr ▸ segments.congr copies lent openSeg closing requests hand, fun i k => ?_⟩
  rw [requests]
  exact current i (cur ▸ k)

theorem HostHeld.quiet (h : HostHeld s) (q : Quiet s t) : HostHeld t :=
  h.congr q.copies q.lent q.openSeg q.closing q.requests q.hand q.jwr q.cur

theorem HostHeld.withArc (h : HostHeld s) {arc : Arc} (segments : Segments arc s.jwr) (requests : s.arc.requests ⊆ arc.requests) :
    HostHeld { s with arc := arc } :=
  ⟨segments, fun i k => requests (h.2 i k)⟩

/-- A slot phase, an answer or a wait leaves the segments. -/
theorem HostHeld.answerCut (h : HostHeld s) (w : Wait) (fs : List Field) : HostHeld (answerCut w fs s) := by
  unfold Machine.answerCut
  split
  · exact h.quiet (.deliver _ _ s)
  · exact h

theorem HostHeld.openOldest (h : HostHeld s) (st : Stream) (idle : s.jwr.phase ≠ .inFlight st) : HostHeld (openOldest st s) := by
  unfold Machine.openOldest
  split
  · exact h
  · exact h.withArc (h.1.openOldest ‹_› idle) fun _ k => k

theorem HostHeld.closeOpen (h : HostHeld s) {st : Stream} {seg : OpenSeg} (some : s.arc.openSeg.get st = some seg)
    (idle : s.jwr.phase ≠ .inFlight st) (reason : SegReason) : HostHeld (closeOpen st seg reason s) :=
  h.withArc (h.1.closeOpen some idle rfl rfl) fun _ k => k

/-- A burst of records that fit the open segment is issued. -/
theorem HostHeld.sendBurst (h : HostHeld s) {st : Stream} {records : List Record} (room : records.length ≤ burstRecords)
    (fits : ∀ seg, s.arc.openSeg.get st = some seg → seg.fill + records.length ≤ segCapacity s seg.index) :
    HostHeld (sendBurst st records s) := by
  obtain ⟨segments, current⟩ := h
  unfold Machine.sendBurst
  split
  · exact ⟨segments, current⟩
  · rename_i seg some
    refine ⟨segments.setJwr room nofun fun st' phase => ?_, current⟩
    obtain rfl := BurstPhase.inFlight.inj phase
    obtain ⟨c, copy, -⟩ := segments.opened st seg some
    have fit := fits seg some
    rw [segCapacity, copy] at fit
    exact ⟨seg, c, some, copy, fit⟩

theorem openOldest_fits (h : HostHeld s) {st : Stream} {i : Fin 64} {rest : List (Fin 64)} (oldest : s.arc.lent.get st = i :: rest)
    {seg : OpenSeg} (some : (openOldest st s).arc.openSeg.get st = some seg) :
    seg.fill = 0 ∧ 16 ≤ segCapacity (openOldest st s) seg.index := by
  obtain ⟨c, copy, -, -, capacity⟩ := h.1.lent st i (oldest ▸ List.mem_cons_self)
  unfold openOldest at some ⊢
  rw [oldest] at some ⊢
  dsimp only at some ⊢
  replace some : (s.arc.openSeg.put st _).get st = _ := some
  rw [PerStream.get_put_same] at some
  obtain rfl := Option.some.inj some
  refine ⟨rfl, ?_⟩
  have held : ((({ s.arc with lent := s.arc.lent.put st rest }).putOpen st (Option.some ⟨i, 0, none, none⟩)).hold i .opened).copies[i]
      = Option.some { c with held := .opened } := by
    simp [Arc.hold, Arc.putCopy, Arc.putOpen, copy]
  rw [segCapacity]
  dsimp only
  rw [held]
  exact capacity

theorem HostHeld.burstStart (h : HostHeld s) : HostHeld (burstStart s) := by
  unfold Machine.burstStart
  split
  · exact h
  · rename_i st waiting
    split
    · refine (h.openOldest st (by simp [waiting])).sendBurst (h.1.burstRoom) fun seg some => ?_
      cases oldest : s.arc.lent.get st with
      | nil => simp_all
      | cons i rest =>
        obtain ⟨fill, capacity⟩ := openOldest_fits h oldest some
        have room := h.1.burstRoom
        rw [fill, Nat.zero_add]
        exact Nat.le_trans room capacity
    · exact h
  · rename_i empty
    split
    · rename_i st _
      have opened : HostHeld (withOpen st s) := by
        unfold withOpen
        split
        · exact h
        · exact h.openOldest st (by simp [empty])
      have taken : HostHeld (takeStaged st (burstCount (withOpen st s) st) (withOpen st s)) := opened
      unfold newBurst
      refine taken.sendBurst ?_ fun seg some => ?_
      · rw [List.length_take]
        refine (min_le_left _ _).trans ?_
        unfold burstCount
        split
        · exact min_le_left _ _
        · exact Nat.zero_le _
      · have some : (withOpen st s).arc.openSeg.get st = Option.some seg := some
        show seg.fill + _ ≤ segCapacity (withOpen st s) seg.index
        obtain ⟨c, copy, -, -, fill⟩ := opened.1.opened st seg some
        have count : burstCount (withOpen st s) st ≤ segCapacity (withOpen st s) seg.index - seg.fill := by
          rw [burstCount, some]
          exact (min_le_right _ _).trans (min_le_right _ _)
        have capacity : segCapacity (withOpen st s) seg.index = c.capacity := by rw [segCapacity, copy]
        rw [List.length_take]
        omega
    · exact h

theorem HostHeld.awaitTrailer (h : HostHeld s) (st : Stream) (i : Fin 64) : HostHeld (awaitTrailer st i s) := by
  unfold Machine.awaitTrailer
  split
  · exact h.congr rfl rfl rfl rfl rfl rfl rfl rfl
  · exact h

theorem HostHeld.emptyBuffer (h : HostHeld s) : HostHeld (emptyBuffer s) :=
  ⟨h.1.setJwr (Nat.zero_le _) (fun _ => rfl) nofun, h.2⟩

/-- A burst that succeeds leaves its records in the open segment. -/
theorem HostHeld.fillOpen (h : HostHeld s) {st : Stream} {seg : OpenSeg} (phase : s.jwr.phase = .inFlight st)
    (some : s.arc.openSeg.get st = some seg) :
    HostHeld { Machine.emptyBuffer s with arc := s.arc.putOpen st (Option.some (seg.taking s.jwr.records)) } := by
  obtain ⟨c, copy, kind, held, -⟩ := h.1.opened st seg some
  obtain ⟨seg', c', some', copy', fits⟩ := h.1.burst st phase
  obtain rfl := Option.some.inj (some.symm.trans some')
  obtain rfl := Option.some.inj (copy.symm.trans copy')
  exact ⟨h.emptyBuffer.1.putOpen (seg := seg.taking s.jwr.records) copy kind held fits nofun, h.2⟩

/-- A segment closed at once after a burst filled it further: what stood as open segment before is replaced first. -/
theorem closeOpen_emptied (st : Stream) (after : OpenSeg) (reason : SegReason) (s : State) :
    closeOpen st after reason (emptyBuffer s)
      = closeOpen st after reason { emptyBuffer s with arc := s.arc.putOpen st (some after) } := by
  cases st <;> rfl

theorem HostHeld.burstComplete (h : HostHeld s) (ok : Bool) : HostHeld (burstComplete ok s) := by
  unfold Machine.burstComplete
  split
  · rename_i st phase
    split
    · exact h
    · rename_i seg some
      have filled := h.fillOpen phase some
      refine HostHeld.quiet ?_ (.checkStarved _)
      split
      · split
        · unfold burstCloses
          refine HostHeld.awaitTrailer ?_ _ _
          rw [closeOpen_emptied]
          exact filled.closeOpen (PerStream.get_put_same _ _ _) nofun _
        · unfold burstFills
          dsimp only
          have raised := filled.quiet (.raise (newCause st) _)
          split
          · refine HostHeld.awaitTrailer (raised.closeOpen ?_ ?_ _) _ _
            · rw [raise_arc_openSeg]
              exact PerStream.get_put_same _ _ _
            · nofun
          · exact raised
      · unfold burstFails
        dsimp only
        refine HostHeld.answerCut (HostHeld.quiet ?_ (.raise _ _)) _ _
        have waits : HostHeld { s with jwr := { s.jwr with phase := .waiting st, writes := [] } } :=
          ⟨h.1.setJwr h.1.burstRoom nofun nofun, h.2⟩
        exact waits.withArc ((waits.1.faultOpen some nofun).congr rfl rfl rfl rfl rfl rfl) fun _ k => k
  all_goals exact h

theorem HostHeld.trailerComplete (h : HostHeld s) (st : Stream) (ok : Bool) : HostHeld (trailerComplete st ok s) := by
  unfold Machine.trailerComplete
  split
  · exact h
  · have ended := h.1.release ‹_›
    dsimp only
    split
    · refine HostHeld.answerCut (HostHeld.quiet ?_ ((Quiet.raise _ _).trans (.raise _ _))) _ _
      exact h.withArc ended fun _ k => k
    · refine HostHeld.answerCut (HostHeld.quiet ?_ (.raise _ _)) _ _
      exact h.withArc (ended.congr rfl rfl rfl rfl rfl rfl) fun _ k => k

theorem HostHeld.takeCut (h : HostHeld s) (b : List Byte) : HostHeld (takeCut b s) := by
  unfold Machine.takeCut
  split
  · exact h.quiet (.answer _ _ s)
  · split
    · exact h.quiet (.answer _ _ s)
    · split
      · exact h.congr rfl rfl rfl rfl rfl rfl rfl rfl
      · have closed := h.closeOpen ‹_› ‹_› .cut
        refine HostHeld.quiet ?_ (.checkStarved _)
        exact closed.congr rfl rfl rfl rfl rfl rfl rfl rfl

theorem HostHeld.beginLinkReset (h : HostHeld s) (c : LinkCauses) : HostHeld (beginLinkReset c s) := by
  unfold Machine.beginLinkReset
  split
  · exact h.congr rfl rfl rfl rfl rfl rfl rfl rfl
  · exact ⟨h.1.shrink rfl (fun _ => .refl _) (fun _ _ k => k) (fun _ _ => rfl) (fun _ => .refl _) (.refl _) nofun, h.2⟩

/-- With no segment and no burst in flight. -/
theorem Segments.none {a : Arc} {j : Jwr} (room : j.records.length ≤ burstRecords) (emptied : j.phase = .empty → j.records = [])
    (busy : ∀ st, j.phase ≠ .inFlight st) (lent : a.lent = PerStream.const []) (openSeg : a.openSeg = PerStream.const none)
    (closing : a.closing = PerStream.const []) (requests : a.requests = []) (hand : a.hand = Option.none) : Segments a j where
  lentRoom st := by rw [lent, PerStream.get_const]; exact Nat.zero_le _
  lentNodup st := by rw [lent, PerStream.get_const]; exact List.nodup_nil
  lent st i mem := by rw [lent, PerStream.get_const] at mem; exact nomatch mem
  opened st seg some := by rw [openSeg, PerStream.get_const] at some; exact nomatch some
  burst st phase := absurd phase (busy st)
  burstRoom := room
  emptied := emptied
  closingNodup st := by rw [closing, PerStream.get_const]; exact List.nodup_nil
  closing st x mem := by rw [closing, PerStream.get_const] at mem; exact nomatch mem
  requestRoom := by rw [requests]; exact Nat.zero_le _
  requests i mem := by rw [requests] at mem; exact nomatch mem
  hand i some := by rw [hand] at some; exact nomatch some

theorem linkQuiet_phase (h : linkQuiet s = true) (st : Stream) : s.jwr.phase ≠ .inFlight st := by
  intro busy
  simp [linkQuiet, busy, BurstPhase.busy] at h

theorem HostHeld.linkResetTakesEffect (h : HostHeld s) : HostHeld (linkResetTakesEffect s) := by
  unfold Machine.linkResetTakesEffect
  split
  · exact h
  · split
    · have busy := linkQuiet_phase (s := s) ‹_›
      have cleared : HostHeld { s with arc := s.arc.linkCleared, rqp := s.rqp.abandon } :=
        ⟨.none h.1.burstRoom h.1.emptied busy rfl rfl rfl rfl rfl, nofun⟩
      unfold linkResetRecord
      dsimp only
      split <;> exact cleared.congr rfl rfl rfl rfl rfl rfl rfl rfl
    · exact h

/-! ### HAND -/

theorem Quiet.refuseHand (value : Nat) (s : State) : Quiet s (refuseHand value s) :=
  (Quiet.onArc rfl rfl rfl rfl rfl rfl).trans (.raise _ _)

theorem HostHeld.takeHand (h : HostHeld s) (value : Nat) : HostHeld (takeHand value s) := by
  unfold Machine.takeHand
  split
  · split
    · exact h.quiet (.refuseHand _ s)
    · rename_i none
      refine h.withArc ?_ fun _ k => k
      refine { h.1 with hand := fun i some => ?_ }
      obtain rfl := Option.some.inj some
      exact none
  · exact h.quiet (.refuseHand _ s)

theorem HostHeld.handWrite (h : HostHeld s) (value : RegWord) : HostHeld (handWrite value s) := by
  unfold Machine.handWrite
  split
  · split
    · exact h.congr rfl rfl rfl rfl rfl rfl rfl rfl
    · exact h.takeHand _
  · exact h

theorem HostHeld.takeHeld (values : List Nat) (h : HostHeld s) : HostHeld (takeHeld values s) := by
  induction values generalizing s with
  | nil => exact h.congr rfl rfl rfl rfl rfl rfl rfl rfl
  | cons v rest ih =>
    unfold Machine.takeHeld
    split
    · dsimp only
      split
      · exact (h.takeHand v).congr rfl rfl rfl rfl rfl rfl rfl rfl
      · exact ih (h.takeHand v)
    · exact h.congr rfl rfl rfl rfl rfl rfl rfl rfl

/-- What an accepted entry is: its kind, held state and capacity, and the room of the list it joins (R144, R145). -/
theorem checkEntry_accepted {f : EntryFields} {c : SegCopy} (h : checkEntry s f = .inr c) :
    16 ≤ c.capacity ∧ ((c.kind = .request ∧ s.arc.requests.length < requestPlaces)
      ∨ ∃ st, c.kind = .journal st ∧ c.held = .lent ∧ (s.arc.lent.get st).length < lentPlaces) := by
  unfold checkEntry at h
  split at h
  · exact nomatch h
  · dsimp only at h
    split at h
    · exact nomatch h
    · split at h
      · exact nomatch h
      · split at h
        · exact nomatch h
        · split at h
          · split at h
            · exact nomatch h
            · obtain rfl := Sum.inr.inj h
              exact ⟨by dsimp only; omega, .inl ⟨rfl, Nat.lt_of_not_le ‹_›⟩⟩
          · split at h
            · exact nomatch h
            · obtain rfl := Sum.inr.inj h
              exact ⟨by dsimp only; omega, .inr ⟨_, rfl, rfl, Nat.lt_of_not_le ‹_›⟩⟩

theorem HostHeld.decideHand (h : HostHeld s) {i : Fin 64} (none : s.arc.copies[i] = none) (idle : s.arc.hand = Option.none)
    (entry : Option (List Byte)) : HostHeld (decideHand i entry s) := by
  have refused : ∀ reason, HostHeld (refuseEntry i reason s) := by
    intro reason
    refine HostHeld.quiet ?_ (.refuseHand _ _)
    exact h.congr rfl rfl rfl rfl rfl rfl rfl rfl
  have free := h.1.free_of_none none
  have copied : ∀ c, Segments (s.arc.putCopy i (some c)) s.jwr := fun c =>
    h.1.putCopy free _ fun k => nomatch idle.symm.trans k
  unfold Machine.decideHand
  split
  · exact refused _
  · split
    · exact refused _
    · rename_i c accepted
      obtain ⟨capacity, ⟨kind, room⟩ | ⟨st, kind, held, room⟩⟩ := checkEntry_accepted accepted
      · rw [kind]
        have queued := (copied c).addRequest (Arc.copy_putCopy_same _ _ _) kind room
        exact h.withArc (queued.congr rfl rfl rfl rfl rfl rfl) fun _ k => List.mem_append_left _ k
      · rw [kind]
        have lent := (copied c).addLent (st := st) (Arc.copy_putCopy_same _ _ _) kind held capacity (free.lent st) room
        exact h.withArc (lent.congr rfl rfl rfl rfl rfl rfl) fun _ k => k

theorem HostHeld.handFetchComplete (h : HostHeld s) (entry : Option (List Byte)) : HostHeld (handFetchComplete entry s) := by
  have dropped : HostHeld (onArc (fun a => { a with handRead := none, hand := none }) s) :=
    ⟨h.1.shrink rfl (fun _ => .refl _) (fun _ _ k => k) (fun _ _ => rfl) (fun _ => .refl _) (.refl _) nofun, h.2⟩
  unfold Machine.handFetchComplete
  split
  · dsimp only
    split
    · exact dropped
    · refine HostHeld.quiet (HostHeld.takeHeld _ ?_) (.checkStarved _)
      exact dropped.decideHand (h.1.hand _ ‹_›) rfl entry
  · exact h

/-! ### The request processor -/

theorem HostHeld.requestSegmentTake (h : HostHeld s) : HostHeld (requestSegmentTake s) := by
  unfold Machine.requestSegmentTake
  split
  · rename_i i rest none queue
    split
    · have queued : i ∈ s.arc.requests := queue ▸ List.mem_cons_self
      refine ⟨(h.1.holdRequests queued .running).congr rfl rfl rfl rfl rfl rfl, fun k some => ?_⟩
      obtain rfl := Option.some.inj some
      exact queued
    · exact h
  · exact h

theorem HostHeld.endCurrent (h : HostHeld s) (st : EntryState) (reason : SegReason) (fill : Nat) :
    HostHeld (endCurrent st reason fill s) := by
  unfold Machine.endCurrent
  split
  · unfold endSegment
    refine HostHeld.quiet ?_ (.raise _ _)
    exact ⟨(h.1.endRequests (h.2 _ ‹_›)).congr rfl rfl rfl rfl rfl rfl, nofun⟩
  · exact h

theorem HostHeld.setRqp (h : HostHeld s) {r : Rqp} (cur : r.cur = s.rqp.cur) : HostHeld { s with rqp := r } :=
  h.congr rfl rfl rfl rfl rfl rfl rfl cur

theorem HostHeld.slotReadComplete (h : HostHeld s) (slot : Option (List Byte)) : HostHeld (slotReadComplete slot s) := by
  unfold Machine.slotReadComplete
  split
  · split
    · exact h.setRqp rfl
    · split
      · exact h.endCurrent _ _ _
      · dsimp only
        split <;> exact h.setRqp rfl
  · exact h

theorem HostHeld.slotDone (h : HostHeld s) : HostHeld (slotDone s) := by
  unfold Machine.slotDone
  dsimp only
  split
  · exact h.setRqp rfl
  · have counted : HostHeld { s with rqp := { s.rqp with done := s.rqp.done + 1 } } := h.setRqp rfl
    exact counted.endCurrent _ _ _

theorem HostHeld.currentWriteComplete (h : HostHeld s) (o : ReqOutcome) (rest : List LinkWrite) (ok : Bool) :
    HostHeld (currentWriteComplete o rest ok s) := by
  unfold Machine.currentWriteComplete
  split
  · exact h.quiet ((Quiet.setSlotPhase _ s).trans (noteWrite_quiet _ _))
  · split
    · split
      · exact h.slotDone
      · exact h.setRqp rfl
    · have late : HostHeld { s with rqp := { s.rqp with lateWrites := s.rqp.lateWrites ++ rest } } := h.setRqp rfl
      exact (late.quiet (.raise _ _)).endCurrent _ _ _

theorem HostHeld.slotWriteComplete (h : HostHeld s) (which : Nat) (ok : Bool) : HostHeld (slotWriteComplete which ok s) := by
  unfold Machine.slotWriteComplete
  dsimp only
  split
  · have removed : HostHeld { s with rqp := { s.rqp with lateWrites := s.rqp.lateWrites.eraseIdx which } } := h.setRqp rfl
    exact removed.quiet (noteWrite_quiet _ _)
  · split
    · split
      · exact h.currentWriteComplete _ _ _
      · exact h
    all_goals exact h

theorem HostHeld.host (h : HostHeld s) {c : Instr} (k : isHost c = true) : HostHeld (Machine.effect c s) := by
  cases c <;> dsimp only [Machine.effect]
  case burstStart => exact h.burstStart
  case burstComplete ok => exact h.burstComplete ok
  case trailerComplete st ok => exact h.trailerComplete st ok
  case linkReset => exact h.beginLinkReset _
  case linkHot => exact h.beginLinkReset _
  case linkResetTakesEffect => exact h.linkResetTakesEffect
  case handWrite value => exact h.handWrite value
  case handFetchComplete entry => exact h.handFetchComplete entry
  case requestSegmentTake => exact h.requestSegmentTake
  case slotReadComplete slot => exact h.slotReadComplete slot
  case slotWriteComplete ended => exact h.slotWriteComplete _ _
  case cut => exact takeRequest_keeps h fun _ => h.takeCut _
  all_goals exact absurd k Bool.false_ne_true

theorem takeHead_cur (src : Source) (s : State) : (takeHead src s).rqp.cur = s.rqp.cur := by
  cases src <;> unfold takeHead <;> dsimp only
  case notices =>
    split
    · rfl
    · rw [releaseNotice_frame]
      rfl
  case evidence =>
    split
    · rfl
    · unfold releaseEvidence
      dsimp only
      split
      · exact (Quiet.deliver _ _ _).cur
      · rfl
  case tap n =>
    split
    · rfl
    · split
      · rw [releaseArrival_frame]
        rfl
      · rw [releaseGap_frame]
        rfl
  case stampSlot =>
    split
    · rfl
    · unfold releaseStamp
      dsimp only
      split <;> split <;> first | exact (Quiet.deliver _ _ _).cur | rfl

theorem HostHeld.release (h : HostHeld s) : HostHeld (release s) := by
  unfold Machine.release
  split
  · split
    · rename_i head _ _
      have flagged : HostHeld { s with seq.released := true } := h.congr rfl rfl rfl rfl rfl rfl rfl rfl
      refine HostHeld.quiet (t := checkStarved _) ?_ (.checkStarved _)
      exact flagged.congr (by simp) (by simp) (by simp) (by simp) (by simp) (by simp) (by simp) (takeHead_cur head.source _)
    · exact h
  · exact h

theorem HostHeld.clearBlocks (straps : Straps) (s : State) (osc : Osc) : HostHeld { clearBlocks straps s with osc := osc } :=
  ⟨.none (Nat.zero_le _) (fun _ => rfl) nofun rfl rfl rfl rfl rfl, nofun⟩

/-! ### The stagings -/

theorem StagingHeld.congr (h : StagingHeld s) (staged : t.stg.staged = s.stg.staged) (openGap : t.stg.openGap = s.stg.openGap) :
    StagingHeld t := by
  simpa [StagingHeld, staged, openGap] using h

theorem StagingHeld.quiet (h : StagingHeld s) (q : Quiet s t) : StagingHeld t := h.congr q.staged q.openGap

theorem StagingHeld.takeStaged (h : StagingHeld s) (st : Stream) (n : Nat) : StagingHeld (takeStaged st n s) := by
  obtain ⟨arrival, gap, auction⟩ := h
  have fewer : ∀ l : List Record, (l.drop n).length ≤ l.length := fun l => by simp
  cases st
  · refine ⟨(fewer _).trans arrival, fun closed => ?_, auction⟩
    replace closed : (s.stg.openGap && !(true && (s.stg.staged.arrival.drop n).isEmpty)) = false := closed
    show (s.stg.staged.arrival.drop n).length < arrivalSlots
    by_cases empty : s.stg.staged.arrival.drop n = []
    · rw [empty]
      exact (by decide : 0 < arrivalSlots)
    · refine (fewer _).trans_lt (gap ?_)
      simpa [List.isEmpty_iff, empty] using closed
  · exact ⟨arrival, fun closed => gap (by simpa [Machine.takeStaged] using closed), (fewer _).trans auction⟩
  · exact ⟨arrival, fun closed => gap (by simpa [Machine.takeStaged] using closed), auction⟩

theorem StagingHeld.burstStart (h : StagingHeld s) : StagingHeld (burstStart s) := by
  unfold Machine.burstStart
  split
  · exact h
  · split
    · exact h.congr (by simp) (by simp)
    · exact h
  · split
    · rename_i st _
      have opened : StagingHeld (withOpen st s) := h.congr (by simp) (by simp)
      have taken := opened.takeStaged st (burstCount (withOpen st s) st)
      unfold newBurst
      exact taken.congr (by simp) (by simp)
    · exact h

theorem StagingHeld.host (h : StagingHeld s) {c : Instr} (k : isHost c = true) : StagingHeld (Machine.effect c s) := by
  cases c <;> dsimp only [Machine.effect]
  case burstStart => exact h.burstStart
  case cut =>
    refine takeRequest_keeps h fun _ => ?_
    rw [takeCut_frame]
    exact h
  case burstComplete | trailerComplete | linkReset | linkHot | handWrite | handFetchComplete | requestSegmentTake | slotReadComplete
      | slotWriteComplete => exact h.congr (by simp) (by simp)
  case linkResetTakesEffect =>
    unfold linkResetTakesEffect linkResetRecord
    dsimp only
    (repeat' split) <;> exact h
  all_goals exact absurd k Bool.false_ne_true

theorem length_mapLast {α : Type} (f : α → α) : ∀ l : List α, (mapLast f l).length = l.length
  | [] => rfl
  | [_] => rfl
  | _ :: y :: l => congrArg (· + 1) (length_mapLast f (y :: l))

/-- Losses take a slot only while no staging GAP is open, and leave one open. -/
theorem StagingHeld.stageLoss (h : StagingHeld s) (hdr : Header) (lost lastLost : Nat) : StagingHeld (stageLoss hdr lost lastLost s) := by
  obtain ⟨arrival, gap, auction⟩ := h
  cases opened : s.stg.openGap with
  | true =>
    rw [stageLoss_open opened]
    refine ⟨?_, fun closed => ?_, auction⟩
    · show (mapLast _ _).length ≤ _
      rwa [length_mapLast]
    · exact absurd (opened.symm.trans closed) nofun
  | false =>
    rw [stageLoss_closed opened]
    refine ⟨?_, nofun, auction⟩
    show (s.stg.staged.arrival ++ [_]).length ≤ _
    rw [List.length_append, List.length_singleton]
    exact gap opened

theorem StagingHeld.stageOrdinary (h : StagingHeld s) (room : arrivalRoom s = true) {body : RecBody} (stream : body.stream = .arrival)
    (hdr : Header) : StagingHeld (stageOrdinary hdr body s) := by
  obtain ⟨-, -, auction⟩ := h
  have room := arrivalRoom_iff.mp room
  unfold StagingHeld
  rw [stageOrdinary_stg stream]
  have fits : (s.stg.staged.arrival.length + 1) < arrivalSlots := Nat.succ_lt_succ room
  refine ⟨?_, fun _ => ?_, auction⟩
  · rw [List.length_append, List.length_singleton]
    exact Nat.le_of_lt fits
  · rw [List.length_append, List.length_singleton]
    exact fits

theorem StagingHeld.releaseNotice (h : StagingHeld s) (q : QueuedNotice) : StagingHeld (releaseNotice q s) := by
  obtain ⟨arrival, gap, auction⟩ := h
  unfold Machine.releaseNotice
  dsimp only
  split
  · refine ⟨arrival, gap, ?_⟩
    show (s.stg.staged.auction ++ [_]).length ≤ _
    rw [List.length_append, List.length_singleton]
    assumption
  · exact ⟨arrival, gap, auction⟩

theorem StagingHeld.takeHead (h : StagingHeld s) (src : Source) : StagingHeld (takeHead src s) := by
  cases src <;> unfold Machine.takeHead <;> dsimp only
  case notices =>
    split
    · exact h
    · refine StagingHeld.releaseNotice ?_ _
      exact h
  case evidence =>
    split
    · exact h
    · unfold releaseEvidence
      dsimp only
      split
      · rw [StagingHeld, deliver_stg]
        exact h
      · exact h
  case tap n =>
    split
    · exact h
    · split
      · unfold releaseArrival
        split
        · refine StagingHeld.stageOrdinary ?_ ‹_› rfl _
          exact h
        · refine StagingHeld.quiet (StagingHeld.stageLoss ?_ _ _ _) (.onAcc _ _)
          exact h
      · unfold releaseGap
        split
        · refine StagingHeld.stageOrdinary ?_ ‹_› rfl _
          exact h
        · refine StagingHeld.stageLoss ?_ _ _ _
          exact h
  case stampSlot =>
    split
    · exact h
    · unfold releaseStamp
      dsimp only
      split
      · have staged := StagingHeld.stageOrdinary (s := { s with seq.stampSlot := none }) h ‹_› (body := .hostStamp ‹StampEntry›.event
          ‹StampEntry›.tag) rfl ‹StampEntry›.hdr
        split
        · exact staged.congr (by simp) (by simp)
        · exact staged
      · split
        · exact h.congr (by simp) (by simp)
        · exact h

theorem StagingHeld.release (h : StagingHeld s) : StagingHeld (release s) := by
  unfold Machine.release
  split
  · split
    · have taken := StagingHeld.takeHead (s := { s with seq.released := true }) h
      exact (taken _).quiet (.checkStarved _)
    · exact h
  · exact h

/-! ### The port FIFOs -/

theorem FifosHeld.congr (h : FifosHeld s) (fifo : ∀ n, (port t n).fifo = (port s n).fifo) : FifosHeld t := by
  intro n
  rw [fifo]
  exact h n

theorem FifosHeld.setPort (h : FifosHeld s) {n : Fin 8} {p : Port} (places : p.fifo.length ≤ fifoPlaces)
    (gap : hasOpenGap p.fifo = false → p.fifo.length < fifoPlaces) : FifosHeld (setPort n p s) := by
  intro k
  by_cases hk : k = n
  · rw [hk, port_setPort_same]
    exact ⟨places, gap⟩
  · rw [port_setPort_other hk]
    exact h k

theorem FifosHeld.setPort_same (h : FifosHeld s) {n : Fin 8} {p : Port} (fifo : p.fifo = (port s n).fifo) :
    FifosHeld (Machine.setPort n p s) := by
  obtain ⟨places, gap⟩ := h n
  exact h.setPort (fifo ▸ places) (fifo ▸ gap)

theorem FifosHeld.of_taps (h : FifosHeld s) (taps : t.taps = s.taps) : FifosHeld t :=
  h.congr fun n => by simp only [port, taps]

theorem FifosHeld.quiet (h : FifosHeld s) (q : Quiet s t) : FifosHeld t := h.of_taps q.taps

theorem PortEntry.grow_isOpenGap (stamp : Nat) (e : PortEntry) : (e.grow stamp).isOpenGap = e.isOpenGap := by
  unfold PortEntry.grow
  split <;> simp [PortEntry.isOpenGap, *]

theorem getLast?_mapLast {α : Type} (f : α → α) : ∀ l : List α, (mapLast f l).getLast? = l.getLast?.map f
  | [] => rfl
  | [_] => rfl
  | x :: y :: l => by
    have ih := getLast?_mapLast f (y :: l)
    cases l <;> simp_all [mapLast]

/-- A lost frame takes a place only while no GAP entry is open, and leaves one open (R69). -/
theorem loseInto_open (hdr : Header) (tick : Nat) (fifo : List PortEntry) : hasOpenGap (loseInto hdr tick fifo) = true := by
  unfold loseInto
  split
  · have opened : hasOpenGap fifo = true := ‹_›
    rw [hasOpenGap] at opened ⊢
    rw [getLast?_mapLast, Option.any_map]
    simpa [Function.comp_def, PortEntry.grow_isOpenGap] using opened
  · simp [hasOpenGap, PortEntry.isOpenGap]

theorem length_loseInto_le {fifo : List PortEntry} (places : fifo.length ≤ fifoPlaces)
    (gap : hasOpenGap fifo = false → fifo.length < fifoPlaces) (hdr : Header) (tick : Nat) :
    (loseInto hdr tick fifo).length ≤ fifoPlaces := by
  unfold loseInto
  split
  · rwa [length_mapLast]
  · rw [List.length_append, List.length_singleton]
    exact gap (Bool.eq_false_iff.mpr ‹_›)

theorem FifosHeld.finishFrame (h : FifosHeld s) (n : Fin 8) (r : Reading) (frame : List Byte) {p : Port}
    (fifo : p.fifo = (port s n).fifo) : FifosHeld (finishFrame n r frame p s) := by
  unfold Machine.finishFrame enterFifo
  dsimp only
  split
  · exact h.setPort_same fifo
  · split
    · obtain ⟨places, gap⟩ := h n
      rw [← fifo] at places gap
      split
      · rename_i room
        have fits : p.fifo.length + 1 < fifoPlaces := by simp only [fifoPlaces] at room ⊢; omega
        refine h.setPort ?_ fun _ => ?_ <;> rw [List.length_append, List.length_singleton, length_mapLast]
        · exact Nat.le_of_lt fits
        · exact fits
      · refine FifosHeld.quiet (h.setPort ?_ fun closed => ?_) (.onAcc _ _)
        · exact length_loseInto_le places gap _ _
        · exact absurd ((loseInto_open _ _ p.fifo).symm.trans closed) nofun
    · exact h.setPort_same fifo

theorem abandon_fifo (p : Port) : p.abandon.fifo = p.fifo := by
  unfold Port.abandon
  split <;> rfl

theorem FifosHeld.tap (h : FifosHeld s) {c : Instr} (k : isTap c = true) : FifosHeld (Machine.effect c s) := by
  cases c <;> dsimp only [Machine.effect]
  case linkGain n =>
    unfold linkGain movePort
    dsimp only
    split
    · exact FifosHeld.of_taps (h.setPort_same (p := { port s n with present := true, state := .up }) rfl) (by simp)
    all_goals exact h.setPort_same rfl
  case linkLoss n =>
    unfold linkLoss movePort
    dsimp only
    split
    · refine FifosHeld.of_taps (h.setPort_same (n := n) (p := { ({ port s n with present := false } : Port).abandon with state := .down })
        ?_) (by simp)
      exact abandon_fifo _
    all_goals exact h.setPort_same rfl
  case startOfFrame n =>
    unfold startOfFrame
    dsimp only
    (repeat' split) <;> first | exact h.setPort_same rfl | exact h
  case endOfFrame n frame =>
    unfold endOfFrame
    split
    · exact h
    · exact h.finishFrame n _ frame rfl
  case configPortConfigure =>
    refine takeRequest_keeps h fun _ => takeConfigPort_keeps h (h.of_taps rfl) fun n => ?_
    unfold configurePort refusePort configPortRecord
    dsimp only
    split
    · exact h
    · split
      · exact h
      · refine FifosHeld.quiet (h.setPort_same ?_) ((Quiet.makeEvidence _ _).trans (.answer _ _ _))
        rfl
  case configPortEnable =>
    refine takeRequest_keeps h fun _ => takeConfigPort_keeps h (h.of_taps rfl) fun n => ?_
    unfold enablePort refusePort configPortRecord
    dsimp only
    split
    · exact h
    · exact FifosHeld.of_taps (h.setPort_same (n := n) (p := { port s n with
        state := if (port s n).present then .up else .down
        armEnd := some (fit64 (s.osc.tick + armingLength (port s n).config.compensation)) }) rfl) (by simp)
  case configPortDisable =>
    refine takeRequest_keeps h fun _ => takeConfigPort_keeps h (h.of_taps rfl) fun n => ?_
    unfold disablePort refusePort configPortRecord
    dsimp only
    split
    · exact h
    · exact FifosHeld.of_taps (h.setPort_same (n := n) (p := { (port s n).abandon with state := .disabled, armEnd := none })
        (abandon_fifo _)) (by simp)
  all_goals exact absurd k Bool.false_ne_true

/-- A release takes the head of one FIFO. -/
theorem FifosHeld.takeHead (h : FifosHeld s) (src : Source) : FifosHeld (takeHead src s) := by
  cases src <;> unfold Machine.takeHead <;> dsimp only
  case notices =>
    split
    · exact h
    · rw [releaseNotice_frame]
      exact h
  case evidence =>
    split
    · exact h
    · exact h.of_taps (by simp)
  case tap n =>
    split
    · exact h
    · rename_i e rest fifo
      obtain ⟨places, gap⟩ := h n
      rw [fifo, List.length_cons] at places gap
      have popped : FifosHeld (Machine.setPort n { port s n with fifo := rest } s) := h.setPort (Nat.le_of_succ_le places) fun _ => places
      split
      · rw [releaseArrival_frame]
        exact popped
      · rw [releaseGap_frame]
        exact popped
  case stampSlot =>
    split
    · exact h
    · exact h.of_taps (by simp)

theorem FifosHeld.release (h : FifosHeld s) : FifosHeld (release s) := by
  unfold Machine.release
  split
  · split
    · have taken := FifosHeld.takeHead (s := { s with seq.released := true }) h
      exact (taken _).quiet (.checkStarved _)
    · exact h
  · exact h

/-! ### The notice queue (R98) -/

/-- The notice queue fits its places. -/
def NoticesFit (s : State) : Prop := s.auc.notices.length ≤ noticePlaces

theorem NoticesFit.congr (h : NoticesFit s) (notices : t.auc.notices = s.auc.notices) : NoticesFit t := by
  rwa [NoticesFit, notices]

theorem NoticesFit.quiet (h : NoticesFit s) (q : Quiet s t) : NoticesFit t := h.congr (by rw [q.auc])

/-- A notice made with room. -/
theorem NoticesFit.pushNotice (room : noticeRoom s = true) (n : Notice) (x : Nat) (same : t.auc.notices = s.auc.notices) :
    NoticesFit (pushNotice n x t) := by
  show (t.auc.notices ++ [_]).length ≤ _
  rw [List.length_append, List.length_singleton, same]
  exact of_decide_eq_true room

theorem NoticesFit.enterDecide (room : noticeRoom s = true) (g : Fin 64) (v : Group) (x c : Nat) (f : NoticeFlags)
    (same : t.auc.notices = s.auc.notices) : NoticesFit (enterDecide g v x c f t) := by
  unfold Machine.enterDecide
  dsimp only
  refine NoticesFit.quiet (NoticesFit.pushNotice room _ _ ?_) ((Quiet.makeEvidence _ _).trans (.raise _ _))
  exact same

theorem NoticesFit.handleDeadline (room : noticeRoom s = true) (d : Deadline) : NoticesFit (handleDeadline d s) := by
  unfold Machine.handleDeadline
  split
  · unfold handleStart
    exact .pushNotice room _ _ rfl
  · have drawn : ∀ w, (drawOffset w s).2.auc.notices = s.auc.notices := by
      intro w
      unfold drawOffset
      split <;> rfl
    unfold handleEnd
    dsimp only
    split
    · exact .enterDecide room _ _ _ _ _ rfl
    · split
      · exact .enterDecide room _ _ _ _ _ (drawn _)
      · exact .pushNotice room _ _ (drawn _)
  · exact .enterDecide room _ _ _ _ _ rfl
  · unfold handleLimit
    dsimp only
    split <;> exact .pushNotice room _ _ rfl

theorem NoticesFit.pruneSpans (h : NoticesFit s) : NoticesFit (pruneSpans s) := by
  unfold Machine.pruneSpans
  split <;> exact h

theorem ready_room {d : Deadline} (h : ready s = some d) : noticeRoom s = true := by
  unfold ready at h
  split at h
  · assumption
  · exact nomatch h

theorem NoticesFit.handleReady (h : NoticesFit s) : NoticesFit (handleReady s) := by
  unfold Machine.handleReady
  split
  · exact (NoticesFit.handleDeadline (ready_room ‹_›) _).pruneSpans
  · exact h

theorem NoticesFit.takeSchedule (h : NoticesFit s) (b : List Byte) : NoticesFit (takeSchedule b s) := by
  unfold Machine.takeSchedule acceptSchedule refuseGroup
  dsimp only
  (repeat' split) <;> first | exact h | exact whenRoom_keeps h fun room => .pushNotice room _ _ rfl

theorem NoticesFit.acceptAmend (h : NoticesFit s) (g : Fin 64) (tEnd : Nat) (start : Option Nat) :
    NoticesFit (acceptAmend g tEnd start s) := by
  unfold Machine.acceptAmend amendTo
  dsimp only
  split
  · exact h
  · split
    · exact h
    · split
      · exact h
      · exact whenRoom_keeps h fun room => .pushNotice room _ _ rfl

theorem NoticesFit.takeAmend (h : NoticesFit s) (b : List Byte) : NoticesFit (takeAmend b s) := by
  unfold Machine.takeAmend refuseGroup
  dsimp only
  (repeat' split) <;> first | exact h | exact h.acceptAmend _ _ _

theorem NoticesFit.answerNow (h : NoticesFit s) (o : ReqOutcome) (fs : List Field) : NoticesFit (answerNow o fs s) := h

theorem NoticesFit.takeCancel (h : NoticesFit s) (b : List Byte) : NoticesFit (takeCancel b s) := by
  have accepted : ∀ g, noticeRoom s = true → NoticesFit (acceptCancel g s) := by
    intro g room
    unfold acceptCancel
    dsimp only
    refine NoticesFit.answerNow ?_ _ _
    split
    · refine NoticesFit.quiet ?_ (.makeEvidence _ _)
      exact .pushNotice room _ _ rfl
    · exact .pushNotice room _ _ rfl
  unfold Machine.takeCancel refuseGroup
  dsimp only
  (repeat' split) <;> first
    | exact h.quiet (.answer _ _ s)
    | exact whenRoom_keeps h fun room => accepted _ room

theorem NoticesFit.takeDecide (h : NoticesFit s) (b : List Byte) : NoticesFit (takeDecide b s) := by
  unfold Machine.takeDecide refuseGroup
  dsimp only
  (repeat' split) <;> first | exact h | exact whenRoom_keeps h fun room => .pushNotice room _ _ rfl

theorem NoticesFit.takeClear (h : NoticesFit s) (b : List Byte) : NoticesFit (takeClear b s) := by
  unfold Machine.takeClear refuseGroup
  dsimp only
  (repeat' split) <;> first | exact h | exact whenRoom_keeps h fun room => .pushNotice room _ _ rfl

theorem NoticesFit.takeQueryGroup (h : NoticesFit s) (b : List Byte) : NoticesFit (takeQueryGroup b s) := by
  unfold Machine.takeQueryGroup
  split <;> exact h

theorem NoticesFit.takeGroupRequest (h : NoticesFit s) : NoticesFit (takeGroupRequest s) := by
  have request : ∀ {kind : Nat} {f : List Byte → State → State}, (∀ b t, NoticesFit t → NoticesFit (f b t)) →
      ∀ t, NoticesFit t → NoticesFit (takeRequest kind f t) := fun hf t ht => takeRequest_keeps ht fun _ => hf _ t ht
  exact request (fun b t k => k.takeQueryGroup b) _ (request (fun b t k => k.takeClear b) _ (request (fun b t k => k.takeDecide b) _
    (request (fun b t k => k.takeCancel b) _ (request (fun b t k => k.takeAmend b) _ (request (fun b t k => k.takeSchedule b) _ h)))))

theorem NoticesFit.group (h : NoticesFit s) {c : Instr} (k : isGroupRequest c = true) : NoticesFit (Machine.effect c s) := by
  cases c <;> dsimp only [Machine.effect]
  case schedule => exact takeRequest_keeps h fun _ => h.takeSchedule _
  case amend => exact takeRequest_keeps h fun _ => h.takeAmend _
  case cancel => exact takeRequest_keeps h fun _ => h.takeCancel _
  case decideClose => refine takeRequest_keeps h fun _ => ?_; split; exacts [h, h.takeDecide _]
  case decideExtend => refine takeRequest_keeps h fun _ => ?_; split; exacts [h, h.takeDecide _]
  case clear => exact takeRequest_keeps h fun _ => h.takeClear _
  case queryGroup => exact takeRequest_keeps h fun _ => h.takeQueryGroup _
  all_goals exact absurd k Bool.false_ne_true

theorem NoticesFit.act (h : NoticesFit s) (r : Report) : NoticesFit (r.act s) :=
  h.congr (by rw [Report.act_auc])

theorem NoticesFit.runOrder (h : NoticesFit s) (step : Option Nat) (old : TsState) (ps : List Pick) (rs : List Report) :
    NoticesFit (runOrder step old ps rs s) :=
  runOrder_keeps (fun r _ h => h.act r) (fun _ h => h.handleReady) (fun t h => h.quiet (.summaryStep t))
    (fun _ t h => h.congr (by simp)) (fun _ h => h.takeGroupRequest) step old ps rs h

theorem NoticesFit.applyMove (h : NoticesFit s) (m : Move) : NoticesFit (applyMove m s) := by
  unfold Machine.applyMove
  split
  · exact h
  · exact NoticesFit.pruneSpans h

/-- A release takes the head of the queue, or leaves it. -/
theorem NoticesFit.takeHead (h : NoticesFit s) (src : Source) : NoticesFit (takeHead src s) := by
  cases src <;> unfold Machine.takeHead <;> dsimp only
  case notices =>
    split
    · exact h
    · rename_i q rest queue
      rw [releaseNotice_frame]
      have all : s.auc.notices.length ≤ noticePlaces := h
      rw [queue] at all
      exact Nat.le_of_succ_le all
  case evidence =>
    split
    · exact h
    · exact h.congr (by simp)
  case tap n =>
    split
    · exact h
    · split
      · rw [releaseArrival_frame]
        exact h
      · rw [releaseGap_frame]
        exact h
  case stampSlot =>
    split
    · exact h
    · exact h.congr (by simp)

theorem NoticesFit.release (h : NoticesFit s) : NoticesFit (release s) := by
  unfold Machine.release
  split
  · split
    · have taken := NoticesFit.takeHead (s := { s with seq.released := true }) h
      exact (taken _).quiet (.checkStarved _)
    · exact h
  · exact h

/-! ### Every command -/

/-- The buffers of a part within their places. -/
def BuffersHeld (s : State) : Prop := StagingHeld s ∧ FifosHeld s ∧ NoticesFit s ∧ HostHeld s

theorem BuffersHeld.congr (h : BuffersHeld s) (staged : t.stg.staged = s.stg.staged) (openGap : t.stg.openGap = s.stg.openGap)
    (fifo : ∀ n, (port t n).fifo = (port s n).fifo) (notices : t.auc.notices = s.auc.notices) (copies : t.arc.copies = s.arc.copies)
    (lent : t.arc.lent = s.arc.lent) (openSeg : t.arc.openSeg = s.arc.openSeg) (closing : t.arc.closing = s.arc.closing)
    (requests : t.arc.requests = s.arc.requests) (hand : t.arc.hand = s.arc.hand) (jwr : t.jwr = s.jwr) (cur : t.rqp.cur = s.rqp.cur) :
    BuffersHeld t :=
  ⟨h.1.congr staged openGap, h.2.1.congr fifo, h.2.2.1.congr notices,
    h.2.2.2.congr copies lent openSeg closing requests hand jwr cur⟩

theorem BuffersHeld.quiet (h : BuffersHeld s) (q : Quiet s t) : BuffersHeld t :=
  ⟨h.1.quiet q, h.2.1.quiet q, h.2.2.1.quiet q, h.2.2.2.quiet q⟩

/-- A change that leaves the ports, the stagings, the auction timer, the journal writer, the area controller and the request processor. -/
theorem BuffersHeld.of_blocks (h : BuffersHeld s) (taps : t.taps = s.taps) (stg : t.stg.staged = s.stg.staged)
    (openGap : t.stg.openGap = s.stg.openGap) (auc : t.auc = s.auc) (jwr : t.jwr = s.jwr) (arc : t.arc = s.arc)
    (cur : t.rqp.cur = s.rqp.cur) : BuffersHeld t :=
  h.congr stg openGap (fun n => by simp only [port, taps]) (by rw [auc]) (by rw [arc]) (by rw [arc]) (by rw [arc]) (by rw [arc])
    (by rw [arc]) (by rw [arc]) jwr cur

theorem BuffersHeld.clearBlocks (straps : Straps) (s : State) (osc : Osc) : BuffersHeld { clearBlocks straps s with osc := osc } := by
  refine ⟨⟨Nat.zero_le _, fun _ => ?_, Nat.zero_le _⟩, fun n => ?_, Nat.zero_le _, .clearBlocks straps s osc⟩
  · exact (by decide : 0 < arrivalSlots)
  · have empty : (port { Machine.clearBlocks straps s with osc := osc } n).fifo = [] := by
      simp [port, Machine.clearBlocks, Port.cleared]
    rw [empty]
    exact ⟨Nat.zero_le _, fun _ => (by decide : 0 < fifoPlaces)⟩

theorem runOrder_cur (step : Option Nat) (old : TsState) (ps : List Pick) (rs : List Report) (s : State) :
    (runOrder step old ps rs s).rqp.cur = s.rqp.cur := by
  obtain ⟨⟨p, r, rqp⟩, -⟩ := runOrder_rqp s step old ps rs
  rw [rqp]

theorem BuffersHeld.runOrder (h : BuffersHeld s) (m : Move) (step : Option Nat) (old : TsState) (ps : List Pick) (rs : List Report) :
    BuffersHeld (runOrder step old ps rs (applyMove m s)) := by
  obtain ⟨staging, fifos, notices, host⟩ := h
  refine ⟨staging.congr (by simp) (by simp), fifos.congr fun n => by simp, (notices.applyMove m).runOrder _ _ _ _,
    host.congr (by simp) (by simp) (by simp) (by simp) (by simp) (by simp) (by simp) ?_⟩
  rw [runOrder_cur]
  simp

theorem BuffersHeld.readComplete (h : BuffersHeld s) (window : List Byte) (order : List Pick) :
    BuffersHeld (readComplete window order s) := by
  unfold Machine.readComplete
  split
  · unfold decidePulse
    split
    · unfold acceptPulse
      dsimp only
      split
      · exact h
      · exact BuffersHeld.runOrder (h.quiet (.onRef _ s)) _ _ _ _ _
    · exact h.quiet ((Quiet.onRef _ s).trans (rejectPulse_quiet _ _ _))
  · exact h

theorem BuffersHeld.takeSetTime (h : BuffersHeld s) (order : List Pick) (b : List Byte) : BuffersHeld (takeSetTime order b s) := by
  unfold Machine.takeSetTime acceptSetTime
  dsimp only
  split
  · exact h.quiet (.answer _ _ s)
  · split
    · exact h.quiet (.answer _ _ s)
    · split
      · exact h
      · exact BuffersHeld.quiet (h.runOrder _ _ _ _ _) (.answer _ _ _)

/-- A deadline row handles the ready deadline, or does nothing. -/
theorem handleTagged_eq (tag : Tag) (s : State) : handleTagged tag s = handleReady s ∨ handleTagged tag s = s := by
  unfold handleTagged handleReady
  split
  · split
    · exact .inl rfl
    · exact .inr rfl
  · exact .inr rfl

theorem BuffersHeld.lockWaitEnd (h : BuffersHeld s) : BuffersHeld (endLockWait s) := by
  unfold endLockWait
  (repeat' split) <;> exact h.of_blocks rfl rfl rfl rfl rfl rfl rfl

theorem BuffersHeld.changeOsc (h : BuffersHeld s) (o : OscState) : BuffersHeld (changeOsc o s) :=
  h.congr (by simp) (by simp) (fun n => by simp [port]) (by simp) (by simp) (by simp) (by simp) (by simp) (by simp) (by simp) (by simp)
    (by simp)

theorem endTickResult_cur (s : State) : (endTickResult s).cur = s.rqp.cur := by
  unfold endTickResult
  split <;> rfl

theorem BuffersHeld.effect (h : BuffersHeld s) (c : Instr) : BuffersHeld (Machine.effect c s) := by
  obtain ⟨staging, fifos, notices, host⟩ := id h
  cases c using command_cases with
  | quiet c k => exact h.quiet (effect_quiet k s)
  | tap c k =>
    have frame := effect_tapFrame s k
    refine ⟨?_, fifos.tap k, ?_, ?_⟩ <;> rw [frame]
    exacts [staging, notices, host]
  | group c k =>
    have frame := effect_groupFrame s k
    refine ⟨?_, ?_, notices.group k, ?_⟩ <;> rw [frame]
    exacts [staging, fifos, host]
  | host c k =>
    have frame := effect_hostFrame s k
    refine ⟨staging.host k, fifos.of_taps ?_, notices.congr ?_, host.host k⟩ <;> rw [frame]
  | deadline c tag k =>
    rw [k]
    obtain handled | idle := handleTagged_eq tag s
    · rw [handled]
      exact ⟨staging.congr (by simp) (by simp), fifos.of_taps (by simp), notices.handleReady,
        host.congr (by simp) (by simp) (by simp) (by simp) (by simp) (by simp) (by simp) (by simp)⟩
    · rwa [idle]
  | powerOnReset straps => exact .clearBlocks straps s _
  | pinFall straps =>
    dsimp only [Machine.effect, Machine.pinFall]
    split
    · exact .clearBlocks straps s _
    · exact h.of_blocks rfl rfl rfl rfl rfl rfl rfl
    · exact h
  | pinRise => dsimp only [Machine.effect, Machine.pinRise]; split <;> exact h.of_blocks rfl rfl rfl rfl rfl rfl rfl
  | lockWaitEnd =>
    exact h.lockWaitEnd
  | lockEvent =>
    dsimp only [Machine.effect, Machine.lockEvent]
    split
    · split
      · exact h.changeOsc _
      · exact h
    · exact BuffersHeld.lockWaitEnd (h.of_blocks rfl rfl rfl rfl rfl rfl rfl)
    · exact h.of_blocks rfl rfl rfl rfl rfl rfl rfl
  | lossOfLock =>
    dsimp only [Machine.effect, Machine.lossOfLock]
    split
    · split
      · exact h.changeOsc _
      · exact h
    all_goals exact h.of_blocks rfl rfl rfl rfl rfl rfl rfl
  | slewExpiry => dsimp only [Machine.effect, slewExpiry]; split <;> exact h.of_blocks rfl rfl rfl rfl rfl rfl rfl
  | readComplete window order => exact h.readComplete window order
  | lossTimeout =>
    dsimp only [Machine.effect, lossTimeout]
    split
    · exact h.congr (by simp) (by simp) (fun n => by simp [port]) (by simp) (by simp) (by simp) (by simp) (by simp) (by simp) (by simp)
        (by simp) (by simp)
    · exact h
  | holdoverSecond =>
    exact h.congr (by simp [Machine.effect]) (by simp [Machine.effect]) (fun n => by simp [Machine.effect, port])
      (by simp [Machine.effect]) (by simp [Machine.effect]) (by simp [Machine.effect]) (by simp [Machine.effect])
      (by simp [Machine.effect]) (by simp [Machine.effect]) (by simp [Machine.effect]) (by simp [Machine.effect])
      (by simp [Machine.effect])
  | mergeRelease =>
    exact ⟨staging.release, fifos.release, notices.release, host.release⟩
  | setTime order => exact takeRequest_keeps h fun _ => h.takeSetTime order _
  | configDiscipline =>
    refine takeRequest_keeps h fun _ => ?_
    unfold takeDiscipline
    split
    · exact h.quiet (.answer _ _ s)
    · have pending : ∀ set, BuffersHeld { s with tsu.pendingSet := set } := fun _ => h.of_blocks rfl rfl rfl rfl rfl rfl rfl
      exact (pending _).quiet ((Quiet.makeEvidence _ _).trans (.answer _ _ _))
  | configTrace =>
    refine takeRequest_keeps h fun _ => ?_
    unfold takeTrace
    split
    · exact h.quiet (.answer _ _ s)
    · refine BuffersHeld.quiet ?_ (.answer _ _ _)
      exact h.congr (by simp) (by simp) (fun n => by simp [port]) (by simp) (by simp) (by simp) (by simp) (by simp) (by simp) (by simp)
        (by simp) (by simp)
  | tick => exact h.congr rfl rfl (fun _ => rfl) rfl rfl rfl rfl rfl rfl rfl rfl (endTickResult_cur s)

/-- Settles O57: each buffer by the operations that move it, and the segment copies by the lists that name them. -/
theorem steps_keep_the_buffers_within_their_places : Obligations.steps_keep_the_buffers_within_their_places := by
  intro s t staging fifos queues segments h
  have notices : NoticesFit s := queues.1
  have held : BuffersHeld s := ⟨staging, fifos, notices, (segmentsHeld_iff notices).mp ⟨queues, segments⟩⟩
  obtain ⟨staging', fifos', notices', host'⟩ : BuffersHeld t :=
    step_keeps (fun _ _ h => h.of_blocks rfl rfl rfl rfl rfl rfl rfl) (fun c _ h _ => h.effect c) held h
  exact ⟨staging', fifos', (segmentsHeld_iff notices').mpr host'⟩

end Sys2Proof.Machine
end

section
/-! SUPPORT. The rules of the shared operations the statements rest on: a request that is offered, the answer, a record that is made; and
the statements on TICK and on the parameter sets (R3, R4, R8, R10, R42, R170, R171). -/

namespace Sys2Proof.Machine

variable {s t : State}

/-! ### Requests and answers -/

theorem Offered.running {kind : Nat} {b : List Byte} (h : Offered kind b s) : s.osc.phase = .running := h.1

/-- A request that is offered is taken by its owner. -/
theorem Offered.takeRequest {kind : Nat} {b : List Byte} (h : Offered kind b s) (f : List Byte → State → State) :
    takeRequest kind f s = f b s := by
  obtain ⟨-, phase, bytes, code⟩ := h
  rw [Machine.takeRequest, bytes, if_pos ⟨phase, code⟩]

/-- A command that is its owner's take of an offered request. -/
theorem Offered.exec {kind : Nat} {b : List Byte} (h : Offered kind b s) {c : Instr} {f : List Byte → State → State}
    (command : effect c = Machine.takeRequest kind f) : exec c s = .next (f b s) := by
  rw [exec_running h.running, command, h.takeRequest]

theorem slotAddr_congr (rqp : t.rqp = s.rqp) (copies : t.arc.copies = s.arc.copies) : slotAddr t = slotAddr s := by
  rw [slotAddr, slotAddr, rqp, copies]

/-- An answer is made of the slot and the segment copies alone. -/
theorem answer_rqp_congr (rqp : t.rqp = s.rqp) (copies : t.arc.copies = s.arc.copies) (o : ReqOutcome) (fs : List Field) :
    (answer o fs t).rqp = (answer o fs s).rqp := by
  simp only [answer, slotAddr_congr rqp copies, rqp]

/-! ### Records -/

theorem flushReset_frame (s : State) : flushReset s = { s with
    evu := (flushReset s).evu, stg := { s.stg with reserved := (flushReset s).stg.reserved } } := by
  unfold flushReset
  split
  · rfl
  · split <;> rfl

/-- A report changes the evidence unit and the reservations alone. -/
theorem makeEvidence_frame (b : EvBody) (s : State) : makeEvidence b s = { s with
    evu := (makeEvidence b s).evu, stg := { s.stg with reserved := (makeEvidence b s).stg.reserved } } := by
  have made := flushReset_frame s
  unfold makeEvidence
  split
  · rw [made]
    rfl
  · rw [made]
    rfl

theorem flushReset_recordedOnly (s : State) : s.evu.recordedOnly (flushReset s).evu := by
  unfold flushReset
  split
  · rfl
  · split <;> rfl

theorem makeEvidence_recordedOnly (b : EvBody) (s : State) : s.evu.recordedOnly (makeEvidence b s).evu := by
  have made : (flushReset s).evu = { s.evu with
    queue := (flushReset s).evu.queue, acc := (flushReset s).evu.acc, pendingReset := (flushReset s).evu.pendingReset } :=
    flushReset_recordedOnly s
  unfold Evu.recordedOnly makeEvidence
  split
  · simp only [pushEvidence]
    rw [made]
  · simp only [suppress, Evu.onAcc]
    rw [made]

theorem makeEvidence_reservedOnly (b : EvBody) (s : State) : s.stg.reservedOnly (makeEvidence b s).stg := by
  rw [makeEvidence_frame]
  rfl

/-- Two states that agree on what a record is made of: the evidence unit, the stagings, the oscillator supervisor and the reading. -/
structure Agree (s t : State) : Prop where
  evu : t.evu = s.evu
  stg : t.stg = s.stg
  osc : t.osc = s.osc
  reading : t.reading = s.reading

namespace Agree

theorem refl (s : State) : Agree s s := ⟨rfl, rfl, rfl, rfl⟩

theorem reading_of {a b : State} (tsu : b.tsu = a.tsu) (cls : b.div.cls = a.div.cls) (osc : b.osc = a.osc) : b.reading = a.reading := by
  simp only [State.reading, tsu, cls, osc]

/-- The same report leaves two such states in agreement. -/
theorem makeEvidence (h : Agree s t) (b : EvBody) : Agree (makeEvidence b s) (makeEvidence b t) := by
  obtain ⟨evu, stg, osc, reading⟩ := h
  have keeps : ∀ u : State, (Machine.makeEvidence b u).reading = u.reading := fun u => by simp [State.reading]
  have flushed := flushReset_congr evu (by rw [stg]) (by rw [stg]) osc reading
  have room : evidenceRoom (flushReset t) = evidenceRoom (flushReset s) := by
    simp [evidenceRoom, flushed.1, flushed.2, stg]
  have reserved : (Machine.makeEvidence b t).stg.reserved = (Machine.makeEvidence b s).stg.reserved := by
    unfold Machine.makeEvidence
    rw [room]
    split <;> simp [pushEvidence, suppress, flushed.2]
  refine ⟨makeEvidence_congr b evu (by rw [stg]) (by rw [stg]) osc reading, ?_, ?_, ?_⟩
  · rw [makeEvidence_frame b t, makeEvidence_frame b s]
    show { t.stg with reserved := (Machine.makeEvidence b t).stg.reserved } = _
    rw [reserved, stg]
  · rw [makeEvidence_osc, makeEvidence_osc, osc]
  · rw [keeps, keeps, reading]

/-- What touches none of these on one side. -/
theorem right {v : State} (h : Agree s t) (evu : v.evu = t.evu) (stg : v.stg = t.stg) (osc : v.osc = t.osc)
    (reading : v.reading = t.reading) : Agree s v :=
  ⟨evu.trans h.evu, stg.trans h.stg, osc.trans h.osc, reading.trans h.reading⟩

theorem left {v : State} (h : Agree s t) (evu : v.evu = s.evu) (stg : v.stg = s.stg) (osc : v.osc = s.osc)
    (reading : v.reading = s.reading) : Agree v t :=
  ⟨h.evu.trans evu.symm, h.stg.trans stg.symm, h.osc.trans osc.symm, h.reading.trans reading.symm⟩

theorem statusEvent (h : Agree s t) : Agree s (statusEvent t) :=
  h.right (by simp) (by simp) (by simp) (by simp [State.reading])

theorem raise (h : Agree s t) (c : Cause) : Agree s (raise c t) := h.right rfl rfl rfl rfl

/-- The same counting in the accumulator. -/
theorem onAcc (h : Agree s t) (f : Accum → Accum) : Agree (onAcc f s) (onAcc f t) :=
  ⟨congrArg (·.onAcc f) h.evu, h.stg, h.osc, h.reading⟩

end Agree

/-! ### TICK (R3, R4, R170, R171) -/

theorem fit64_of_lt {n : Nat} (h : n < 2 ^ 64) : fit64 n = n := if_pos h

theorem Tsu.advance_sum (t : Tsu) (fits : t.xt * 2 ^ 32 + t.frac + t.inc < 2 ^ 96) :
    t.advance.xt * 2 ^ 32 + t.advance.frac = t.xt * 2 ^ 32 + t.frac + t.inc ∧ t.advance.frac < 2 ^ 32 := by
  have carry := Nat.div_add_mod (t.frac + t.inc) (2 ^ 32)
  have small : t.xt + (t.frac + t.inc) / 2 ^ 32 < 2 ^ 64 := by omega
  simp only [Tsu.advance]
  rw [fit64_of_lt small]
  omega

/-- The end of a tick without a result to form. -/
theorem endTickResult_idle (h : s.rqp.tickResult = none ∨ ¬∃ o w, s.rqp.phase = .writing o w) :
    endTickResult s = { s.rqp with tickResult := none } := by
  unfold endTickResult
  split
  · rename_i r o w result phase
    obtain none | idle := h
    · exact nomatch result.symm.trans none
    · exact absurd ⟨o, w, phase⟩ idle
  · rfl

/-- The end of a tick that forms a result. -/
theorem endTickResult_forms {r : TickResult} (result : s.rqp.tickResult = some r) (writing : ∃ o w, s.rqp.phase = .writing o w) :
    endTickResult s = { (answer .ok (tickFields s r) s).rqp with tickResult := none } := by
  obtain ⟨o, w, phase⟩ := writing
  simp only [endTickResult, result, phase]

/-- Settles O9: the addition by the division of the fraction's carry, the result by what the slot owes. -/
theorem tick_adds_inc_to_xt_and_the_slew_ends : Obligations.tick_adds_inc_to_xt_and_the_slew_ends := by
  intro s run
  refine ⟨fun _ tick fits => ⟨Machine.tick s, exec_running run, ?_, s.tsu.advance_sum fits |>.1, s.tsu.advance_sum fits |>.2, fun n k => ?_,
    fun k => ?_, rfl, ⟨endTickResult_idle, fun n k w => endTickResult_forms k w, fun g k w => endTickResult_forms k w⟩, rfl⟩,
    fun k => ⟨slewExpiry s, exec_running run, ?_⟩, fun k => ?_⟩
  · show { s.osc with tick := fit64 (s.osc.tick + 1) } = _
    rw [fit64_of_lt tick]
  · show s.tsu.advance.slew = _
    simp [Tsu.advance, k]
  · show s.tsu.advance.slew = _
    obtain k | k := k <;> simp [Tsu.advance, k]
  · rw [slewExpiry, if_pos k]
    refine ⟨rfl, ?_, ?_, rfl⟩
    · simp [Tsu.still, Tsu.retune]
    · simp [Tsu.still, Tsu.retune, k]
  · rw [exec_running run]
    exact congrArg Host.Outcome.next (if_neg k)

/-! ### The parameter sets (R10, R42) -/

/-- The ranges of R42, byte by byte. -/
def referenceLegal (b : List Byte) : Prop :=
  0x08 ≤ byteAt b 16 ∧ byteAt b 16 ≤ 0x77 ∧ byteAt b 18 ≤ 1 ∧ byteAt b 19 ∈ [0, 10, 20, 30] ∧ fieldAt b 20 4 ≤ 1000000
    ∧ 1000 ≤ fieldAt b 24 4 ∧ fieldAt b 24 4 ≤ 5000000

theorem readReference_of_legal {b : List Byte} (h : referenceLegal b) : readReference b = some
    { address := byteAt b 16, register := byteAt b 17, speed := if byteAt b 18 = 0 then .kHz100 else .kHz400, reduction := byteAt b 19
      dRef := fieldAt b 20 4, tolerance := fieldAt b 24 4 } := by
  obtain ⟨low, high, speed, reduction, dRef, least, most⟩ := h
  unfold readReference
  obtain zero | one : byteAt b 18 = 0 ∨ byteAt b 18 = 1 := by omega
  · simp only [zero]
    rw [if_pos ⟨low, high, reduction, dRef, least, most⟩, if_pos trivial]
  · simp only [one]
    rw [if_pos ⟨low, high, reduction, dRef, least, most⟩, if_neg (by decide)]

theorem readReference_of_not_legal {b : List Byte} (h : ¬referenceLegal b) : readReference b = none := by
  unfold readReference
  split <;> dsimp only
  · exact if_neg fun ⟨low, high, rest⟩ => h ⟨low, high, by omega, rest⟩
  · exact if_neg fun ⟨low, high, rest⟩ => h ⟨low, high, by omega, rest⟩

theorem clampedOr_bne (c d : DiscSet) : clampedOr (c != d) = if c = d then .ok else .clamped := by
  by_cases e : c = d <;> simp [clampedOr, e]

/-- Settles O14: the check gives the set after its clamps, and the record is made of the same reading. -/
theorem config_discipline_and_reference_set_the_pending_sets :
    Obligations.config_discipline_and_reference_set_the_pending_sets := by
  intro s b
  refine ⟨fun offered => ⟨fun legal => ?_, fun illegal => ?_⟩, fun offered => ⟨fun kind => ?_, fun kind legal => ?_, fun kind illegal => ?_⟩⟩
  · refine ⟨_, offered.exec rfl, ?_⟩
    rw [takeDiscipline, checkDiscipline_of_legal legal]
    dsimp only
    refine ⟨?_, makeEvidence_congr _ rfl rfl rfl rfl rfl, ?_, makeEvidence_reservedOnly _ _, ?_⟩
    · simp
      rfl
    · rw [clampedOr_bne]
      exact answer_rqp_congr (by simp) (by simp) _ _
    · rw [makeEvidence_frame]
      rfl
  · rw [offered.exec (f := takeDiscipline) rfl, takeDiscipline, checkDiscipline_of_not_legal illegal]
  · rw [offered.exec (f := takeReference) rfl, takeReference, kind]
  · refine ⟨_, offered.exec rfl, ?_⟩
    rw [takeReference, kind]
    dsimp only
    rw [readReference_of_legal legal]
    dsimp only
    refine ⟨?_, makeEvidence_congr _ rfl rfl rfl rfl rfl, answer_rqp_congr (by simp) (by simp) _ _, makeEvidence_reservedOnly _ _, ?_⟩
    · simp [onRef]
    · rw [makeEvidence_frame]
      rfl
  · rw [offered.exec (f := takeReference) rfl, takeReference, kind]
    dsimp only
    rw [readReference_of_not_legal illegal]

end Sys2Proof.Machine
end

section
/-! SUPPORT. The rules of the status block's events; the bits of a read; and the statements on a rejected pulse, on the beginning and the
aborts of a read and on the bus (R26 to R33, R39, R40, R140). -/

namespace Sys2Proof.Machine

variable {s t u seen : State}

/-! ### Status block events (R140) -/

/-- An event changes the status block's registers alone. -/
theorem statusEvent_eq (s : State) : statusEvent s = { s with arc := { s.arc with status := (statusEvent s).arc.status } } := by
  unfold statusEvent
  split
  · split <;> rfl
  · rfl

theorem statusEvent_off (off : ¬(s.arc.enable = true ∧ s.arc.linkReset = none)) : statusEvent s = s := by
  rw [statusEvent, if_neg]
  simpa using off

theorem statusEvent_busy (runs : s.arc.enable = true ∧ s.arc.linkReset = none) (busy : s.arc.status.inFlight.isSome) :
    (statusEvent s).arc.status = { s.arc.status with due := true } := by
  obtain ⟨enable, idle⟩ := runs
  obtain ⟨w, some⟩ := Option.isSome_iff_exists.mp busy
  simp [statusEvent, enable, idle, some]

theorem statusEvent_free (runs : s.arc.enable = true ∧ s.arc.linkReset = none) (free : s.arc.status.inFlight = none) :
    statusEvent s = issueStatus s := by
  obtain ⟨enable, idle⟩ := runs
  simp [statusEvent, enable, idle, free]

/-- What the events of R140 leave of the status block speaks of the controller before, of the values seen and of the block after. -/
theorem StatusOwed.congr {again : Bool} {s' t' seen' : State} (h : StatusOwed seen again s t) (status : t'.arc.status = t.arc.status)
    (enable : s'.arc.enable = s.arc.enable) (linkReset : s'.arc.linkReset = s.arc.linkReset) (before : s'.arc.status = s.arc.status)
    (area : s'.arc.area = s.arc.area)
    (block : ∀ n, (⟨seen'.tsu.state, seen'.osc.state, seen'.div.cls, seen'.ref.state, seen'.tsu.leap, seen'.div.u, n, seen'.tsu.f,
      seen'.tsu.p, seen'.tsu.theta, seen'.seq.counter⟩ : StatusBlock) = ⟨seen.tsu.state, seen.osc.state, seen.div.cls, seen.ref.state,
      seen.tsu.leap, seen.div.u, n, seen.tsu.f, seen.tsu.p, seen.tsu.theta, seen.seq.counter⟩) : StatusOwed seen' again s' t' := by
  obtain ⟨off, busy, free⟩ := h
  dsimp only [StatusOwed]
  simp only [status, enable, linkReset, before, area, block]
  exact ⟨off, busy, free⟩

/-- The first event issues the write with the values it sees. -/
theorem StatusOwed.of_event (s : State) : StatusOwed s false s (statusEvent s) := by
  refine ⟨fun off => ?_, fun runs busy => statusEvent_busy runs busy, fun runs free => ?_⟩
  · rw [statusEvent_off off]
  · rw [statusEvent_free runs free]
    rfl

/-- Another event while the write is in flight makes one further write due. -/
theorem StatusOwed.again {b : Bool} (h : StatusOwed seen b s t) (enable : t.arc.enable = s.arc.enable)
    (linkReset : t.arc.linkReset = s.arc.linkReset) : StatusOwed seen true s (statusEvent t) := by
  obtain ⟨off, busy, free⟩ := h
  refine ⟨fun k => ?_, fun runs k => ?_, fun runs k => ?_⟩
  · rw [statusEvent_off (by rwa [enable, linkReset]), off k]
  · have status := busy runs k
    rw [statusEvent_busy (by rwa [enable, linkReset]) (by rw [status]; exact k), status]
  · have status := free runs k
    rw [statusEvent_busy (by rwa [enable, linkReset]) (by rw [status]; rfl), status]

/-! ### A rejected pulse (R39, R40) -/

/-- The reader and the accumulator at a rejection, before the report of the change to BAD. -/
def rejected (reason : RefReason) (sub : SubReason) (s : State) : State :=
  onAcc (Accum.noteRejected reason sub) (onRef (fun r => { r with rejectRun := satAdd 65535 r.rejectRun 1, state := .bad }) s)

theorem rejectPulse_bad (bad : s.ref.state = .bad) (reason : RefReason) (sub : SubReason) :
    rejectPulse reason sub s = rejected reason sub s := by
  rw [rejectPulse, bad]
  rfl

theorem rejectPulse_good (good : s.ref.state = .good) (reason : RefReason) (sub : SubReason) :
    rejectPulse reason sub s = statusEvent (makeEvidence (.refState .bad reason sub none) (rejected reason sub s)) := by
  rw [rejectPulse, good]
  rfl

/-- Settles O16: the reader and the accumulator first, and the report by the record and the status block's event. -/
theorem rejected_pulse_counts_and_goes_bad : Obligations.rejected_pulse_counts_and_goes_bad := by
  intro s reason sub
  refine ⟨?_, fun bad => ?_, fun good => ?_⟩
  · cases state : s.ref.state
    · rw [rejectPulse_bad state]
      rfl
    · rw [rejectPulse_good state, statusEvent_ref, makeEvidence_ref]
      rfl
  · rw [rejectPulse_bad bad]
    rfl
  · rw [rejectPulse_good good]
    have made := Agree.makeEvidence (s := { s with evu := (rejected reason sub s).evu }) (t := rejected reason sub s) ⟨rfl, rfl, rfl, rfl⟩
      (.refState .bad reason sub none)
    have event := StatusOwed.of_event (makeEvidence (.refState .bad reason sub none) (rejected reason sub s))
    refine ⟨⟨by rw [statusEvent_evu]; exact made.evu, by rw [statusEvent_stg]; exact made.stg⟩, ?_, ?_, ?_⟩
    · rw [statusEvent_stg]
      exact makeEvidence_reservedOnly _ (rejected reason sub s)
    · exact event.congr rfl (by simp [rejected]) (by simp [rejected]) (by simp [rejected]) (by simp [rejected]) fun n => by simp
    · refine State.eq_of_fields ?_ ?_ rfl ?_ ?_ ?_ rfl ?_ rfl ?_ ?_ ?_ ?_
      case refine_8 =>
        rw [statusEvent_frame, makeEvidence_arc]
        rfl
      all_goals simp [rejected]

/-! ### The bits of a read (R27 to R31) -/

/-- A bit with its value forgotten: the pattern of the transaction is the same for every set. -/
def BusBit.shape : BusBit → BusBit
  | .driven _ => .driven false
  | b => b

/-- The 174 bits by who acts in them. -/
def transactionShape : List BusBit := (transaction (RefSet.default .kHz100)).map BusBit.shape

theorem drivenByte_shape (v : Nat) : (drivenByte v).map BusBit.shape = List.replicate 8 (.driven false) := rfl

theorem transaction_shape (set : RefSet) : (transaction set).map BusBit.shape = transactionShape := by
  simp only [transactionShape, transaction, List.map_append, drivenByte_shape]

theorem transaction_length (set : RefSet) : (transaction set).length = 174 := by
  rw [← List.length_map (f := BusBit.shape), transaction_shape]
  decide +kernel

theorem getElem?_transaction_shape (set : RefSet) (i : Nat) : (transaction set)[i]?.map BusBit.shape = transactionShape[i]? := by
  rw [← List.getElem?_map, transaction_shape]

/-- A bit whose shape is its own, and no other's. -/
theorem getElem?_transaction_iff {b : BusBit} (own : ∀ c : BusBit, c.shape = b ↔ c = b) (set : RefSet) (i : Nat) :
    (transaction set)[i]? = some b ↔ transactionShape[i]? = some b := by
  rw [← getElem?_transaction_shape set, Option.map_eq_some_iff]
  constructor
  · exact fun h => ⟨b, h, (own b).mpr rfl⟩
  · rintro ⟨c, h, shape⟩
    rw [h, (own c).mp shape]

/-- What holds of the 174 bits and of none beyond. -/
theorem shape_iff {P : Option BusBit → Prop} {Q : Nat → Prop} [DecidablePred P] [DecidablePred Q]
    (within : ∀ i < 174, P transactionShape[i]? ↔ Q i) (none : ¬P none) (beyond : ∀ i, Q i → i < 174) (i : Nat) :
    P transactionShape[i]? ↔ Q i := by
  by_cases h : i < 174
  · exact within i h
  · have out : transactionShape[i]? = Option.none := List.getElem?_eq_none (by
      rw [show transactionShape.length = 174 from by decide +kernel]
      exact Nat.le_of_not_lt h)
    rw [out]
    exact ⟨fun p => absurd p none, fun q => absurd (beyond i q) h⟩

theorem start_iff (set : RefSet) (i : Nat) : (transaction set)[i]? = some .start ↔ i = 0 := by
  rw [getElem?_transaction_iff (fun c => by cases c <;> simp [BusBit.shape])]
  exact shape_iff (P := (· = some .start)) (Q := (· = 0)) (by decide +kernel) nofun (by omega) i

theorem restart_iff (set : RefSet) (i : Nat) : (transaction set)[i]? = some .restart ↔ i = 19 := by
  rw [getElem?_transaction_iff (fun c => by cases c <;> simp [BusBit.shape])]
  exact shape_iff (P := (· = some .restart)) (Q := (· = 19)) (by decide +kernel) nofun (by omega) i

theorem stop_iff (set : RefSet) (i : Nat) : (transaction set)[i]? = some .stop ↔ i = 173 := by
  rw [getElem?_transaction_iff (fun c => by cases c <;> simp [BusBit.shape])]
  exact shape_iff (P := (· = some .stop)) (Q := (· = 173)) (by decide +kernel) nofun (by omega) i

theorem ackOwed_iff (set : RefSet) (i : Nat) : (transaction set)[i]? = some .ackOwed ↔ i = 9 ∨ i = 18 ∨ i = 28 := by
  rw [getElem?_transaction_iff (fun c => by cases c <;> simp [BusBit.shape])]
  exact shape_iff (P := (· = some .ackOwed)) (Q := fun i => i = 9 ∨ i = 18 ∨ i = 28) (by decide +kernel) nofun (by omega) i

/-- The bits in which a read-back can differ (R29): those of the transitions and those the part drives. -/
def mismatchBits (b : Option BusBit) : Bool :=
  match b with
  | some .start | some .restart | some (.driven _) => true
  | _ => false

theorem canMismatch_eq (set : RefSet) (i : Nat) : canMismatch set i = mismatchBits transactionShape[i]? := by
  rw [← getElem?_transaction_shape set]
  unfold canMismatch
  cases (transaction set)[i]? with
  | none => rfl
  | some b => cases b <;> rfl

/-- The bits at which a mismatch can come, by number. -/
def CheckedBit (i : Nat) : Prop :=
  i ≤ 8 ∨ (10 ≤ i ∧ i ≤ 17) ∨ (19 ≤ i ∧ i ≤ 27) ∨ (37 ≤ i ∧ i ≤ 172 ∧ (i - 37) % 9 = 0)

theorem canMismatch_iff (set : RefSet) (i : Nat) : canMismatch set i = true ↔ CheckedBit i := by
  rw [canMismatch_eq]
  refine shape_iff (P := fun b => mismatchBits b = true) (Q := fun i => i ≤ 8 ∨ (10 ≤ i ∧ i ≤ 17) ∨ (19 ≤ i ∧ i ≤ 27)
    ∨ (37 ≤ i ∧ i ≤ 172 ∧ (i - 37) % 9 = 0)) (by decide +kernel) nofun (by omega) i

theorem canNack_iff (set : RefSet) (i : Nat) : canNack set i = true ↔ i = 9 ∨ i = 18 ∨ i = 28 := by
  rw [canNack, beq_iff_eq]
  exact ackOwed_iff set i

theorem phases_fill_the_period (set : RefSet) (held : Nat) : bitTicks set held = bitPeriod set + held
    ∧ highPhase set = bitPeriod set / 2 := by
  have half : lowPhase set = (bitPeriod set + 1) / 2 := rfl
  have rest : highPhase set = bitPeriod set - lowPhase set := rfl
  have ticks : bitTicks set held = lowPhase set + held + highPhase set := rfl
  omega

/-! ### The beginning of a read and the bus (R26, R31, R32) -/

/-- The reader after a recovery or a STOP that leaves the bus in a condition. -/
theorem Ref.busFree_eq (r : Ref) (bus : BusCondition) : r.busFree bus = if r.pending.isSome then
      { r with bus := bus, set := r.pendingSet.getD r.set, pendingSet := none, phase := if bus = .clear then .transaction else .opening }
    else { r with bus := bus, phase := .idle } := by
  unfold Ref.busFree Ref.beginRead
  cases bus <;> rfl

/-- Settles O17: the bits by the pattern of the transaction, and the rows by the reader's moves. -/
theorem reads_begin_and_the_bus_is_freed : Obligations.reads_begin_and_the_bus_is_freed := by
  refine ⟨?_, rfl, fun set => ⟨transaction_length set, fun _ => rfl, fun i => ⟨start_iff set i, restart_iff set i, stop_iff set i⟩⟩,
    rfl, rfl, rfl, fun _ => rfl, rfl, rfl, rfl, fun s run => ⟨fun phase pending => ?_, fun phase => ?_, fun high phase => ?_,
    fun high phase => ?_, fun phase => ?_⟩⟩
  · intro row mem set speed reduction
    have period : bitPeriod set = row.2.2 := by
      unfold bitPeriod
      rw [speed, reduction]
      simp only [List.mem_cons, List.not_mem_nil, or_false] at mem
      obtain rfl | rfl | rfl | rfl | rfl | rfl | rfl | rfl := mem <;> rfl
    rw [← period]
    refine ⟨rfl, rfl, (phases_fill_the_period set 0).2, fun held => ⟨(phases_fill_the_period set held).1, ?_, rfl, ?_, ?_⟩⟩
    · rw [busTicks, transaction_length]
    · rw [← (phases_fill_the_period set held).1]
      intro bit transition
      simp only [List.mem_cons, List.not_mem_nil, or_false] at transition
      obtain rfl | rfl | rfl := transition <;> rfl
    · intro bit data
      simp only [List.mem_cons, List.not_mem_nil, or_false] at data
      obtain rfl | rfl | rfl | rfl := data <;> rfl
  · refine ⟨onRef Ref.beginRead s, ?_, ?_, rfl⟩
    · rw [exec_running run]
      exact congrArg Host.Outcome.next (if_pos ⟨phase, pending⟩)
    · show s.ref.beginRead = _
      refine Eq.trans ?_ (s.ref.busFree_eq s.ref.bus)
      rw [Ref.busFree, if_pos pending]
  · refine ⟨onRef (fun r => { r with phase := .transaction, bus := .clear }) s, ?_, rfl, rfl⟩
    simp [exec_running run, effect, recoveryEnd, phase]
  · refine ⟨onRef (fun r => r.busFree (conditionOf high)) s, ?_, s.ref.busFree_eq _, rfl⟩
    simp [exec_running run, effect, recoveryEnd, phase]
  · refine ⟨onRef (fun r => r.busFree (conditionOf high)) s, ?_, s.ref.busFree_eq _, rfl⟩
    simp [exec_running run, effect, busStopEnd, phase]
  · refine ⟨onRef (fun r => r.busFree .unsettled) s, ?_, s.ref.busFree_eq _, rfl⟩
    obtain phase | phase := phase <;> simp [exec_running run, effect, clockHold, phase]

/-! ### The aborts of a read (R29 to R33) -/

/-- The reader's move and the rejection of the pulse that is pending no more. -/
theorem abortRead_onRef (sub : SubReason) (f : Ref → Ref) (s : State) :
    abortRead sub (onRef f s) = rejectPulse .unlabelled sub { s with ref := { f s.ref with pending := none } } := rfl

theorem abortTransaction_of {can : Bool} {q : Pulse} (phase : s.ref.phase = .transaction) (pending : s.ref.pending = some q)
    (sub : SubReason) : abortTransaction can sub s = if can = true then
      rejectPulse .unlabelled sub { s with ref := { s.ref with pending := none, phase := .stopping } } else s := by
  unfold abortTransaction
  split
  · rename_i all
    rw [if_pos all.2.2]
    rfl
  · rename_i some
    rw [if_neg fun h => some ⟨phase, by simp [pending], h⟩]

/-- Settles O18: each row by the bit or the phase it can come at. -/
theorem read_aborts_reject_the_pending_pulse : Obligations.read_aborts_reject_the_pending_pulse := by
  intro s q run pending
  refine ⟨fun bit phase => ⟨fun h => ?_, fun h => ?_, fun h => ?_, fun h => ?_⟩, fun phase => ?_, fun phase => ?_, fun phase => ?_,
    fun due => ⟨fun phase => ⟨?_, ?_⟩, fun high phase => ?_⟩⟩
  · rw [exec_running run]
    exact congrArg Host.Outcome.next ((abortTransaction_of phase pending _).trans (if_pos ((canMismatch_iff _ bit).mpr h)))
  · rw [exec_running run]
    exact congrArg Host.Outcome.next ((abortTransaction_of phase pending _).trans (if_neg (mt (canMismatch_iff _ bit).mp h)))
  · rw [exec_running run]
    exact congrArg Host.Outcome.next ((abortTransaction_of phase pending _).trans (if_pos ((canNack_iff _ bit).mpr h)))
  · rw [exec_running run]
    exact congrArg Host.Outcome.next ((abortTransaction_of phase pending _).trans (if_neg (mt (canNack_iff _ bit).mp h)))
  · simp [exec_running run, effect, clockHold, phase, abortRead_onRef]
  · simp [exec_running run, effect, clockHold, phase, abortRead_onRef]
  · simp [exec_running run, effect, recoveryEnd, phase, abortRead_onRef]
  all_goals
    have overdue : readOverdue s = true := by simp [readOverdue, pending, halfSecondTicks, due]
  · simp [exec_running run, effect, readTimeout, overdue, abortRead_onRef, Ref.timedOut, phase]
  · simp [exec_running run, effect, readTimeout, overdue, abortRead_onRef, Ref.timedOut, phase]
  · obtain phase | phase := phase <;> simp [exec_running run, effect, readTimeout, overdue, abortRead_onRef, Ref.timedOut, phase]

end Sys2Proof.Machine
end

section
/-! SUPPORT. The report of an evaluation, and the statements on evaluations, on CONFIG_TRACE and on a change of the oscillator (R1, R2,
R48, R49, R53, R54, R126, R127, R131, R140). -/

namespace Sys2Proof.Machine

variable {s t : State}

/-! ### Reports to the area controller -/

theorem Arc.reportedOnly.refl (a : Arc) : a.reportedOnly a := rfl

theorem Arc.reportedOnly.trans {a b c : Arc} (h : a.reportedOnly b) (k : b.reportedOnly c) : a.reportedOnly c := by
  unfold Arc.reportedOnly at *
  rw [k, h]

theorem Arc.raise_status (c : Cause) (a : Arc) : (a.raise c).status = a.status := by
  rw [Arc.raise_frame]

theorem raise_reportedOnly (c : Cause) (s : State) : s.arc.reportedOnly (raise c s).arc := by
  unfold Arc.reportedOnly
  rw [raise, Arc.raise_frame]

theorem statusEvent_reportedOnly (s : State) : s.arc.reportedOnly (statusEvent s).arc := by
  unfold Arc.reportedOnly
  rw [statusEvent_frame]

theorem makeEvidence_reportedOnly (b : EvBody) (s : State) : s.arc.reportedOnly (makeEvidence b s).arc := by
  rw [makeEvidence_arc]
  exact .refl _

theorem statusEvent_has (x : Cause) (s : State) : (statusEvent s).arc.has x = s.arc.has x := by
  simp only [Arc.has, statusEvent_arc_cause]

/-- A cause event sets its bit and leaves the others. -/
theorem raise_has (c x : Cause) (s : State) : (raise c s).arc.has x = true ↔ s.arc.has x = true ∨ x = c := by
  by_cases h : x = c
  · subst h
    simp [raise]
  · simp [raise, Arc.raise_has_other _ _ _ h, h]

/-! ### Evaluations (R45, R53, R126) -/

/-- Steps 1 to 3 of an evaluation, counted in the accumulator. -/
def measured (ts : TsState) (s : State) : State :=
  onAcc (Accum.noteEvaluation (s.div.evaluate ts s.osc.state).u (s.div.evaluate ts s.osc.state).cls)
    { s with div := s.div.evaluate ts s.osc.state }

theorem evaluateIn_same {ts : TsState} (same : (s.div.evaluate ts s.osc.state).cls = s.div.cls) :
    evaluateIn ts s = statusEvent (measured ts s) := by
  unfold evaluateIn reportEvaluation reportClass
  rw [if_pos]
  · rfl
  · exact same

theorem evaluateIn_changed {ts : TsState} (changed : (s.div.evaluate ts s.osc.state).cls ≠ s.div.cls) :
    evaluateIn ts s = statusEvent (raise .classChange (makeEvidence
      (.classChange s.div.cls (s.div.evaluate ts s.osc.state).cls (s.div.evaluate ts s.osc.state).u) (measured ts s))) := by
  unfold evaluateIn reportEvaluation reportClass
  rw [if_neg]
  · rfl
  · exact changed

theorem evaluateIn_reservedOnly (ts : TsState) (s : State) : s.stg.reservedOnly (evaluateIn ts s).stg := by
  by_cases same : (s.div.evaluate ts s.osc.state).cls = s.div.cls
  · rw [evaluateIn_same same, statusEvent_stg]
    rfl
  · rw [evaluateIn_changed same, statusEvent_stg]
    exact makeEvidence_reservedOnly _ (measured ts s)

theorem Evu.recordedOnly.trans {a b c : Evu} (h : a.recordedOnly b) (k : b.recordedOnly c) : a.recordedOnly c := by
  unfold Evu.recordedOnly at *
  rw [k, h]

theorem Stg.reservedOnly.trans {a b c : Stg} (h : a.reservedOnly b) (k : b.reservedOnly c) : a.reservedOnly c := by
  unfold Stg.reservedOnly at *
  rw [k, h]

theorem evaluateIn_recordedOnly (ts : TsState) (s : State) : s.evu.recordedOnly (evaluateIn ts s).evu := by
  by_cases same : (s.div.evaluate ts s.osc.state).cls = s.div.cls
  · rw [evaluateIn_same same, statusEvent_evu]
    rfl
  · rw [evaluateIn_changed same, statusEvent_evu]
    have made : Evu.recordedOnly _ _ := makeEvidence_recordedOnly
      (.classChange s.div.cls (s.div.evaluate ts s.osc.state).cls (s.div.evaluate ts s.osc.state).u) (measured ts s)
    unfold Evu.recordedOnly at made ⊢
    rw [raise_evu, made]
    rfl

theorem evaluateIn_reportedOnly (ts : TsState) (s : State) : s.arc.reportedOnly (evaluateIn ts s).arc := by
  by_cases same : (s.div.evaluate ts s.osc.state).cls = s.div.cls
  · rw [evaluateIn_same same]
    exact statusEvent_reportedOnly (measured ts s)
  · rw [evaluateIn_changed same]
    exact ((makeEvidence_reportedOnly _ (measured ts s)).trans (raise_reportedOnly _ _)).trans (statusEvent_reportedOnly _)

/-- An evaluation sets CLASS_CHANGE when it changes the class in force, and no other bit. -/
theorem evaluateIn_has (ts : TsState) (x : Cause) (s : State) : (evaluateIn ts s).arc.has x = true ↔
    s.arc.has x = true ∨ x = .classChange ∧ (evaluateIn ts s).div.cls ≠ s.div.cls := by
  rw [evaluateIn_div]
  by_cases same : (s.div.evaluate ts s.osc.state).cls = s.div.cls
  · rw [evaluateIn_same same, statusEvent_has]
    simp [same, measured]
  · rw [evaluateIn_changed same, statusEvent_has, raise_has, makeEvidence_arc]
    simp [same, measured]

theorem evaluateIn_has_other (ts : TsState) {x : Cause} (h : x ≠ .classChange) (s : State) :
    (evaluateIn ts s).arc.has x = s.arc.has x := by
  rw [Bool.eq_iff_iff, evaluateIn_has]
  simp [h]

/-- An evaluation owes one write of the status block, with the values it leaves. -/
theorem evaluateIn_status (ts : TsState) (s : State) : StatusOwed (evaluateIn ts s) false s (evaluateIn ts s) := by
  by_cases same : (s.div.evaluate ts s.osc.state).cls = s.div.cls
  · rw [evaluateIn_same same]
    exact (StatusOwed.of_event (measured ts s)).congr rfl rfl rfl rfl rfl fun n => by simp
  · rw [evaluateIn_changed same]
    refine (StatusOwed.of_event _).congr rfl ?_ ?_ ?_ ?_ fun n => by simp
    all_goals simp [measured, Arc.raise_status]

theorem evaluateIn_frame (ts : TsState) (s : State) : evaluateIn ts s = { s with
    div := (evaluateIn ts s).div, evu := (evaluateIn ts s).evu, stg := (evaluateIn ts s).stg, arc := (evaluateIn ts s).arc } := by
  refine State.eq_of_fields ?_ ?_ ?_ rfl ?_ ?_ rfl ?_ rfl ?_ rfl ?_ ?_ <;> simp

/-- What an evaluation makes, on states that agree. -/
theorem Agree.evaluate (h : Agree s t) (div : t.div = s.div) : Agree (evaluate s) (evaluate t) := by
  have ts : t.tsu.state = s.tsu.state := congrArg Reading.ts h.reading
  have xt : t.tsu.xt = s.tsu.xt := congrArg Reading.xt h.reading
  have leap : t.tsu.leap = s.tsu.leap := congrArg Reading.leap h.reading
  have same : t.div.evaluate t.tsu.state t.osc.state = s.div.evaluate s.tsu.state s.osc.state := by rw [div, ts, h.osc]
  have both : Agree (measured s.tsu.state s) (measured t.tsu.state t) := by
    unfold measured
    rw [same]
    have base : Agree { s with div := s.div.evaluate s.tsu.state s.osc.state } { t with div := s.div.evaluate s.tsu.state s.osc.state } :=
      ⟨h.evu, h.stg, h.osc, by simp only [State.reading, ts, xt, leap, h.osc]⟩
    exact base.onAcc _
  unfold Machine.evaluate
  by_cases cls : (s.div.evaluate s.tsu.state s.osc.state).cls = s.div.cls
  · rw [evaluateIn_same cls, evaluateIn_same (by rw [same, div, cls])]
    exact both.statusEvent.left (by simp) (by simp) (by simp) (by simp [State.reading])
  · rw [evaluateIn_changed cls, evaluateIn_changed (by rwa [same, div]), same, div]
    refine ((both.makeEvidence _).raise _).statusEvent.left (by simp) (by simp) (by simp) (by simp [State.reading])

theorem Cls.low_eq_ite (x y : Cls) : x.low y = if x.rank ≤ y.rank then x else y := rfl

/-- Settles O23: the report by the two outcomes of the class, and a second by its threshold. -/
theorem evaluations_are_reported_and_made_each_holdover_second :
    Obligations.evaluations_are_reported_and_made_each_holdover_second := by
  intro s
  refine ⟨⟨evaluate_div s, fun same => ?_, fun changed => ⟨?_, ?_⟩, evaluateIn_status _ s, evaluateIn_reservedOnly _ s,
    evaluateIn_reportedOnly _ s, fun x h => evaluateIn_has_other _ h s, evaluateIn_frame _ s⟩, fun b run base => ⟨fun due => ?_, fun early => ?_⟩⟩
  · rw [evaluate_div] at same ⊢
    rw [evaluate, evaluateIn_same same]
    refine ⟨?_, ?_, ?_⟩
    · rw [statusEvent_evu]
      rfl
    · rw [statusEvent_stg]
      rfl
    · rw [statusEvent_arc_cause]
      rfl
  · exact (evaluateIn_has _ _ _).mpr (.inr ⟨rfl, changed⟩)
  · rw [evaluate_div] at changed ⊢
    rw [evaluate, evaluateIn_changed changed]
    have made := Agree.makeEvidence (s := { s with
      div := s.div.evaluate s.tsu.state s.osc.state, evu := (measured s.tsu.state s).evu }) (t := measured s.tsu.state s)
      ⟨rfl, rfl, rfl, rfl⟩ (.classChange s.div.cls (s.div.evaluate s.tsu.state s.osc.state).cls
        (s.div.evaluate s.tsu.state s.osc.state).u)
    exact ⟨by rw [statusEvent_evu]; exact made.evu, by rw [statusEvent_stg]; exact made.stg⟩
  · have reached : holdoverDue s = true := by
      simp only [holdoverDue, base]
      exact decide_eq_true due
    rw [exec_running run]
    change Host.Outcome.next (secondIn s.tsu.state s) = _
    rw [secondIn, if_pos reached, base]
    rfl
  · have waits : holdoverDue s = false := by
      simp only [holdoverDue, base]
      exact decide_eq_false (Nat.not_le_of_lt early)
    rw [exec_running run]
    change Host.Outcome.next (secondIn s.tsu.state s) = _
    rw [secondIn, waits]
    rfl

/-! ### CONFIG_TRACE (R54, R173) -/

/-- The least whole multiple of the interval above XT (R127). -/
theorem nextBoundary_above {interval : Nat} (positive : 1 ≤ interval) (xt : Nat) :
    xt < nextBoundary interval xt ∧ nextBoundary interval xt ≤ xt + 10 ^ 9 * interval
      ∧ nextBoundary interval xt % (10 ^ 9 * interval) = 0 := by
  have ns : 0 < nsPerSecond * interval := Nat.mul_pos (by decide) positive
  have split := Nat.div_add_mod xt (nsPerSecond * interval)
  have rest := Nat.mod_lt xt ns
  have value : nextBoundary interval xt = nsPerSecond * interval * (xt / (nsPerSecond * interval)) + nsPerSecond * interval := by
    rw [nextBoundary, Nat.mul_succ]
  have width : 10 ^ 9 * interval = nsPerSecond * interval := rfl
  rw [width]
  refine ⟨by omega, by omega, Nat.mul_mod_right _ _⟩

/-- A trace set within the ranges of R54. -/
def TraceSet.legal (d : TraceSet) : Prop :=
  d.limitA ≤ d.limitB ∧ d.limitB ≤ 4294967294 ∧ d.guardG ≤ 1000000 ∧ d.rateH ≤ 1000000 ∧ d.rateBackup ≤ 10000000
    ∧ 1 ≤ d.upgradeHold ∧ d.upgradeHold ≤ 60

theorem checkTrace_of_legal {d : TraceSet} (legal : d.legal) :
    checkTrace d = some ({ d with interval := max 1 (min 60 d.interval) }, { d with interval := max 1 (min 60 d.interval) } != d) := by
  obtain ⟨order, limitB, guardG, rateH, rateBackup, low, high⟩ := legal
  have clamp : clampNat 1 60 d.interval = max 1 (min 60 d.interval) := by
    unfold clampNat
    split
    · omega
    · split <;> omega
  unfold checkTrace
  rw [if_pos ⟨by omega, limitB, guardG, rateH, rateBackup, low, high, order⟩, clamp]

theorem checkTrace_of_not_legal {d : TraceSet} (illegal : ¬d.legal) : checkTrace d = none := by
  unfold checkTrace
  rw [if_neg]
  rintro ⟨-, limitB, guardG, rateH, rateBackup, low, high, order⟩
  exact illegal ⟨order, limitB, guardG, rateH, rateBackup, low, high⟩

/-- A holdover spell is based anew on XT, with the growth of the old rate (R49). -/
theorem Div.rebase_eq (d : Div) (o : OscState) (xt : Nat) : d.rebase o xt = if d.base = none then d else
    { d with u0 := min 4294967295 (d.u0 + (if o = .locked then d.trace.rateH else d.trace.rateBackup) * d.secs), base := some xt, secs := 0 } := by
  unfold Div.rebase
  cases d.base <;> cases o <;> rfl

/-- CONFIG_TRACE up to its records: the set in force, the spell based anew, and the next boundary. -/
def traced (set : TraceSet) (s : State) : State :=
  { s with
    div := { s.div.rebase s.osc.state s.tsu.xt with trace := set, upCount := 0, upTarget := none }
    evu := { s.evu with boundary := nextBoundary set.interval s.tsu.xt, boundaryTick := some s.osc.tick } }

theorem applyTrace_eq (set : TraceSet) (s : State) :
    applyTrace set s = evaluate (makeEvidence (.config 0x42 none set.crc) (traced set s)) := rfl

theorem applyTrace_recordedOnly (set : TraceSet) (s : State) : (traced set s).evu.recordedOnly (applyTrace set s).evu := by
  have record : (traced set s).evu.recordedOnly _ := makeEvidence_recordedOnly (.config 0x42 none set.crc) (traced set s)
  exact record.trans (evaluateIn_recordedOnly _ _)

theorem applyTrace_reservedOnly (set : TraceSet) (s : State) : s.stg.reservedOnly (applyTrace set s).stg :=
  (makeEvidence_reservedOnly (.config 0x42 none set.crc) (traced set s)).trans (evaluateIn_reservedOnly _ _)

theorem applyTrace_reportedOnly (set : TraceSet) (s : State) : s.arc.reportedOnly (applyTrace set s).arc :=
  (makeEvidence_reportedOnly (.config 0x42 none set.crc) (traced set s)).trans (evaluateIn_reportedOnly _ _)

theorem applyTrace_has_other (set : TraceSet) (s : State) {x : Cause} (other : x ≠ .classChange) :
    (applyTrace set s).arc.has x = s.arc.has x := by
  rw [applyTrace_eq, evaluate, evaluateIn_has_other _ other, makeEvidence_arc]
  rfl

theorem applyTrace_status (set : TraceSet) (s : State) : StatusOwed (applyTrace set s) false s (applyTrace set s) := by
  rw [applyTrace_eq]
  refine (evaluateIn_status _ (makeEvidence (.config 0x42 none set.crc) (traced set s))).congr rfl ?_ ?_ ?_ ?_ fun n => rfl
  all_goals rw [makeEvidence_arc]; rfl

theorem applyTrace_frame (set : TraceSet) (s : State) : applyTrace set s = { s with
    div := (applyTrace set s).div, evu := (applyTrace set s).evu, stg := (applyTrace set s).stg, arc := (applyTrace set s).arc } := by
  refine State.eq_of_fields ?_ ?_ ?_ rfl ?_ ?_ rfl ?_ rfl ?_ rfl ?_ ?_ <;> simp [applyTrace_eq, traced]

theorem applyTrace_evu (set : TraceSet) (s : State) :
    (applyTrace set s).evu.boundary = nextBoundary set.interval s.tsu.xt ∧ (applyTrace set s).evu.chain = s.evu.chain
      ∧ (applyTrace set s).evu.start = s.evu.start := by
  rw [applyTrace_recordedOnly set s]
  exact ⟨rfl, rfl, rfl⟩

/-- CONFIG_TRACE of a legal set. -/
theorem takeTrace_of_legal {b : List Byte} {d set : TraceSet} (read : readTrace b = d) (legal : d.legal)
    (clamped : set = { d with interval := max 1 (min 60 d.interval) }) :
    takeTrace b s = answer (if set = d then .ok else .clamped) (set.fields 16 ++ [⟨40, 4, set.crc⟩]) (applyTrace set s) := by
  subst clamped
  rw [takeTrace, read, checkTrace_of_legal legal]
  have flag (set : TraceSet) : (if (set != d) = true then ReqOutcome.clamped else .ok) = if set = d then .ok else .clamped := by
    by_cases same : set = d <;> simp [same]
  rw [← flag]

/-- Settles O24: the check gives the set after its clamp, and the reports are an evaluation's after the record. -/
theorem config_trace_rebases_and_evaluates : Obligations.config_trace_rebases_and_evaluates := by
  intro s b offered d set ns legal
  refine ⟨fun ok => ⟨_, offered.exec (f := takeTrace) rfl, ?_⟩, fun illegal => ?_⟩
  · rw [takeTrace_of_legal (d := d) (set := set) rfl ok rfl]
    obtain ⟨boundary, chain, start⟩ := applyTrace_evu set s
    obtain ⟨above, within, whole⟩ := nextBoundary_above (interval := set.interval) (Nat.le_max_left _ _) s.tsu.xt
    rw [← boundary] at above within whole
    dsimp only [answer_evu, answer_div, answer_stg, answer_arc]
    refine ⟨above, within, whole, ?_, ?_, chain, start, applyTrace_reservedOnly set s, applyTrace_reportedOnly set s,
      fun x other => applyTrace_has_other set s other, applyTrace_status set s, ?_⟩
    · have inForce : traced set s = { s with
          div := { (if s.div.base = none then s.div else
            { s.div with u0 := min 4294967295 (s.div.u0 + (if s.osc.state = .locked then s.div.trace.rateH else s.div.trace.rateBackup)
                * s.div.secs), base := some s.tsu.xt, secs := 0 }) with trace := set, upCount := 0, upTarget := none }
          evu := { s.evu with boundary := (applyTrace set s).evu.boundary, boundaryTick := some s.osc.tick } } := by
        rw [boundary, traced, Div.rebase_eq]
      rw [← inForce, ← applyTrace_eq]
      refine ⟨?_, rfl, rfl, fun x => rfl⟩
      rw [applyTrace_eq, evaluate_div, makeEvidence_div, makeEvidence_tsu, makeEvidence_osc, inForce]
    · exact answer_rqp_congr (by rw [applyTrace_frame]) (by rw [applyTrace_eq, evaluate_arc_copies, makeEvidence_arc]; rfl) _ _
    · exact congrArg (fun u : State => { u with rqp := (answer (if set = d then .ok else .clamped)
        (set.fields 16 ++ [(⟨40, 4, set.crc⟩ : Field)]) (applyTrace set s)).rqp }) (applyTrace_frame set s)
  · rw [offered.exec (f := takeTrace) rfl, takeTrace, show checkTrace (readTrace b) = _ from checkTrace_of_not_legal illegal]

/-! ### A change of the oscillator (R1, R53, R140) -/

/-- A change of the oscillator up to its evaluation: its record made and the spell based anew. -/
def oscRecorded (new : OscState) (s : State) : State :=
  { makeEvidence (.oscState new) (setOsc new s) with div := s.div.rebase s.osc.state s.tsu.xt }

theorem oscRecorded_tsu (new : OscState) (s : State) : (oscRecorded new s).tsu = s.tsu := makeEvidence_tsu ..

theorem oscRecorded_osc (new : OscState) (s : State) : (oscRecorded new s).osc = { s.osc with state := new } := makeEvidence_osc ..

theorem oscRecorded_arc (new : OscState) (s : State) : (oscRecorded new s).arc = s.arc := makeEvidence_arc ..

theorem changeOsc_eq (new : OscState) (s : State) : changeOsc new s = statusEvent (evaluate (oscRecorded new s)) := by
  unfold changeOsc oscRecorded
  simp only [makeEvidence_div, makeEvidence_tsu]
  rfl

theorem changeOsc_has (new : OscState) (s : State) (x : Cause) :
    (changeOsc new s).arc.has x = (evaluate (oscRecorded new s)).arc.has x := by
  rw [changeOsc_eq, statusEvent_has]

/-- A change of the oscillator owes two writes of the status block. -/
theorem changeOsc_status (new : OscState) (s : State) : StatusOwed (changeOsc new s) true s (changeOsc new s) := by
  rw [changeOsc_eq]
  have first := (evaluateIn_status s.tsu.state (oscRecorded new s)).congr (s' := s)
    (t' := evaluateIn s.tsu.state (oscRecorded new s)) rfl (by rw [oscRecorded_arc]) (by rw [oscRecorded_arc])
    (by rw [oscRecorded_arc]) (by rw [oscRecorded_arc]) fun n => rfl
  have both := first.again (by simp [oscRecorded_arc]) (by simp [oscRecorded_arc])
  rw [evaluate, oscRecorded_tsu]
  exact both.congr rfl rfl rfl rfl rfl fun n => by simp

theorem changeOsc_recordedOnly (new : OscState) (s : State) : s.evu.recordedOnly (changeOsc new s).evu := by
  have record : s.evu.recordedOnly (oscRecorded new s).evu := makeEvidence_recordedOnly (.oscState new) (setOsc new s)
  rw [changeOsc_eq, statusEvent_evu, evaluate]
  exact record.trans (evaluateIn_recordedOnly _ _)

theorem changeOsc_reservedOnly (new : OscState) (s : State) : s.stg.reservedOnly (changeOsc new s).stg := by
  have record : s.stg.reservedOnly (oscRecorded new s).stg := makeEvidence_reservedOnly (.oscState new) (setOsc new s)
  rw [changeOsc_eq, statusEvent_stg, evaluate]
  exact record.trans (evaluateIn_reservedOnly _ _)

theorem changeOsc_reportedOnly (new : OscState) (s : State) : s.arc.reportedOnly (changeOsc new s).arc := by
  rw [changeOsc_eq]
  have report := (evaluateIn_reportedOnly s.tsu.state (oscRecorded new s)).trans (statusEvent_reportedOnly _)
  rw [oscRecorded_arc] at report
  rwa [evaluate, oscRecorded_tsu]

theorem changeOsc_frame (new : OscState) (s : State) : changeOsc new s = { s with
    osc := { s.osc with state := new }, div := (changeOsc new s).div, evu := (changeOsc new s).evu, stg := (changeOsc new s).stg,
    arc := (changeOsc new s).arc } := by
  refine State.eq_of_fields ?_ ?_ ?_ rfl ?_ ?_ rfl ?_ rfl ?_ rfl ?_ ?_ <;> simp [changeOsc_eq, oscRecorded, setOsc]

/-- Settles O8: a change while the part runs is `changeOsc`; in reset the supervisor follows alone. -/
theorem oscillator_change_is_recorded_and_evaluated : Obligations.oscillator_change_is_recorded_and_evaluated := by
  intro s c old new command
  have running (run : s.osc.phase = .running) : exec c s = .next (if s.osc.state = old then changeOsc new s else s) := by
    obtain ⟨rfl, rfl, rfl⟩ | ⟨rfl, rfl, rfl⟩ := command
    · rw [exec_running run]
      show Host.Outcome.next (lockEvent s) = _
      rw [lockEvent, run]
    · rw [exec_running run]
      show Host.Outcome.next (lossOfLock s) = _
      rw [lossOfLock, run]
  have differ : new ≠ old := by
    obtain ⟨-, rfl, rfl⟩ | ⟨-, rfl, rfl⟩ := command <;> decide
  refine ⟨fun run was => ⟨changeOsc new s, by rw [running run, if_pos was], by rw [changeOsc_frame], ?_, ?_, changeOsc_status new s,
    changeOsc_recordedOnly new s, changeOsc_reservedOnly new s, changeOsc_reportedOnly new s, ?_⟩, fun run was => ?_, fun still => ?_⟩
  · subst was
    have based : oscRecorded new s = _ := congrArg (fun d => { makeEvidence (.oscState new) (setOsc new s) with div := d })
      (Div.rebase_eq s.div s.osc.state s.tsu.xt)
    have osc : (changeOsc new s).osc = { s.osc with state := new } := by rw [changeOsc_frame]
    dsimp only
    rw [osc]
    refine ⟨?_, ?_, ?_, fun x => ?_⟩
    · rw [changeOsc_eq, statusEvent_div, evaluate_div, oscRecorded_tsu, oscRecorded_osc, ← Div.rebase_eq]
      rfl
    · rw [changeOsc_eq, statusEvent_evu, based]
      rfl
    · rw [changeOsc_eq, statusEvent_stg, based]
      rfl
    · rw [changeOsc_has, based]
      rfl
  · intro x other
    rw [changeOsc_has, evaluate, evaluateIn_has_other _ other, oscRecorded_arc]
  · conv_lhs => rw [changeOsc_frame]
    rw [changeOsc_frame]
  · rw [running run, if_neg (by rw [was]; exact differ)]
  · obtain ⟨rfl, rfl, rfl⟩ | ⟨rfl, rfl, rfl⟩ := command
    · obtain ⟨power, phase⟩ | ⟨-, absurd⟩ := still
      · rw [exec_of_takes (.inl rfl)]
        show Host.Outcome.next (lockEvent s) = _
        rw [lockEvent, phase]
        rfl
      · cases absurd
    · rw [exec_of_takes (.inl rfl)]
      show Host.Outcome.next (lossOfLock s) = _
      obtain ⟨power, phase⟩ | ⟨⟨low, seen, phase⟩, -⟩ := still <;> rw [lossOfLock, phase] <;> rfl

end Sys2Proof.Machine
end

section
/-! SUPPORT. The reports of a step and of a loss, and the statement on the loss timeout (R11, R16, R40, R41, R48). -/

namespace Sys2Proof.Machine

variable {s t u : State}

/-! ### What reports leave (R38, R53, R119, R126) -/

/-- Records may have been made and causes and status writes raised between two states. -/
structure Reported (s t : State) : Prop where
  evu : s.evu.recordedOnly t.evu
  stg : s.stg.reservedOnly t.stg
  arc : s.arc.reportedOnly t.arc

namespace Reported

theorem of_eq (evu : t.evu = s.evu) (stg : t.stg = s.stg) (arc : t.arc = s.arc) : Reported s t :=
  ⟨by rw [evu]; rfl, by rw [stg]; rfl, by rw [arc]; rfl⟩

theorem refl (s : State) : Reported s s := of_eq rfl rfl rfl

theorem trans (h : Reported s t) (k : Reported t u) : Reported s u :=
  ⟨h.evu.trans k.evu, h.stg.trans k.stg, h.arc.trans k.arc⟩

/-- What is reported from a state with the same units. -/
theorem after (h : Reported t u) (evu : t.evu = s.evu) (stg : t.stg = s.stg) (arc : t.arc = s.arc) : Reported s u :=
  (of_eq evu stg arc).trans h

theorem statusEvent (s : State) : Reported s (statusEvent s) :=
  ⟨by rw [statusEvent_evu]; rfl, by rw [statusEvent_stg]; rfl, statusEvent_reportedOnly s⟩

theorem raise (c : Cause) (s : State) : Reported s (raise c s) := ⟨rfl, rfl, raise_reportedOnly c s⟩

theorem makeEvidence (b : EvBody) (s : State) : Reported s (makeEvidence b s) :=
  ⟨makeEvidence_recordedOnly b s, makeEvidence_reservedOnly b s, makeEvidence_reportedOnly b s⟩

theorem onAcc (f : Accum → Accum) (s : State) : Reported s (onAcc f s) := ⟨rfl, rfl, rfl⟩

theorem evaluateIn (ts : TsState) (s : State) : Reported s (evaluateIn ts s) :=
  ⟨evaluateIn_recordedOnly ts s, evaluateIn_reservedOnly ts s, evaluateIn_reportedOnly ts s⟩

theorem evaluate (s : State) : Reported s (evaluate s) := evaluateIn _ s

theorem evaluate_after (div : Div) : Reported s (Machine.evaluate { s with div := div }) :=
  (evaluate { s with div := div }).after rfl rfl rfl

theorem act (r : Report) (s : State) : Reported s (r.act s) := by
  cases r with
  | freqLimit => exact onAcc _ s
  | accepted theta => exact onAcc _ s
  | leapOffset old new => exact makeEvidence _ s
  | timescale old new step => exact ((makeEvidence _ s).trans (raise _ _)).trans (statusEvent _)
  | pulse uMod theta => exact evaluate_after _
  | holdover u0 => exact evaluate_after _
  | good run => exact (makeEvidence _ s).trans (statusEvent _)

end Reported

theorem evaluate_has (x : Cause) (s : State) : (evaluate s).arc.has x = true ↔
    s.arc.has x = true ∨ x = .classChange ∧ (evaluate s).div.cls ≠ s.div.cls := evaluateIn_has _ x s

/-- A report sets the bit of its change, and that of a class it changes. -/
theorem Report.act_has (r : Report) (x : Cause) (s : State) : (r.act s).arc.has x = true ↔ s.arc.has x = true
    ∨ (x = .timescaleState ∧ ∃ old new step, r = .timescale old new step) ∨ (x = .classChange ∧ (r.act s).div.cls ≠ s.div.cls) := by
  cases r with
  | freqLimit => simp [Report.act]
  | accepted theta => simp [Report.act]
  | leapOffset old new => simp [Report.act]
  | timescale old new step =>
    simp only [Report.act, statusEvent_has, raise_has, makeEvidence_arc, statusEvent_div, raise_div, makeEvidence_div]
    simp
  | pulse uMod theta =>
    simp only [Report.act, evaluatePulse, evaluate_has]
    simp
  | holdover u0 =>
    simp only [Report.act, beginHoldover, evaluate_has]
    simp
  | good run => simp [Report.act, statusEvent_has]

theorem Report.act_frame (r : Report) (s : State) : r.act s = { s with
    div := (r.act s).div, evu := (r.act s).evu, stg := (r.act s).stg, arc := (r.act s).arc } := by
  refine State.eq_of_fields ?_ ?_ ?_ rfl ?_ ?_ rfl ?_ rfl ?_ rfl ?_ ?_ <;> simp

/-- The same report leaves agreement. -/
theorem Agree.act (h : Agree s t) (div : t.div = s.div) (r : Report) : Agree (r.act s) (r.act t) := by
  have xt : t.tsu.xt = s.tsu.xt := congrArg Reading.xt h.reading
  have based (d : Div) : Agree { s with div := d } { t with div := d } := by
    refine ⟨h.evu, h.stg, h.osc, ?_⟩
    have ts := congrArg Reading.ts h.reading
    have leap := congrArg Reading.leap h.reading
    simp only [State.reading] at ts leap ⊢
    rw [xt, ts, leap, h.osc]
  cases r with
  | freqLimit => exact h.onAcc _
  | accepted theta => exact h.onAcc _
  | leapOffset old new => exact h.makeEvidence _
  | timescale old new step =>
    have made := ((h.makeEvidence (.timescaleState old new (step.map fit64))).raise .timescaleState).statusEvent
    exact made.left (by simp [Report.act]) (by simp [Report.act]) (by simp [Report.act]) (by simp [Report.act, State.reading])
  | pulse uMod theta =>
    simp only [Report.act, evaluatePulse, div]
    exact (based _).evaluate rfl
  | holdover u0 =>
    simp only [Report.act, beginHoldover, div, xt]
    exact (based _).evaluate rfl
  | good run =>
    exact (h.makeEvidence _).statusEvent.left (by simp [Report.act]) (by simp [Report.act]) (by simp [Report.act])
      (by simp [Report.act, State.reading])

/-! ### The loss timeout (R16, R40, R41, R48) -/

theorem loseReference_bad (bad : s.ref.state = .bad) : loseReference s = s := by
  rw [loseReference, bad]

theorem loseReference_good (good : s.ref.state = .good) : loseReference s =
    statusEvent (makeEvidence (.refState .bad .loss .none none) (onRef (fun r => { r with state := .bad }) s)) := by
  rw [loseReference, good]

theorem Reported.loseReference (s : State) : Reported s (loseReference s) := by
  cases state : s.ref.state with
  | bad =>
    rw [loseReference_bad state]
    exact refl s
  | good =>
    rw [loseReference_good state]
    exact ((makeEvidence _ _).trans (statusEvent _)).after rfl rfl rfl

theorem loseReference_has (x : Cause) (s : State) : (loseReference s).arc.has x = s.arc.has x := by
  cases state : s.ref.state with
  | bad => rw [loseReference_bad state]
  | good =>
    rw [loseReference_good state, statusEvent_has, makeEvidence_arc]
    rfl

theorem loseReference_ref (s : State) : (loseReference s).ref = { s.ref with state := .bad } := by
  cases state : s.ref.state with
  | bad => rw [loseReference_bad state, ← state]
  | good => simp [loseReference_good state, onRef]

theorem losesReference_iff (x : TsState) : x.losesReference = true ↔ x = .acquiring ∨ x = .tracking ∨ x = .slewing := by
  cases x <;> simp [TsState.losesReference]

theorem lossAtTsu_follows (follows : s.tsu.state.losesReference = true) : lossAtTsu s =
    (Report.holdover s.div.u).act ((Report.timescale s.tsu.state .holdover none).act { s with tsu := s.tsu.lose }) := if_pos follows

theorem lossAtTsu_free (free : s.tsu.state.losesReference = false) : lossAtTsu s = s := if_neg (by simp [free])

theorem Reported.lossAtTsu (s : State) : Reported s (lossAtTsu s) := by
  cases follows : s.tsu.state.losesReference with
  | true =>
    rw [lossAtTsu_follows follows]
    exact ((act _ { s with tsu := s.tsu.lose }).trans (act _ _)).after rfl rfl rfl
  | false =>
    rw [lossAtTsu_free follows]
    exact refl s

/-- The loss at the TSU, as its records see it: the entry to HOLDOVER evaluated after its record. -/
def heldOver (s : State) : State :=
  evaluate { makeEvidence (.timescaleState s.tsu.state .holdover none) { s with tsu := s.tsu.lose } with
    div := { s.div with u0 := s.div.u, base := some s.tsu.xt, secs := 0 } }

theorem lossAtTsu_agrees (follows : s.tsu.state.losesReference = true) (f : Ref → Ref) :
    Agree (heldOver s) (lossAtTsu (onRef f s)) ∧ (lossAtTsu (onRef f s)).div = (heldOver s).div
      ∧ ∀ x, x ≠ .timescaleState → (lossAtTsu (onRef f s)).arc.has x = (heldOver s).arc.has x := by
  rw [lossAtTsu_follows (s := onRef f s) follows]
  have lost : Agree { s with tsu := s.tsu.lose } { onRef f s with tsu := s.tsu.lose } := ⟨rfl, rfl, rfl, rfl⟩
  have recorded := ((lost.makeEvidence (.timescaleState s.tsu.state .holdover none)).raise .timescaleState).statusEvent
  let div : Div := { s.div with u0 := s.div.u, base := some s.tsu.xt, secs := 0 }
  let before : State := { makeEvidence (.timescaleState s.tsu.state .holdover none) { s with tsu := s.tsu.lose } with div := div }
  let moved : State := (Report.timescale s.tsu.state .holdover none).act { onRef f s with tsu := s.tsu.lose }
  have movedDiv : moved.div = s.div := by
    simp only [moved, Report.act, statusEvent_div, raise_div, makeEvidence_div]
    rfl
  have movedXt : moved.tsu.xt = s.tsu.xt := by
    simp only [moved, Report.act_tsu]
    rfl
  have entered : (Report.holdover s.div.u).act moved = evaluate { moved with div := div } := by
    show evaluate { moved with div := { moved.div with u0 := s.div.u, base := some moved.tsu.xt, secs := 0 } } = _
    rw [movedDiv, movedXt]
  have based : Agree before { moved with div := div } :=
    ⟨recorded.evu, recorded.stg, recorded.osc, by simp [State.reading, before, moved, onRef]⟩
  have divs : (evaluate { moved with div := div }).div = (evaluate before).div := by
    rw [evaluate_div, evaluate_div]
    simp [before, moved, onRef]
  show Agree (evaluate before) ((Report.holdover s.div.u).act moved) ∧ ((Report.holdover s.div.u).act moved).div = (evaluate before).div
    ∧ ∀ x, x ≠ .timescaleState → ((Report.holdover s.div.u).act moved).arc.has x = (evaluate before).arc.has x
  rw [entered]
  refine ⟨based.evaluate rfl, divs, fun x other => ?_⟩
  have same : moved.arc.has x = before.arc.has x := by
    rw [Bool.eq_iff_iff]
    simp only [before, moved, Report.act, statusEvent_has, raise_has, makeEvidence_arc]
    simp [other, onRef]
  have change := evaluate_has x { moved with div := div }
  rw [divs] at change
  rw [Bool.eq_iff_iff, change, evaluate_has, ← same]

/-- An evaluation after an event makes one further write due. -/
theorem StatusOwed.evaluateIn {b : Bool} {seen : State} (h : StatusOwed seen b s t) (enable : t.arc.enable = s.arc.enable)
    (linkReset : t.arc.linkReset = s.arc.linkReset) (ts : TsState) : StatusOwed seen true s (evaluateIn ts t) := by
  by_cases same : (t.div.evaluate ts t.osc.state).cls = t.div.cls
  · rw [evaluateIn_same same]
    have before : StatusOwed seen b s (measured ts t) := h.congr rfl rfl rfl rfl rfl fun _ => rfl
    exact before.again enable linkReset
  · rw [evaluateIn_changed same]
    refine StatusOwed.again (b := b) (h.congr ?_ rfl rfl rfl rfl fun _ => rfl) ?_ ?_
    · simp [measured, Arc.raise_status]
    · simpa [measured] using enable
    · simpa [measured] using linkReset

theorem StatusOwed.act_holdover {b : Bool} {seen : State} (h : StatusOwed seen b s t) (enable : t.arc.enable = s.arc.enable)
    (linkReset : t.arc.linkReset = s.arc.linkReset) (u0 : Nat) : StatusOwed seen true s ((Report.holdover u0).act t) :=
  StatusOwed.evaluateIn (t := { t with div := { t.div with u0 := u0, base := some t.tsu.xt, secs := 0 } }) (b := b)
    (h.congr rfl rfl rfl rfl rfl fun _ => rfl) enable linkReset _

theorem StatusOwed.loseReference {seen : State} (h : StatusOwed seen true s t) (enable : t.arc.enable = s.arc.enable)
    (linkReset : t.arc.linkReset = s.arc.linkReset) : StatusOwed seen true s (loseReference t) := by
  cases state : t.ref.state with
  | bad => rwa [loseReference_bad state]
  | good =>
    rw [loseReference_good state]
    refine StatusOwed.again (b := true) (h.congr ?_ rfl rfl rfl rfl fun _ => rfl) ?_ ?_
    · rw [makeEvidence_arc]
      rfl
    · rwa [makeEvidence_arc]
    · rwa [makeEvidence_arc]

/-- A change of the timescale state owes a write of the status block with the values before the evaluation. -/
theorem StatusOwed.act_timescale (old new : TsState) (step : Option Nat) (s : State) :
    StatusOwed s false s ((Report.timescale old new step).act s) := by
  refine (StatusOwed.of_event (raise .timescaleState (makeEvidence (.timescaleState old new (step.map fit64)) s))).congr rfl ?_ ?_ ?_ ?_
    fun _ => by simp
  all_goals simp [Arc.raise_status]

/-- The change of the reference state to BAD, on states that agree. -/
theorem Agree.loseReference (h : Agree s t) : Agree (if t.ref.state = .good then
    Machine.makeEvidence (.refState .bad .loss .none none) s else s) (Machine.loseReference t) := by
  cases state : t.ref.state with
  | bad =>
    rw [loseReference_bad state]
    exact h
  | good =>
    rw [loseReference_good state]
    have shown : Agree s (onRef (fun r => { r with state := .bad }) t) := h.right rfl rfl rfl rfl
    exact (shown.makeEvidence _).statusEvent

theorem Tsu.lose_eq (t : Tsu) :
    t.lose = { t with state := .holdover, p := 0, slew := .ticks 0, good := 0, inc := incOf t.f } := by
  simp [Tsu.lose, Tsu.still, Tsu.retune]

/-- The loss timeout at its expiry. -/
theorem lossTimeout_due {e : Nat} (timer : s.ref.lossTimer = some e) (due : e ≤ s.osc.tick) :
    lossTimeout s = loseReference (lossAtTsu (onRef Ref.expire s)) := by
  rw [lossTimeout, if_pos]
  simp [lossDue, timer, due]

/-- Settles O21: the loss by whether the timescale follows the reference, and by the state of the reference. -/
theorem loss_timeout_enters_holdover : Obligations.loss_timeout_enters_holdover := by
  intro s e run timer
  refine ⟨fun early => ?_, fun due => ⟨lossTimeout s, exec_running run, ?_⟩⟩
  · rw [exec_running run]
    show Host.Outcome.next (lossTimeout s) = _
    rw [lossTimeout, if_neg]
    simp [lossDue, timer, early]
  · rw [lossTimeout_due timer due]
    have reported : Reported s (loseReference (lossAtTsu (onRef Ref.expire s))) :=
      ((Reported.lossAtTsu (onRef Ref.expire s)).trans (Reported.loseReference _)).after rfl rfl rfl
    refine ⟨by simp [loseReference_ref, onRef, Ref.expire], ?_, reported.evu, reported.stg, reported.arc, ?_⟩
    · dsimp only
      cases loses : s.tsu.state.losesReference with
      | false =>
        have free : ¬(s.tsu.state = .acquiring ∨ s.tsu.state = .tracking ∨ s.tsu.state = .slewing) := by
          rw [← losesReference_iff, loses]
          decide
        rw [lossAtTsu_free (s := onRef Ref.expire s) loses]
        simp only [if_neg free]
        have ending := Agree.loseReference (s := s) (t := onRef Ref.expire s) ⟨rfl, rfl, rfl, rfl⟩
        refine ⟨fun _ => by rw [loseReference_tsu]; rfl, fun k => absurd k free, fun _ good => ?_, fun _ bad => ?_, ?_, ?_, ?_, ?_⟩
        · rw [loseReference_good (s := onRef Ref.expire s) good]
          refine (StatusOwed.of_event _).congr rfl ?_ ?_ ?_ ?_ fun _ => by simp
          all_goals rw [makeEvidence_arc]; rfl
        · rw [loseReference_bad (s := onRef Ref.expire s) bad]
          rfl
        · rw [loseReference_div]
          rfl
        · exact ending.evu
        · exact ending.stg
        · intro x _
          rw [loseReference_has]
          rfl
      | true =>
        have follows := (losesReference_iff _).mp loses
        simp only [if_pos follows]
        have tsu : (loseReference (lossAtTsu (onRef Ref.expire s))).tsu = s.tsu.lose := by
          rw [loseReference_tsu, lossAtTsu_tsu]
          exact if_pos loses
        obtain ⟨agrees, divs, has⟩ := lossAtTsu_agrees loses Ref.expire
        have ending := agrees.loseReference
        have owed := (StatusOwed.act_timescale s.tsu.state .holdover none { onRef Ref.expire s with tsu := s.tsu.lose }).act_holdover
          (by simp) (by simp) s.div.u
        rw [lossAtTsu_ref, show (onRef Ref.expire s).ref.state = s.ref.state from rfl] at ending
        rw [tsu, ← Tsu.lose_eq]
        refine ⟨fun k => absurd follows k, fun _ => ⟨rfl, ?_, ?_, ?_⟩, fun k => absurd follows k, fun k => absurd follows k, ?_, ?_, ?_, ?_⟩
        · obtain ⟨-, bound, -⟩ := evaluation_gives_bound_and_class
            { s.div with u0 := s.div.u, base := some s.tsu.xt, secs := 0 } .holdover s.osc.state
          rw [loseReference_div, divs, heldOver, evaluate_div, makeEvidence_tsu, makeEvidence_osc]
          exact bound rfl
        · rw [loseReference_has, lossAtTsu_follows (s := onRef Ref.expire s) loses, Report.act_has, Report.act_has]
          exact .inl (.inr (.inl ⟨rfl, _, _, _, rfl⟩))
        · have lost := lossAtTsu_follows (s := onRef Ref.expire s) loses
          have whole : StatusOwed _ true _ (lossAtTsu (onRef Ref.expire s)) := lost ▸ owed
          refine (whole.loseReference ?_ ?_).congr rfl rfl rfl rfl rfl fun _ => ?_
          · simp [onRef]
          · simp [onRef]
          · simp [onRef, Ref.expire]
        · rw [loseReference_div, divs]
          rfl
        · exact ending.evu
        · exact ending.stg
        · intro x other
          rw [loseReference_has, has x other]
          rfl
    · refine State.eq_of_fields ?_ rfl rfl rfl ?_ ?_ rfl ?_ rfl ?_ rfl ?_ ?_ <;> simp [onRef]

end Sys2Proof.Machine
end

section
/-! SUPPORT. The cascade of a step, and the statement on SET_TIME (R14, R18, R97, R99, R130, R166). -/

namespace Sys2Proof.Machine

variable {s t u : State}

/-! ### The request processor stands apart from the cascade and the SUMMARY -/

/-- The state with another request processor. -/
def withRqp (r : Rqp) (s : State) : State := { s with rqp := r }

section
variable (r : Rqp) (s : State)

theorem flushReset_withRqp : flushReset (withRqp r s) = withRqp r (flushReset s) := by
  show (match s.evu.pendingReset with | none => withRqp r s | some c => if evidenceRoom s then _ else withRqp r s) = _
  unfold flushReset
  cases s.evu.pendingReset with
  | none => rfl
  | some c => cases evidenceRoom s <;> rfl

theorem makeEvidence_withRqp (b : EvBody) : makeEvidence b (withRqp r s) = withRqp r (makeEvidence b s) := by
  unfold makeEvidence
  rw [flushReset_withRqp, show evidenceRoom (withRqp r (flushReset s)) = evidenceRoom (flushReset s) from rfl]
  cases evidenceRoom (flushReset s) <;> rfl

theorem summaryStep_withRqp : summaryStep (withRqp r s) = withRqp r (summaryStep s) := by
  have attempt : attemptSummary (withRqp r s) = withRqp r (attemptSummary s) := by
    unfold attemptSummary
    rw [flushReset_withRqp]
    dsimp only
    rw [show evidenceRoom (withRqp r (flushReset s)) = evidenceRoom (flushReset s) from rfl]
    cases evidenceRoom (flushReset s) <;> rfl
  unfold summaryStep
  rw [attempt, show summaryIsDue (withRqp r s) = summaryIsDue s from rfl]
  cases summaryIsDue s <;> rfl

theorem pushNotice_withRqp (n : Notice) (x : Nat) : pushNotice n x (withRqp r s) = withRqp r (pushNotice n x s) := rfl

theorem setGroup_withRqp (g : Fin 64) (v : Group) (d : Option (Nat × Tag)) :
    setGroup g v d (withRqp r s) = withRqp r (setGroup g v d s) := rfl

theorem raise_withRqp (c : Cause) : raise c (withRqp r s) = withRqp r (raise c s) := rfl

theorem enterDecide_withRqp (g : Fin 64) (v : Group) (x c : Nat) (f : NoticeFlags) :
    enterDecide g v x c f (withRqp r s) = withRqp r (enterDecide g v x c f s) := by
  unfold enterDecide
  dsimp only
  rw [setGroup_withRqp, pushNotice_withRqp, makeEvidence_withRqp, raise_withRqp]

theorem drawOffset_withRqp (w : Nat) : drawOffset w (withRqp r s) = ((drawOffset w s).1, withRqp r (drawOffset w s).2) := by
  unfold drawOffset
  split <;> rfl

theorem handleEnd_withRqp (d : Deadline) : handleEnd d (withRqp r s) = withRqp r (handleEnd d s) := by
  unfold handleEnd
  dsimp only
  rw [show group (withRqp r s) d.group = group s d.group from rfl, drawOffset_withRqp,
    show steppedOver (withRqp r s) = steppedOver s from rfl, show (withRqp r s).div = s.div from rfl]
  split
  · rw [enterDecide_withRqp]
  · split
    · rw [enterDecide_withRqp]
    · rfl

theorem handleLimit_withRqp (d : Deadline) : handleLimit d (withRqp r s) = withRqp r (handleLimit d s) := by
  unfold handleLimit
  rw [show group (withRqp r s) d.group = group s d.group from rfl, show steppedOver (withRqp r s) = steppedOver s from rfl]
  dsimp only
  split <;> rfl

theorem handleDeadline_withRqp (d : Deadline) : handleDeadline d (withRqp r s) = withRqp r (handleDeadline d s) := by
  unfold handleDeadline
  cases d.tag with
  | start => rfl
  | end_ => exact handleEnd_withRqp r s d
  | cutoff => exact enterDecide_withRqp r s ..
  | decideLimit => exact handleLimit_withRqp r s d

theorem pruneSpans_withRqp : pruneSpans (withRqp r s) = withRqp r (pruneSpans s) := by
  unfold pruneSpans
  rw [show dueHead (withRqp r s) = dueHead s from rfl]
  cases (dueHead s).isSome <;> rfl

theorem handleReady_withRqp : handleReady (withRqp r s) = withRqp r (handleReady s) := by
  unfold handleReady
  rw [show ready (withRqp r s) = ready s from rfl]
  cases ready s with
  | none => rfl
  | some d =>
    dsimp only
    rw [handleDeadline_withRqp, pruneSpans_withRqp]

theorem cascade_withRqp (n : Nat) (s : State) : cascade n (withRqp r s) = withRqp r (cascade n s) := by
  induction n generalizing s with
  | zero => rfl
  | succ n ih =>
    unfold cascade
    rw [show ready (withRqp r s) = ready s from rfl, handleReady_withRqp, ih]
    cases (ready s).isSome <;> rfl

end

/-! ### The cascade as deadline rows (R97, R99) -/

theorem enterDecide_notices (g : Fin 64) (v : Group) (x c : Nat) (f : NoticeFlags) (s : State) :
    (enterDecide g v x c f s).auc.notices.length = s.auc.notices.length + 1 := by
  unfold enterDecide
  dsimp only
  rw [raise_auc, makeEvidence_auc]
  simp [pushNotice, setGroup]

theorem drawOffset_notices (w : Nat) (s : State) : (drawOffset w s).2.auc.notices = s.auc.notices := by
  unfold drawOffset
  split <;> rfl

/-- A deadline handled makes one notice (R101 to R104, R109). -/
theorem handleDeadline_notices (d : Deadline) (s : State) :
    (handleDeadline d s).auc.notices.length = s.auc.notices.length + 1 := by
  unfold handleDeadline
  cases d.tag with
  | start => simp [handleStart, pushNotice, setGroup]
  | end_ =>
    show (handleEnd d s).auc.notices.length = _
    unfold handleEnd
    dsimp only
    split
    · exact enterDecide_notices ..
    · split
      · rw [enterDecide_notices, drawOffset_notices]
      · simp [pushNotice, setGroup, drawOffset_notices]
  | cutoff => exact enterDecide_notices ..
  | decideLimit =>
    show (handleLimit d s).auc.notices.length = _
    unfold handleLimit
    dsimp only
    split <;> simp [pushNotice, setGroup]

theorem pruneSpans_notices (s : State) : (pruneSpans s).auc.notices = s.auc.notices := by
  unfold pruneSpans
  split <;> rfl

theorem handleReady_ready {d : Deadline} (h : ready s = some d) : handleReady s = pruneSpans (handleDeadline d s) := by
  rw [handleReady, h]

theorem handleReady_notices {d : Deadline} (h : ready s = some d) :
    (handleReady s).auc.notices.length = s.auc.notices.length + 1 := by
  rw [handleReady_ready h, pruneSpans_notices, handleDeadline_notices]

/-- The row of a deadline. -/
def Tag.row : Tag → Instr
  | .start => .startDeadline
  | .end_ => .endDeadline
  | .cutoff => .cutoffDeadline
  | .decideLimit => .decideLimit

theorem exec_row (run : s.osc.phase = .running) {d : Deadline} (h : ready s = some d) :
    exec d.tag.row s = .next (handleReady s) := by
  have handled : handleTagged d.tag s = handleReady s := by
    rw [handleTagged, h, handleReady_ready h]
    exact if_pos rfl
  rw [← handled, exec_running run]
  cases d.tag <;> rfl

/-- Where no deadline is ready, the queue is full or none is due. -/
theorem ready_none (h : ready s = none) :
    128 ≤ s.auc.notices.length ∨ ∀ d, s.auc.deadlines.head? = some d → s.tsu.xt < d.instant := by
  unfold ready at h
  split at h
  · refine .inr fun d head => ?_
    simpa [dueHead, comparator, head] using h
  · have full : ¬noticeRoom s = true := ‹_›
    exact .inl (Nat.le_of_not_lt fun k => full (decide_eq_true k))

theorem Follows.cons {c : Instr} {cs : List Instr} (first : exec c s = .next t) (rest : Follows cs t u) : Follows (c :: cs) s u :=
  ⟨t, first, rest⟩

/-- The cascade is a run of deadline rows. -/
theorem cascade_follows (n : Nat) (s : State) (run : s.osc.phase = .running) (fuel : 128 ≤ s.auc.notices.length + n) :
    ∃ cs : List Instr, cs.length ≤ n
      ∧ (∀ c ∈ cs, c = .startDeadline ∨ c = .endDeadline ∨ c = .cutoffDeadline ∨ c = .decideLimit)
      ∧ Follows cs s (cascade n s) ∧ (128 ≤ (cascade n s).auc.notices.length
        ∨ ∀ d, (cascade n s).auc.deadlines.head? = some d → (cascade n s).tsu.xt < d.instant) := by
  induction n generalizing s with
  | zero => exact ⟨[], Nat.le_refl _, nofun, rfl, .inl fuel⟩
  | succ n ih =>
    cases h : ready s with
    | none =>
      have idle : cascade (n + 1) s = s := by rw [cascade, h]; rfl
      rw [idle]
      exact ⟨[], Nat.zero_le _, nofun, rfl, ready_none h⟩
    | some d =>
      have next : cascade (n + 1) s = cascade n (handleReady s) := by rw [cascade, h]; rfl
      rw [next]
      obtain ⟨cs, len, rows, follows, ended⟩ := ih (handleReady s) (by rwa [handleReady_osc])
        (by rw [handleReady_notices h]; omega)
      refine ⟨d.tag.row :: cs, by simpa using len, ?_, follows.cons (exec_row run h), ended⟩
      intro c mem
      obtain rfl | mem := List.mem_cons.mp mem
      · cases d.tag <;> simp [Tag.row]
      · exact rows c mem

/-- The cascade and the SUMMARY of a step, left to the commands of its tick. -/
theorem cascadedTo (run : s.osc.phase = .running) : CascadedTo s (summaryStep (cascade noticePlaces s)) := by
  obtain ⟨cs, len, rows, follows, ended⟩ := cascade_follows noticePlaces s run (Nat.le_add_left _ _)
  exact ⟨cs, _, len, rows, follows, ended, exec_running (by rwa [cascade_osc])⟩

/-! ### A step of XT (R6, R14, R36, R99) -/

theorem QueuedEvidence.endsInterval_eq (now : Nat) (q : QueuedEvidence) :
    q.endsInterval now = decide (q.capTick = now ∧ q.body.code = 0x22) := by
  obtain ⟨hdr, capTick, body, asked⟩ := q
  cases body <;> simp [QueuedEvidence.endsInterval, EvBody.code]

theorem Evu.moved_eq (S : Nat) (s : State) :
    s.evu.moved s.osc.tick S s.div.trace.interval (fit64 (s.tsu.xt + S)) = restamped S s := by
  unfold Evu.moved restamped
  simp only [QueuedEvidence.endsInterval_eq]
  rfl

theorem Div.moved_frame (d : Div) (before S : Nat) : ∃ b, d.moved before S = { d with base := b } := ⟨_, rfl⟩

/-- What a move with a step leaves. -/
theorem applyMove_step {m : Move} {S : Nat} (step : m.step = some S) (s : State) :
    applyMove m s = { s with
      tsu := m.tsu, ref := s.ref.moved S, div := s.div.moved s.tsu.xt S, taps := (applyMove m s).taps, seq := (applyMove m s).seq,
      auc := (applyMove m s).auc, evu := restamped S s } := by
  unfold applyMove
  rw [step]
  refine State.eq_of_fields ?_ ?_ ?_ ?_ rfl rfl ?_ rfl ?_ ?_ ?_ ?_ ?_ <;> simp
  exact Evu.moved_eq S s

theorem applyMove_step_ref {m : Move} {S : Nat} (step : m.step = some S) (s : State) : (applyMove m s).ref = s.ref.moved S := by
  rw [applyMove_step step]

theorem applyMove_step_div {m : Move} {S : Nat} (step : m.step = some S) (s : State) :
    (applyMove m s).div = s.div.moved s.tsu.xt S := by
  rw [applyMove_step step]

theorem applyMove_step_evu {m : Move} {S : Nat} (step : m.step = some S) (s : State) : (applyMove m s).evu = restamped S s := by
  rw [applyMove_step step]

theorem dueHead_isSome (s : State) : (dueHead s).isSome = s.auc.deadlines.head?.any fun d => decide (d.instant ≤ s.tsu.xt) :=
  Option.isSome_filter

theorem applyMove_steppedBy {m : Move} {S : Nat} (step : m.step = some S) (s : State) : SteppedBy S s (applyMove m s) := by
  unfold applyMove
  rw [step]
  refine ⟨fun n => ?_, ?_, ?_⟩
  · simp [port, moveReadings, Port.moved, movedReading]
  · simp [moveReadings, StampEntry.moved, movedReading]
  · simp only [pruneSpans_tsu]
    unfold pruneSpans
    rw [dueHead_isSome]
    dsimp only [moveReadings]
    split <;> rfl

/-! ### Fields of a slot -/

theorem leNat_lt (bs : List Byte) : leNat bs < 2 ^ (8 * bs.length) := by
  induction bs with
  | nil => decide
  | cons b bs ih =>
    have byte := b.isLt
    have width : 2 ^ (8 * (b :: bs).length) = 256 * 2 ^ (8 * bs.length) := by
      rw [List.length_cons, Nat.mul_succ, Nat.pow_add, Nat.mul_comm]
    rw [leNat, width]
    omega

theorem fieldAt_lt (bs : List Byte) (off n : Nat) : fieldAt bs off n < 2 ^ (8 * n) :=
  (leNat_lt _).trans_le (Nat.pow_le_pow_right (by decide) (Nat.mul_le_mul_left 8 (List.length_take_le n _)))

/-- What a step leaves speaks of the ports, the sequencer, the auction timer and XT. -/
theorem SteppedBy.congr {S : Nat} (h : SteppedBy S s t) (taps : u.taps = t.taps) (seq : u.seq = t.seq) (auc : u.auc = t.auc)
    (xt : u.tsu.xt = t.tsu.xt) : SteppedBy S s u := by
  obtain ⟨ports, stamp, spans⟩ := h
  refine ⟨fun n => ?_, by rw [seq, stamp], by rw [auc, xt, spans]⟩
  rw [port, taps]
  exact ports n

/-! ### The reports of a step among its cascade and its SUMMARY (R11, R99, R130) -/

/-- What a report makes of the divergence monitor is made of it, of the timescale unit and of the oscillator alone. -/
theorem Report.act_div_congr (r : Report) (div : t.div = s.div) (tsu : t.tsu = s.tsu) (osc : t.osc = s.osc) :
    (r.act t).div = (r.act s).div := by
  cases r with
  | pulse uMod theta => simp only [Report.act, evaluatePulse, evaluate_div, div, tsu, osc]
  | holdover u0 => simp only [Report.act, beginHoldover, evaluate_div, div, tsu, osc]
  | _ => simpa [Report.act, Machine.onAcc] using div

theorem reports_div_congr (rs : List Report) (div : t.div = s.div) (tsu : t.tsu = s.tsu) (osc : t.osc = s.osc) :
    (rs.foldl (fun t r => r.act t) t).div = (rs.foldl (fun t r => r.act t) s).div := by
  induction rs generalizing s t with
  | nil => exact div
  | cons r rs ih => exact ih (r.act_div_congr div tsu osc) (by simpa using tsu) (by simpa using osc)

theorem reports_tsu (rs : List Report) (s : State) : (rs.foldl (fun t r => r.act t) s).tsu = s.tsu := by
  induction rs generalizing s with
  | nil => rfl
  | cons r rs ih => exact (ih _).trans (r.act_tsu _)

/-- With no spell to count on and no group request to take, the order of a step's reports leaves the bound and the timescale as the
reports do. -/
theorem runStep_settled {old : TsState} (start : old ≠ .holdover) (ps : List Pick) (rs : List Report) (s : State)
    (idle : s.rqp.phase = .offered → byteAt s.rqp.bytes 0 ∉ [0x10, 0x11, 0x12, 0x13, 0x14, 0x15]) :
    (runStep old ps rs s).tsu = s.tsu ∧ (runStep old ps rs s).div = (rs.foldl (fun t r => r.act t) s).div := by
  induction ps generalizing rs s with
  | nil => simp [runStep, reports_tsu]
  | cons p ps ih =>
    cases p with
    | report =>
      cases rs with
      | nil => exact ih [] s idle
      | cons r rs =>
        obtain ⟨tsu, div⟩ := ih rs (r.act s) (by simpa using idle)
        exact ⟨tsu.trans (r.act_tsu s), div⟩
    | deadline =>
      obtain ⟨tsu, div⟩ := ih rs (handleReady s) (by simpa using idle)
      exact ⟨tsu.trans (by simp), div.trans (reports_div_congr rs (by simp) (by simp) (by simp))⟩
    | summary =>
      obtain ⟨tsu, div⟩ := ih rs (summaryStep s) (by simpa using idle)
      exact ⟨tsu.trans (by simp), div.trans (reports_div_congr rs (by simp) (by simp) (by simp))⟩
    | second =>
      have none : secondBefore old s = s := if_neg start
      rw [runStep, none]
      exact ih rs s idle
    | groupRequest =>
      rw [runStep, takeGroupRequest_none s idle]
      exact ih rs s idle
    | request => exact ⟨reports_tsu rs s, rfl⟩

/-! ### SET_TIME (R14, R18, R166) -/

/-- The two reports of a SET_TIME, from the state its step leaves. -/
def setTimeReports (u0 S : Nat) (s : State) : State :=
  (Report.holdover u0).act ((Report.timescale .unset .holdover (some S)).act s)

theorem acceptSetTime_request (value u0 : Nat) (s : State) : acceptSetTime value u0 [.request] s =
    setTimeReports u0 (value - s.tsu.xt) (applyMove (s.tsu.setTime value) s) := rfl

theorem acceptSetTime_cascade (value u0 : Nat) (s : State) : acceptSetTime value u0 [] s =
    summaryStep (cascade noticePlaces (acceptSetTime value u0 [.request] s)) := rfl

theorem Tsu.setTime_tsu (t : Tsu) {value : Nat} (above : t.xt < value) (fits : value < 2 ^ 64) :
    (t.setTime value).tsu = { t with
      xt := value, f := (t.pendingSet.getD t.set).initialF, p := 0, slew := .ticks 0, inc := incOf (t.pendingSet.getD t.set).initialF,
      state := .holdover, set := t.pendingSet.getD t.set, pendingSet := none } := by
  have sum : t.xt + (value - t.xt) = value := by omega
  unfold Tsu.setTime Tsu.inForce
  cases pending : t.pendingSet with
  | none => simp [Tsu.stepBy, Tsu.still, Tsu.retune, sum, fit64_of_lt fits, pending]
  | some set => simp [Tsu.stepBy, Tsu.still, Tsu.retune, sum, fit64_of_lt fits]

theorem takeSetTime_accepted {b : List Byte} (unset : s.tsu.state = .unset) (above : s.tsu.xt < fieldAt b 16 8)
    (unread : s.tsu.xtRead = false) (order : List Pick) : takeSetTime order b s =
      answer .ok [⟨16, 8, s.tsu.xt⟩, ⟨24, 8, fieldAt b 16 8 - s.tsu.xt⟩] (acceptSetTime (fieldAt b 16 8) (fieldAt b 24 4) order s) := by
  have inTime : ¬(s.tsu.setTime (fieldAt b 16 8)).tooLate s = true := by simp [Move.tooLate, unread]
  rw [takeSetTime, if_neg (not_not.mpr unset), if_neg (Nat.not_le_of_lt above), if_neg inTime]

theorem setTimeReports_frame (u0 S : Nat) (s : State) : setTimeReports u0 S s = { s with
    div := (setTimeReports u0 S s).div, evu := (setTimeReports u0 S s).evu, stg := (setTimeReports u0 S s).stg,
    arc := (setTimeReports u0 S s).arc } := by
  refine State.eq_of_fields ?_ ?_ ?_ rfl ?_ ?_ rfl ?_ rfl ?_ rfl ?_ ?_ <;> simp [setTimeReports]

theorem Reported.setTimeReports (u0 S : Nat) (s : State) : Reported s (setTimeReports u0 S s) := (act _ s).trans (act _ _)

theorem setTimeReports_status (u0 S : Nat) (s : State) : StatusOwed s true s (setTimeReports u0 S s) :=
  (StatusOwed.act_timescale .unset .holdover (some S) s).act_holdover (by simp) (by simp) u0

theorem setTimeReports_has_other (u0 S : Nat) (s : State) {x : Cause} (cls : x ≠ .classChange) (ts : x ≠ .timescaleState) :
    (setTimeReports u0 S s).arc.has x = s.arc.has x := by
  rw [Bool.eq_iff_iff, setTimeReports, Report.act_has, Report.act_has]
  simp [cls, ts]

theorem setTimeReports_has (u0 S : Nat) (s : State) : (setTimeReports u0 S s).arc.has .timescaleState = true := by
  rw [setTimeReports, Report.act_has, Report.act_has]
  exact .inl (.inr (.inl ⟨rfl, _, _, _, rfl⟩))

/-- The records of a SET_TIME, on states that agree but for the spell they begin. -/
theorem setTimeReports_agrees {S u0 : Nat} {d : Div} (h : Agree s t) (fits : S < 2 ^ 64)
    (spell : { t.div with u0 := u0, base := some t.tsu.xt, secs := 0 } = d) :
    Agree (evaluate { makeEvidence (.timescaleState .unset .holdover (some S)) s with div := d }) (setTimeReports u0 S t)
      ∧ (setTimeReports u0 S t).div
        = (evaluate { makeEvidence (.timescaleState .unset .holdover (some S)) s with div := d }).div := by
  let moved : State := (Report.timescale .unset .holdover (some S)).act t
  have recorded : Agree (makeEvidence (.timescaleState .unset .holdover (some S)) s) moved := by
    have made := ((h.makeEvidence (.timescaleState .unset .holdover (some S))).raise .timescaleState).statusEvent
    simp only [moved, Report.act, Option.map_some, fit64_of_lt fits]
    exact made
  have entered : setTimeReports u0 S t = evaluate { moved with div := d } := by
    have div : moved.div = t.div := by simp [moved, Report.act]
    show evaluate { moved with div := { moved.div with u0 := u0, base := some moved.tsu.xt, secs := 0 } } = _
    rw [div, Report.act_tsu, spell]
  have ts : moved.tsu.state = s.tsu.state := by
    have same := congrArg Reading.ts recorded.reading
    simpa only [State.reading, makeEvidence_tsu] using same
  have xt : moved.tsu.xt = s.tsu.xt := by
    have same := congrArg Reading.xt recorded.reading
    simpa only [State.reading, makeEvidence_tsu] using same
  have leap : moved.tsu.leap = s.tsu.leap := by
    have same := congrArg Reading.leap recorded.reading
    simpa only [State.reading, makeEvidence_tsu] using same
  have based : Agree { makeEvidence (.timescaleState .unset .holdover (some S)) s with div := d } { moved with div := d } :=
    ⟨recorded.evu, recorded.stg, recorded.osc, by simp only [State.reading, recorded.osc, ts, xt, leap, makeEvidence_tsu]⟩
  rw [entered]
  refine ⟨based.evaluate rfl, ?_⟩
  rw [evaluate_div, evaluate_div]
  dsimp only
  rw [recorded.osc, ts, makeEvidence_tsu]

/-- An answer stands apart from the cascade and the SUMMARY that follow it. -/
theorem answer_cascadedTo (run : s.osc.phase = .running) (o : ReqOutcome) (fs : List Field) :
    CascadedTo (answer o fs s) (answer o fs (summaryStep (cascade noticePlaces s))) := by
  have rqp : (answer o fs (summaryStep (cascade noticePlaces s))).rqp = (answer o fs s).rqp :=
    answer_rqp_congr (by simp) (by simp) o fs
  have after : answer o fs (summaryStep (cascade noticePlaces s))
      = summaryStep (cascade noticePlaces (withRqp (answer o fs s).rqp s)) := by
    rw [cascade_withRqp, summaryStep_withRqp, ← rqp]
    rfl
  rw [after]
  exact cascadedTo (s := answer o fs s) run

/-- The blocks a step and its reports leave. -/
theorem setTimeReports_applied (u0 S : Nat) (m : Move) (s : State) : setTimeReports u0 S (applyMove m s) = { s with
    tsu := (setTimeReports u0 S (applyMove m s)).tsu, div := (setTimeReports u0 S (applyMove m s)).div
    ref := (setTimeReports u0 S (applyMove m s)).ref, taps := (setTimeReports u0 S (applyMove m s)).taps
    seq := (setTimeReports u0 S (applyMove m s)).seq, auc := (setTimeReports u0 S (applyMove m s)).auc
    evu := (setTimeReports u0 S (applyMove m s)).evu, stg := (setTimeReports u0 S (applyMove m s)).stg
    arc := (setTimeReports u0 S (applyMove m s)).arc } := by
  refine State.eq_of_fields ?_ rfl rfl rfl rfl rfl rfl rfl rfl ?_ rfl ?_ ?_ <;> simp [setTimeReports]

theorem answer_framed (h : t = { s with
    tsu := t.tsu, div := t.div, ref := t.ref, taps := t.taps, seq := t.seq, auc := t.auc, evu := t.evu, stg := t.stg, arc := t.arc })
    (o : ReqOutcome) (fs : List Field) : answer o fs t = { s with
      tsu := t.tsu, div := t.div, ref := t.ref, taps := t.taps, seq := t.seq, auc := t.auc, evu := t.evu, stg := t.stg, arc := t.arc
      rqp := (answer o fs t).rqp } :=
  congrArg (withRqp (answer o fs t).rqp) h

theorem Offered.no_group {kind : Nat} {b : List Byte} (h : Offered kind b s) (other : kind ∉ [0x10, 0x11, 0x12, 0x13, 0x14, 0x15]) :
    s.rqp.phase = .offered → byteAt s.rqp.bytes 0 ∉ [0x10, 0x11, 0x12, 0x13, 0x14, 0x15] := by
  obtain ⟨-, -, bytes, code⟩ := h
  rw [bytes, code]
  exact fun _ => other

/-- Every order of the tick's reports leaves the same timescale, bound and captures. -/
theorem acceptSetTime_order (unset : s.tsu.state = .unset)
    (idle : s.rqp.phase = .offered → byteAt s.rqp.bytes 0 ∉ [0x10, 0x11, 0x12, 0x13, 0x14, 0x15]) (value u0 : Nat) (order : List Pick) :
    let t := acceptSetTime value u0 [.request] s
    let u := acceptSetTime value u0 order s
    u.tsu = t.tsu ∧ u.div = t.div ∧ u.ref = t.ref ∧ u.taps = t.taps ∧ u.seq = t.seq ∧ u.rqp = t.rqp ∧ u.arc.copies = t.arc.copies := by
  have idle' : (applyMove (s.tsu.setTime value) s).rqp.phase = .offered →
      byteAt (applyMove (s.tsu.setTime value) s).rqp.bytes 0 ∉ [0x10, 0x11, 0x12, 0x13, 0x14, 0x15] := by
    rwa [applyMove_rqp]
  obtain ⟨tsu, div⟩ := runStep_settled (old := s.tsu.state) (by rw [unset]; decide) order
    [.timescale .unset .holdover (some (value - s.tsu.xt)), .holdover u0] _ idle'
  obtain ⟨-, rqp⟩ := runOrder_rqp (applyMove (s.tsu.setTime value) s) (some (value - s.tsu.xt)) s.tsu.state order
    [.timescale .unset .holdover (some (value - s.tsu.xt)), .holdover u0]
  have reports := setTimeReports_frame u0 (value - s.tsu.xt) (applyMove (s.tsu.setTime value) s)
  refine ⟨?_, div, ?_, ?_, ?_, ?_, ?_⟩
  · refine tsu.trans ?_
    rw [acceptSetTime_request, reports]
  · rw [acceptSetTime_request, reports]
    exact runOrder_ref ..
  · rw [acceptSetTime_request, reports]
    exact runOrder_taps ..
  · rw [acceptSetTime_request, reports]
    exact runOrder_seq ..
  · rw [acceptSetTime_request, reports]
    exact rqp idle'
  · simp [acceptSetTime]

/-- Settles O13: the reports come on the state the step leaves, and what else an order brings leaves them be. -/
theorem set_time_steps_into_holdover_or_is_refused : Obligations.set_time_steps_into_holdover_or_is_refused := by
  intro s b offered value S
  have taken (order : List Pick) : exec (.setTime order) s = .next (takeSetTime order b s) := offered.exec (f := takeSetTime order) rfl
  refine ⟨fun unset above unread => ?_, fun order => ⟨fun set => ?_, fun unset below => ?_, fun unset above read => ?_⟩⟩
  · have accepted (order : List Pick) := (taken order).trans (congrArg _ (takeSetTime_accepted unset above unread order))
    have fits : value < 2 ^ 64 := fieldAt_lt b 16 8
    have moved := s.tsu.setTime_tsu above fits
    have step : (s.tsu.setTime value).step = some S := rfl
    let X := applyMove (s.tsu.setTime value) s
    let u0 := fieldAt b 24 4
    have tsu : (setTimeReports u0 S X).tsu = (s.tsu.setTime value).tsu := by
      rw [setTimeReports_frame, applyMove_tsu]
    have reported := Reported.setTimeReports u0 S X
    refine ⟨_, accepted [.request], ?_⟩
    rw [acceptSetTime_request]
    have fitsStep : S < 2 ^ 64 := (Nat.sub_le _ _).trans_lt fits
    have start : Agree { s with tsu := (s.tsu.setTime value).tsu, evu := restamped S s } X := by
      refine ⟨applyMove_step_evu step s, applyMove_stg s _, applyMove_osc s _, ?_⟩
      simp only [X, State.reading, applyMove_tsu, applyMove_osc, applyMove_step_div step]
      rfl
    have spell : { X.div with u0 := u0, base := some X.tsu.xt, secs := 0 } = { s.div with u0 := u0, base := some value, secs := 0 } := by
      simp only [X, applyMove_tsu, applyMove_step_div step, moved]
      rfl
    obtain ⟨agrees, div⟩ := setTimeReports_agrees start fitsStep spell
    rw [moved] at agrees div
    have evaluated := div
    rw [evaluate_div, makeEvidence_tsu, makeEvidence_osc] at evaluated
    obtain ⟨-, bound, -, -, -, -, -, -, -, -, -, frame⟩ := evaluation_gives_bound_and_class
      { s.div with u0 := u0, base := some value, secs := 0 } .holdover s.osc.state
    dsimp only [answer_tsu, answer_div, answer_evu, answer_stg, answer_arc]
    rw [tsu, moved]
    refine ⟨rfl, rfl, rfl, rfl, ?_, ?_, ?_, ?_, ?_, ?_, ⟨?_, ?_, ?_⟩, setTimeReports_has .., ?_, ?_, ?_, ?_, ?_, ?_, ?_⟩
    · rw [evaluated, frame]
    · rw [evaluated, bound rfl]
      have small : u0 < 2 ^ 32 := fieldAt_lt b 24 4
      simp only [Nat.mul_zero, Nat.add_zero]
      omega
    · rw [evaluated, frame]
    · rw [evaluated, frame]
    · rw [answer_ref, setTimeReports_frame]
      exact applyMove_step_ref step s
    · refine (applyMove_steppedBy (m := s.tsu.setTime value) (S := S) rfl s).congr ?_ ?_ ?_ ?_
      · rw [answer_taps, setTimeReports_frame]
      · rw [answer_seq, setTimeReports_frame]
      · rw [answer_auc, setTimeReports_frame]
      · rw [answer_tsu, setTimeReports_frame]
    · exact div
    · exact agrees.evu
    · exact agrees.stg
    · intro x cls ts
      rw [setTimeReports_has_other _ _ _ cls ts, applyMove_arc]
    · have arc := reported.arc
      rwa [applyMove_arc] at arc
    · refine (setTimeReports_status u0 S X).congr rfl ?_ ?_ ?_ ?_ fun n => ?_
      · rw [applyMove_arc]
      · rw [applyMove_arc]
      · rw [applyMove_arc]
      · rw [applyMove_arc]
      · simp only [answer_ref, answer_seq, answer_osc]
        rw [setTimeReports_frame]
        simp only [X, applyMove_step_div step, applyMove_tsu, moved]
        rfl
    · exact answer_rqp_congr (by rw [setTimeReports_frame, applyMove_rqp]) (by simp [setTimeReports]) _ _
    · have framed := answer_framed (setTimeReports_applied u0 S (s.tsu.setTime value) s) .ok [⟨16, 8, s.tsu.xt⟩, ⟨24, 8, S⟩]
      rw [tsu, moved] at framed
      dsimp only [answer_ref, answer_taps, answer_seq, answer_auc]
      exact framed
    · refine ⟨_, accepted [], ?_⟩
      rw [acceptSetTime_cascade, acceptSetTime_request]
      refine answer_cascadedTo ?_ _ _
      rw [setTimeReports_frame, applyMove_osc]
      exact offered.running
    · intro order
      obtain ⟨tsu', div', ref', taps', seq', rqp', copies'⟩ := acceptSetTime_order unset (offered.no_group (by decide)) value u0 order
      rw [acceptSetTime_request] at tsu' div' ref' taps' seq' rqp' copies'
      refine ⟨_, accepted order, ?_, ?_, ?_, ?_, ?_, answer_rqp_congr rqp' copies' _ _⟩
      · rw [answer_tsu, tsu', tsu, moved]
      · rw [answer_div, div']
      · rw [answer_ref, ref', answer_ref]
      · rw [answer_taps, taps', answer_taps]
      · rw [answer_seq, seq', answer_seq]
  · rw [taken, takeSetTime]
    exact congrArg _ (if_pos set)
  · rw [taken, takeSetTime]
    rw [if_neg (not_not.mpr unset), if_pos below]
  · have late : (s.tsu.setTime value).tooLate s = true := by
      simp [Move.tooLate, Tsu.setTime, read, above]
    rw [taken, takeSetTime, if_neg (not_not.mpr unset), if_neg (Nat.not_le_of_lt above), if_pos late]

end Sys2Proof.Machine
end

section
/-! SUPPORT. The reports of an accepted pulse, and the statement on it (R21, R35 to R38, R40, R50, R53, R99, R126, R130). -/

namespace Sys2Proof.Machine

variable {s t u : State}

/-! ### The reports one after another (R21, R38) -/

/-- FREQ_LIMIT and the acceptance in the accumulator. -/
def countPulse (theta : Int) (limited : Bool) (s : State) : State :=
  onAcc (Accum.noteAccepted theta) (onAcc (fun a => { a with freqLimit := a.freqLimit || limited }) s)

/-- The record of a change of L. -/
def reportLeap (old new : Nat) (s : State) : State := if old = new then s else makeEvidence (.leapOffset old new) s

/-- The report of a change of the timescale state. -/
def reportState (old new : TsState) (step : Option Nat) (s : State) : State :=
  if old = new then s else (Report.timescale old new step).act s

/-- The report of the change from BAD. -/
def reportGood (run : Option Nat) (s : State) : State :=
  match run with
  | some n => (Report.good n).act s
  | none => s

theorem pulseReports_fold (before : Tsu) (run : Option Nat) (uMod leap : Nat) (theta : Int) (m : Move) (s : State) :
    (pulseReports before run uMod leap theta m).foldl (fun t r => r.act t) s = reportGood run ((Report.pulse uMod theta).act
      (reportState before.state m.tsu.state m.step (reportLeap before.leap leap (countPulse theta m.freqLimit s)))) := by
  have limited : (if m.freqLimit then [Report.freqLimit] else []).foldl (fun t r => r.act t) s
      = onAcc (fun a => { a with freqLimit := a.freqLimit || m.freqLimit }) s := by
    cases m.freqLimit with
    | true => simp [Report.act]
    | false => simp [Machine.onAcc, Evu.onAcc]
  unfold pulseReports
  rw [List.foldl_append, List.foldl_append, List.foldl_append, List.foldl_append, List.foldl_append, limited]
  have leapt : ∀ t : State, (if before.leap = leap then [] else [Report.leapOffset before.leap leap]).foldl (fun t r => r.act t) t
      = reportLeap before.leap leap t := by
    intro t
    unfold reportLeap
    split <;> rfl
  have moved : ∀ t : State, (if before.state = m.tsu.state then [] else [Report.timescale before.state m.tsu.state m.step]).foldl
      (fun t r => r.act t) t = reportState before.state m.tsu.state m.step t := by
    intro t
    unfold reportState
    split <;> rfl
  rw [leapt, moved]
  cases run <;> rfl

section
variable (s : State)

theorem Reported.countPulse (theta : Int) (limited : Bool) : Reported s (countPulse theta limited s) := (onAcc _ s).trans (onAcc _ _)

theorem Reported.reportLeap (old new : Nat) : Reported s (reportLeap old new s) := by
  unfold Machine.reportLeap
  split
  · exact refl s
  · exact makeEvidence _ s

theorem Reported.reportState (old new : TsState) (step : Option Nat) : Reported s (reportState old new step s) := by
  unfold Machine.reportState
  split
  · exact refl s
  · exact act _ s

theorem Reported.reportGood (run : Option Nat) : Reported s (reportGood run s) := by
  cases run with
  | none => exact refl s
  | some n => exact act (.good n) s

theorem countPulse_frame (theta : Int) (limited : Bool) : countPulse theta limited s = { s with
    evu := (countPulse theta limited s).evu } := rfl

theorem reportLeap_frame (old new : Nat) : reportLeap old new s = { s with
    evu := (reportLeap old new s).evu, stg := (reportLeap old new s).stg } := by
  unfold reportLeap
  split
  · rfl
  · conv_lhs => rw [makeEvidence_frame]
    rw [makeEvidence_frame]

theorem reportState_frame (old new : TsState) (step : Option Nat) : reportState old new step s = { s with
    evu := (reportState old new step s).evu, stg := (reportState old new step s).stg, arc := (reportState old new step s).arc } := by
  unfold reportState
  split
  · rfl
  · refine State.eq_of_fields ?_ ?_ ?_ ?_ ?_ ?_ rfl ?_ rfl ?_ rfl ?_ ?_ <;> simp [Report.act]

theorem reportGood_frame (run : Option Nat) : reportGood run s = { s with
    evu := (reportGood run s).evu, stg := (reportGood run s).stg, arc := (reportGood run s).arc } := by
  cases run with
  | none => rfl
  | some n => refine State.eq_of_fields ?_ ?_ ?_ ?_ ?_ ?_ rfl ?_ rfl ?_ rfl ?_ ?_ <;> simp [reportGood, Report.act]

theorem reportState_has (old new : TsState) (step : Option Nat) (x : Cause) :
    (reportState old new step s).arc.has x = true ↔ s.arc.has x = true ∨ (x = .timescaleState ∧ old ≠ new) := by
  unfold reportState
  split
  · simp [*]
  · rw [Report.act, statusEvent_has, raise_has, makeEvidence_arc]
    simp [*]

theorem reportGood_has (run : Option Nat) (x : Cause) : (reportGood run s).arc.has x = s.arc.has x := by
  cases run with
  | none => rfl
  | some n => simp [reportGood, Report.act, statusEvent_has]

end

/-! ### What the reports of a pulse make -/

theorem Agree.reportLeap (h : Agree s t) (old new : Nat) :
    Agree (if old = new then s else Machine.makeEvidence (.leapOffset old new) s) (reportLeap old new t) := by
  unfold Machine.reportLeap
  split
  · exact h
  · exact h.makeEvidence _

theorem Agree.reportState (h : Agree s t) (old new : TsState) (step : Option Nat) :
    Agree (if old ≠ new then Machine.makeEvidence (.timescaleState old new (step.map fit64)) s else s) (reportState old new step t) := by
  unfold Machine.reportState
  rw [ite_not]
  split
  · exact h
  · exact ((h.makeEvidence _).raise _).statusEvent

theorem Agree.reportGood (h : Agree s t) (run : Option Nat) :
    Agree (match run with | some n => Machine.makeEvidence (.refState .good .accepted .none (some n)) s | none => s)
      (reportGood run t) := by
  cases run with
  | none => exact h
  | some n => exact (h.makeEvidence _).statusEvent

/-- The reports of an accepted pulse, from the state its move leaves. -/
def reportPulse (before : Tsu) (run : Option Nat) (uMod leap : Nat) (theta : Int) (m : Move) (s : State) : State :=
  (pulseReports before run uMod leap theta m).foldl (fun t r => r.act t) s

/-- The divergence monitor with the terms of a pulse, and no spell (R46, R50). -/
def Div.referenced (d : Div) (uMod : Nat) (theta : Int) : Div := { d with terms := some ⟨uMod, theta.natAbs⟩, base := none }

theorem Reported.enable (h : Reported s t) : t.arc.enable = s.arc.enable := by rw [h.arc]

theorem Reported.linkReset (h : Reported s t) : t.arc.linkReset = s.arc.linkReset := by rw [h.arc]

theorem StatusOwed.reportGood {b : Bool} {seen : State} (h : StatusOwed seen b s t) (enable : t.arc.enable = s.arc.enable)
    (linkReset : t.arc.linkReset = s.arc.linkReset) (run : Option Nat) : StatusOwed seen (b || run.isSome) s (reportGood run t) := by
  cases run with
  | none =>
    rw [Option.isSome_none, Bool.or_false]
    exact h
  | some n =>
    rw [Option.isSome_some, Bool.or_true]
    refine StatusOwed.again (b := b) (h.congr ?_ rfl rfl rfl rfl fun _ => rfl) ?_ ?_
    · rw [makeEvidence_arc]
    · rwa [makeEvidence_arc]
    · rwa [makeEvidence_arc]

section
variable (before : Tsu) (run : Option Nat) (uMod leap : Nat) (theta : Int) (m : Move) (s : State)

/-- The reports of a pulse up to its evaluation. -/
def pulseMoved : State :=
  reportState before.state m.tsu.state m.step (reportLeap before.leap leap (countPulse theta m.freqLimit s))

theorem pulseMoved_frame : pulseMoved before leap theta m s = { s with
    evu := (pulseMoved before leap theta m s).evu, stg := (pulseMoved before leap theta m s).stg
    arc := (pulseMoved before leap theta m s).arc } := by
  refine State.eq_of_fields ?_ ?_ ?_ ?_ ?_ ?_ rfl ?_ rfl ?_ rfl ?_ ?_
  all_goals
    rw [pulseMoved, reportState_frame, reportLeap_frame]
    rfl

theorem reportPulse_eq : reportPulse before run uMod leap theta m s = reportGood run (evaluate
    { pulseMoved before leap theta m s with div := s.div.referenced uMod theta }) := by
  unfold reportPulse
  rw [pulseReports_fold]
  show reportGood run (evaluate { pulseMoved before leap theta m s with
    div := (pulseMoved before leap theta m s).div.referenced uMod theta }) = _
  rw [show (pulseMoved before leap theta m s).div = s.div by rw [pulseMoved_frame]]

theorem reportPulse_frame : reportPulse before run uMod leap theta m s = { s with
    div := (reportPulse before run uMod leap theta m s).div, evu := (reportPulse before run uMod leap theta m s).evu
    stg := (reportPulse before run uMod leap theta m s).stg, arc := (reportPulse before run uMod leap theta m s).arc } := by
  refine State.eq_of_fields ?_ ?_ ?_ rfl ?_ ?_ rfl ?_ rfl ?_ rfl ?_ ?_
  all_goals rw [reportPulse_eq, reportGood_frame, evaluate, evaluateIn_frame, pulseMoved_frame]

@[simp] theorem reportPulse_osc : (reportPulse before run uMod leap theta m s).osc = s.osc := by rw [reportPulse_frame]
@[simp] theorem reportPulse_tsu : (reportPulse before run uMod leap theta m s).tsu = s.tsu := by rw [reportPulse_frame]
@[simp] theorem reportPulse_ref : (reportPulse before run uMod leap theta m s).ref = s.ref := by rw [reportPulse_frame]
@[simp] theorem reportPulse_taps : (reportPulse before run uMod leap theta m s).taps = s.taps := by rw [reportPulse_frame]
@[simp] theorem reportPulse_seq : (reportPulse before run uMod leap theta m s).seq = s.seq := by rw [reportPulse_frame]
@[simp] theorem reportPulse_auc : (reportPulse before run uMod leap theta m s).auc = s.auc := by rw [reportPulse_frame]
@[simp] theorem reportPulse_jwr : (reportPulse before run uMod leap theta m s).jwr = s.jwr := by rw [reportPulse_frame]
@[simp] theorem reportPulse_rqp : (reportPulse before run uMod leap theta m s).rqp = s.rqp := by rw [reportPulse_frame]
@[simp] theorem reportPulse_pending : (reportPulse before run uMod leap theta m s).pending = s.pending := by rw [reportPulse_frame]

theorem reportPulse_div : (reportPulse before run uMod leap theta m s).div
    = (s.div.referenced uMod theta).evaluate s.tsu.state s.osc.state := by
  rw [reportPulse_eq, reportGood_frame, evaluate_div, pulseMoved_frame]

theorem reportPulse_has (x : Cause) : (reportPulse before run uMod leap theta m s).arc.has x = true ↔
    s.arc.has x = true ∨ (x = .timescaleState ∧ before.state ≠ m.tsu.state)
      ∨ (x = .classChange ∧ (reportPulse before run uMod leap theta m s).div.cls ≠ s.div.cls) := by
  have moved : (pulseMoved before leap theta m s).arc.has x = true
      ↔ s.arc.has x = true ∨ (x = .timescaleState ∧ before.state ≠ m.tsu.state) := by
    rw [pulseMoved, reportState_has, reportLeap_frame]
    rfl
  have evaluated : (pulseMoved before leap theta m s).tsu = s.tsu ∧ (pulseMoved before leap theta m s).osc = s.osc := by
    rw [pulseMoved_frame]
    exact ⟨rfl, rfl⟩
  rw [reportPulse_div, reportPulse_eq, reportGood_has, evaluate_has, evaluate_div, ← or_assoc]
  dsimp only
  rw [moved, evaluated.1, evaluated.2]
  rfl

theorem Reported.reportPulse : Reported s (reportPulse before run uMod leap theta m s) := by
  rw [reportPulse_eq]
  exact (((Reported.countPulse ..).trans (.reportLeap ..)).trans (.reportState ..)).trans ((evaluate_after _).trans (.reportGood ..))

/-- A change of the timescale state owes its write with the values before the evaluation, and a further one. -/
theorem reportPulse_status_changed (changed : before.state ≠ m.tsu.state) :
    StatusOwed s true s (reportPulse before run uMod leap theta m s) := by
  let leapt := reportLeap before.leap leap (countPulse theta m.freqLimit s)
  have quiet : leapt.arc = s.arc := by
    rw [show leapt = _ from reportLeap_frame _ _ _]
    rfl
  have first : StatusOwed s false s (pulseMoved before leap theta m s) := by
    rw [pulseMoved, reportState, if_neg changed]
    refine (StatusOwed.act_timescale before.state m.tsu.state m.step leapt).congr rfl ?_ ?_ ?_ ?_ fun n => ?_
    · rw [quiet]
    · rw [quiet]
    · rw [quiet]
    · rw [quiet]
    · rw [show leapt = _ from reportLeap_frame _ _ _]
      rfl
  have moved : Reported s (pulseMoved before leap theta m s) :=
    ((Reported.countPulse ..).trans (.reportLeap ..)).trans (.reportState ..)
  have bound := moved.trans (Reported.evaluate_after (s.div.referenced uMod theta))
  have evaluated : StatusOwed s true s (evaluate { pulseMoved before leap theta m s with div := s.div.referenced uMod theta }) :=
    StatusOwed.evaluateIn (b := false) (t := { pulseMoved before leap theta m s with div := s.div.referenced uMod theta })
      (first.congr rfl rfl rfl rfl rfl fun _ => rfl) moved.enable moved.linkReset _
  rw [reportPulse_eq]
  exact evaluated.reportGood bound.enable bound.linkReset run

/-- Without a change of the timescale state the evaluation's write is the first. -/
theorem reportPulse_status_same (same : before.state = m.tsu.state) :
    StatusOwed (reportPulse before run uMod leap theta m s) run.isSome s (reportPulse before run uMod leap theta m s) := by
  have quiet : (pulseMoved before leap theta m s).arc = s.arc := by
    rw [pulseMoved, reportState, if_pos same, reportLeap_frame]
    rfl
  let bound := evaluate { pulseMoved before leap theta m s with div := s.div.referenced uMod theta }
  have evaluated : StatusOwed bound false s bound :=
    (evaluateIn_status _ { pulseMoved before leap theta m s with div := s.div.referenced uMod theta }).congr rfl
      (by rw [quiet]) (by rw [quiet]) (by rw [quiet]) (by rw [quiet]) fun _ => rfl
  have reported : Reported s bound := (Reported.of_eq rfl rfl rfl).trans ((Reported.countPulse ..).trans (.reportLeap ..))|>.trans
    (.reportState ..)|>.trans (.evaluate_after _)
  have whole := evaluated.reportGood reported.enable reported.linkReset run
  rw [Bool.false_or] at whole
  rw [reportPulse_eq]
  refine whole.congr rfl rfl rfl rfl rfl fun _ => ?_
  rw [reportGood_frame]

end

/-- Evaluations of states that agree, with one divergence monitor. -/
theorem Agree.evaluate_with (h : Agree s t) (d : Div) : Agree (Machine.evaluate { s with div := d }) (Machine.evaluate { t with div := d })
    ∧ (Machine.evaluate { t with div := d }).div = (Machine.evaluate { s with div := d }).div := by
  have ts := congrArg Reading.ts h.reading
  have xt := congrArg Reading.xt h.reading
  have leap := congrArg Reading.leap h.reading
  simp only [State.reading] at ts xt leap
  have based : Agree { s with div := d } { t with div := d } :=
    ⟨h.evu, h.stg, h.osc, by simp only [State.reading, h.osc, ts, xt, leap]⟩
  exact ⟨based.evaluate rfl, by rw [evaluate_div, evaluate_div]; simp only [ts, h.osc]⟩

/-- The records of a pulse, on a state that agrees with the one its move leaves. -/
theorem reportPulse_agrees {before : Tsu} {run : Option Nat} {uMod leap : Nat} {theta : Int} {m : Move}
    (h : Agree s (countPulse theta m.freqLimit t)) :
    let leapt := if before.leap = leap then s else makeEvidence (.leapOffset before.leap leap) s
    let moved := if before.state ≠ m.tsu.state then
      makeEvidence (.timescaleState before.state m.tsu.state (m.step.map fit64)) leapt else leapt
    let evaluated := evaluate { moved with div := t.div.referenced uMod theta }
    let ended := match run with
      | some n => makeEvidence (.refState .good .accepted .none (some n)) evaluated
      | none => evaluated
    Agree ended (reportPulse before run uMod leap theta m t) ∧ (reportPulse before run uMod leap theta m t).div = evaluated.div := by
  intro leapt moved evaluated ended
  have agrees : Agree moved (pulseMoved before leap theta m t) := (h.reportLeap _ _).reportState _ _ _
  obtain ⟨both, div⟩ := agrees.evaluate_with (t.div.referenced uMod theta)
  rw [reportPulse_eq]
  exact ⟨both.reportGood run, by rw [reportGood_frame]; exact div⟩

/-! ### An accepted pulse (R35 to R38) -/

/-- A completed read whose pulse passes the five checks (R35). -/
theorem rejectReason_none {q : Pulse} {w : Window} (sum : w.sum = 0) (valid : w.valid = true)
    (order : ∀ l, s.ref.last = some l → l.label < w.label)
    (interval : ∀ l c, s.ref.last = some l → l.capXt = some c →
      |(q.capXt : Int) - (c + 10 ^ 9 * (w.label - l.label))| ≤ (s.ref.set.tolerance : Int))
    (direction : s.tsu.state = .unset → q.capXt ≤ 10 ^ 9 * w.label + s.ref.set.dRef) : rejectReason s q w = none := by
  have fresh : s.ref.last.any (fun l => decide (w.label ≤ l.label)) = false := by
    rw [← Bool.not_eq_true, ← labelStale_iff]
    rintro ⟨l, last, late⟩
    exact absurd (order l last) (Nat.not_lt_of_le late)
  have onGrid : onGrid s.ref.set s.ref.last q.capXt w.label = true := by
    rw [← Bool.not_eq_false, ← captureOffGrid_iff]
    rintro ⟨l, c, last, cap, off⟩
    exact absurd (interval l c last cap) (not_le_of_gt off)
  have forward : ¬(s.tsu.state = .unset ∧ expectedTime s.ref.set w.label < q.capXt) :=
    fun k => absurd (direction k.1) (Nat.not_le_of_lt k.2)
  simp [rejectReason, sum, valid, fresh, onGrid, forward]

/-- The reject run a pulse that ends BAD reports (R40). -/
def badRun (r : Ref) : Option Nat :=
  match r.state with
  | .bad => some r.rejectRun
  | .good => none

/-- The state an accepted pulse's move leaves, before the reports. -/
def pulseTaken (q : Pulse) (label : Nat) (m : Move) (s : State) : State :=
  applyMove m (onRef (fun r => r.accept q label m.tsu.set.loss) s)

/-- The move of an accepted pulse acts with the sets then in force (R10, R21). -/
theorem pulseMove_eq (t : Tsu) (leap : Nat) (theta : Int) (first : Nat) : pulseMove t leap theta first =
    ({ t with set := t.pendingSet.getD t.set, pendingSet := none, leap := leap, theta := theta } : Tsu).transition theta first := by
  unfold pulseMove Tsu.inForce
  obtain ⟨xt, frac, inc, f, p, slew, state, oldLeap, good, oldTheta, set, pendingSet, xtRead⟩ := t
  cases pendingSet <;> rfl

/-- A completed read whose pulse passes the five checks. -/
theorem exec_readComplete_accepted {q : Pulse} {bytes : List Byte} (run : s.osc.phase = .running) (phase : s.ref.phase = .transaction)
    (pending : s.ref.pending = some q) (passed : rejectReason s q (readWindow bytes) = none) (order : List Pick) {m : Move}
    {theta : Int} (theta_eq : theta = thetaOf s.ref.set q (readWindow bytes).label)
    (move : m = pulseMove s.tsu (readWindow bytes).leap theta (expectedTime s.ref.set (readWindow bytes).label - q.capXt)) :
    exec (.readComplete bytes order) s = .next (if m.tooLate s then s else runOrder m.step s.tsu.state order
      (pulseReports s.tsu (badRun s.ref) (readWindow bytes).uMod (readWindow bytes).leap theta m)
      (pulseTaken q (readWindow bytes).label m s)) := by
  subst theta_eq move
  calc exec (.readComplete bytes order) s
      = .next (readComplete bytes order s) := live_running run (readComplete bytes order)
    _ = _ := by
      simp only [readComplete, phase, pending, decidePulse, passed]
      rfl

section
variable (q : Pulse) (label : Nat) (m : Move) (s : State)

theorem pulseTaken_tsu : (pulseTaken q label m s).tsu = m.tsu := applyMove_tsu _ _

theorem pulseTaken_evu : (pulseTaken q label m s).evu = match m.step with | some S => restamped S s | none => s.evu := by
  unfold pulseTaken
  cases step : m.step with
  | none => rw [applyMove, step]; rfl
  | some S => exact applyMove_step_evu step _

theorem pulseTaken_div : ∃ b, (pulseTaken q label m s).div = { s.div with base := b } := applyMove_div _ m

theorem pulseTaken_ref : (pulseTaken q label m s).ref = { s.ref with
    pending := none, phase := .stopping, state := .good, rejectRun := 0
    last := some { label := label, capTick := q.capTick,
                   capXt := some (match m.step with | some S => fit64 (q.capXt + S) | none => q.capXt) }
    lossTimer := some (fit64 (q.capTick + 125000000 * m.tsu.set.loss)) } := by
  unfold pulseTaken
  cases step : m.step with
  | none => rw [applyMove, step]; rfl
  | some S => rw [applyMove_step_ref step]; rfl

theorem pulseTaken_frame : pulseTaken q label m s = { s with
    tsu := m.tsu, ref := (pulseTaken q label m s).ref, div := (pulseTaken q label m s).div, taps := (pulseTaken q label m s).taps
    seq := (pulseTaken q label m s).seq, auc := (pulseTaken q label m s).auc, evu := (pulseTaken q label m s).evu } := by
  refine State.eq_of_fields ?_ (pulseTaken_tsu ..) rfl rfl rfl rfl ?_ rfl rfl ?_ ?_ ?_ ?_ <;> simp [pulseTaken, onRef]

end

/-- A spell that began before this tick keeps its base at a step (R48, R49). -/
theorem pulseTaken_base {q : Pulse} {label : Nat} {m : Move} {b S : Nat} (step : m.step = some S) (base : s.div.base = some b)
    (before : b < s.tsu.xt) : (pulseTaken q label m s).div = s.div := by
  have kept : s.div.moved s.tsu.xt S = s.div := by
    unfold Div.moved
    rw [base, Option.map_some, if_neg (Nat.ne_of_lt before), ← base]
  exact (applyMove_step_div step _).trans kept

theorem Div.referenced_of_base {d e : Div} (h : ∃ b, e = { d with base := b }) (uMod : Nat) (theta : Int) :
    e.referenced uMod theta = d.referenced uMod theta ∧ e.cls = d.cls ∧ e.u = d.u := by
  obtain ⟨b, rfl⟩ := h
  exact ⟨rfl, rfl, rfl⟩

/-- What an accepted pulse counts in the accumulator (R126). -/
theorem countPulse_evu (theta : Int) (limited : Bool) (s : State) : (countPulse theta limited s).evu = { s.evu with acc := { s.evu.acc with
      accepted := min 65535 (s.evu.acc.accepted + 1), freqLimit := s.evu.acc.freqLimit || limited
      thetaMin := some (match s.evu.acc.thetaMin with
        | none => max (-2147483647) (min 2147483647 theta) | some x => min x (max (-2147483647) (min 2147483647 theta)))
      thetaMax := some (match s.evu.acc.thetaMax with
        | none => max (-2147483647) (min 2147483647 theta) | some x => max x (max (-2147483647) (min 2147483647 theta))) } } := by
  rw [← clampInt_eq_max_min (by decide)]
  rfl

/-- The state after an accepted pulse and its reports. -/
def pulseAccepted (q : Pulse) (label uMod leap : Nat) (theta : Int) (m : Move) (s : State) : State :=
  reportPulse s.tsu (badRun s.ref) uMod leap theta m (pulseTaken q label m s)

/-- The state an accepted pulse's records are made on: the timescale moved and the acceptance counted. -/
def pulseCounted (theta : Int) (m : Move) (s : State) : State :=
  { s with
    tsu := m.tsu
    evu := { (match m.step with | some S => restamped S s | none => s.evu) with acc := { s.evu.acc with
      accepted := min 65535 (s.evu.acc.accepted + 1), freqLimit := s.evu.acc.freqLimit || m.freqLimit
      thetaMin := some (match s.evu.acc.thetaMin with
        | none => max (-2147483647) (min 2147483647 theta) | some x => min x (max (-2147483647) (min 2147483647 theta)))
      thetaMax := some (match s.evu.acc.thetaMax with
        | none => max (-2147483647) (min 2147483647 theta) | some x => max x (max (-2147483647) (min 2147483647 theta))) } } }

section
variable (q : Pulse) (label uMod leap : Nat) (theta : Int) (m : Move) (s : State)

theorem pulseCounted_agrees : Agree (pulseCounted theta m s) (countPulse theta m.freqLimit (pulseTaken q label m s)) := by
  obtain ⟨-, cls, -⟩ := Div.referenced_of_base (pulseTaken_div q label m s) 0 0
  refine ⟨?_, ?_, ?_, ?_⟩
  · rw [countPulse_evu, pulseTaken_evu]
    unfold pulseCounted
    cases m.step <;> rfl
  · show (pulseTaken q label m s).stg = s.stg
    rw [pulseTaken_frame]
  · show (pulseTaken q label m s).osc = s.osc
    rw [pulseTaken_frame]
  · show (pulseTaken q label m s).reading = _
    simp only [State.reading, pulseTaken_tsu, cls]
    rw [pulseTaken_frame]
    rfl

theorem pulseAccepted_frame : pulseAccepted q label uMod leap theta m s = { s with
    tsu := m.tsu, ref := (pulseTaken q label m s).ref, div := (pulseAccepted q label uMod leap theta m s).div
    taps := (pulseTaken q label m s).taps, seq := (pulseTaken q label m s).seq, auc := (pulseTaken q label m s).auc
    evu := (pulseAccepted q label uMod leap theta m s).evu, stg := (pulseAccepted q label uMod leap theta m s).stg
    arc := (pulseAccepted q label uMod leap theta m s).arc } := by
  refine State.eq_of_fields ?_ ?_ ?_ rfl ?_ ?_ rfl ?_ rfl ?_ rfl ?_ ?_
  all_goals
    rw [pulseAccepted, reportPulse_frame, pulseTaken_frame]

theorem pulseAccepted_div : (pulseAccepted q label uMod leap theta m s).div
    = (s.div.referenced uMod theta).evaluate m.tsu.state s.osc.state := by
  obtain ⟨div, -, -⟩ := Div.referenced_of_base (pulseTaken_div q label m s) uMod theta
  rw [pulseAccepted, reportPulse_div, div, pulseTaken_tsu, pulseTaken_frame]

theorem pulseAccepted_has (x : Cause) : (pulseAccepted q label uMod leap theta m s).arc.has x = true ↔
    s.arc.has x = true ∨ (x = .timescaleState ∧ s.tsu.state ≠ m.tsu.state)
      ∨ (x = .classChange ∧ (pulseAccepted q label uMod leap theta m s).div.cls ≠ s.div.cls) := by
  obtain ⟨-, cls, -⟩ := Div.referenced_of_base (pulseTaken_div q label m s) uMod theta
  have has := reportPulse_has s.tsu (badRun s.ref) uMod leap theta m (pulseTaken q label m s) x
  rw [cls, show (pulseTaken q label m s).arc = s.arc by rw [pulseTaken_frame]] at has
  exact has

theorem pulseAccepted_reportedOnly : s.arc.reportedOnly (pulseAccepted q label uMod leap theta m s).arc := by
  have reports := (Reported.reportPulse s.tsu (badRun s.ref) uMod leap theta m (pulseTaken q label m s)).arc
  rwa [show (pulseTaken q label m s).arc = s.arc by rw [pulseTaken_frame]] at reports

theorem pulseAccepted_status_changed (changed : s.tsu.state ≠ m.tsu.state) : StatusOwed
    { pulseAccepted q label uMod leap theta m s with div := s.div } true s (pulseAccepted q label uMod leap theta m s) := by
  obtain ⟨-, cls, u⟩ := Div.referenced_of_base (pulseTaken_div q label m s) uMod theta
  have arc : (pulseTaken q label m s).arc = s.arc := by rw [pulseTaken_frame]
  refine (reportPulse_status_changed s.tsu (badRun s.ref) uMod leap theta m (pulseTaken q label m s) changed).congr rfl ?_ ?_ ?_ ?_
    fun n => ?_
  · rw [arc]
  · rw [arc]
  · rw [arc]
  · rw [arc]
  · dsimp only
    rw [pulseAccepted_frame]
    dsimp only
    rw [← cls, ← u, pulseTaken_tsu]
    rw [show (pulseTaken q label m s).osc = s.osc by rw [pulseTaken_frame]]

theorem pulseAccepted_status_same (same : s.tsu.state = m.tsu.state) : StatusOwed (pulseAccepted q label uMod leap theta m s)
    (decide (s.ref.state = .bad)) s (pulseAccepted q label uMod leap theta m s) := by
  have arc : (pulseTaken q label m s).arc = s.arc := by rw [pulseTaken_frame]
  have bad : (badRun s.ref).isSome = decide (s.ref.state = .bad) := by
    unfold badRun
    cases s.ref.state <;> rfl
  rw [← bad]
  refine (reportPulse_status_same s.tsu (badRun s.ref) uMod leap theta m (pulseTaken q label m s) same).congr rfl ?_ ?_ ?_ ?_ fun _ => rfl
  · rw [arc]
  · rw [arc]
  · rw [arc]
  · rw [arc]

end

/-- The records of an accepted pulse. -/
theorem pulseAccepted_agrees (q : Pulse) (label uMod leap : Nat) (theta : Int) (m : Move) (s : State) :
    let counted := pulseCounted theta m s
    let leapt := if s.tsu.leap = leap then counted else makeEvidence (.leapOffset s.tsu.leap leap) counted
    let moved := if s.tsu.state ≠ m.tsu.state then
      makeEvidence (.timescaleState s.tsu.state m.tsu.state (m.step.map fit64)) leapt else leapt
    let evaluated := evaluate { moved with div := s.div.referenced uMod theta }
    let ended := if s.ref.state = .bad then makeEvidence (.refState .good .accepted .none (some s.ref.rejectRun)) evaluated
      else evaluated
    Agree ended (pulseAccepted q label uMod leap theta m s) ∧ (pulseAccepted q label uMod leap theta m s).div = evaluated.div := by
  intro counted leapt moved evaluated ended
  obtain ⟨div, -, -⟩ := Div.referenced_of_base (pulseTaken_div q label m s) uMod theta
  have both := reportPulse_agrees (before := s.tsu) (run := badRun s.ref) (uMod := uMod) (leap := leap) (pulseCounted_agrees q label theta m s)
  rw [div] at both
  have reported : ended = match badRun s.ref with
      | some n => makeEvidence (.refState .good .accepted .none (some n)) evaluated
      | none => evaluated := by
    unfold ended badRun
    cases s.ref.state <;> rfl
  rw [reported]
  exact both

/-- Where the move makes no step, or the requests of the tick come first, the pulse does its reports alone. -/
theorem runOrder_pulse (q : Pulse) (label uMod leap : Nat) (theta : Int) (m : Move) (s : State) (order : List Pick)
    (plain : m.step = none ∨ order = [.request]) : runOrder m.step s.tsu.state order
      (pulseReports s.tsu (badRun s.ref) uMod leap theta m) (pulseTaken q label m s) = pulseAccepted q label uMod leap theta m s := by
  obtain step | rfl := plain
  · unfold runOrder
    rw [step]
    rfl
  · unfold runOrder
    cases m.step <;> rfl

/-- An evaluation leaves the base instant be (R45, R48). -/
theorem Div.evaluate_base (d : Div) (base : Option Nat) (ts : TsState) (o : OscState) :
    ({ d with base := base } : Div).evaluate ts o = { d.evaluate ts o with base := base } := by
  have bound : ({ d with base := base } : Div).bound ts o = d.bound ts o := by
    unfold Div.bound
    cases ts <;> rfl
  unfold Div.evaluate
  rw [bound]
  unfold Div.hysteresis
  dsimp only
  split_ifs <;> rfl

/-- The pulse taken, with a holdover second its step has made due counted and evaluated first (R50; log 28). -/
def pulseAfterSecond (q : Pulse) (label b : Nat) (m : Move) (s : State) : State :=
  evaluateIn .holdover { pulseTaken q label m s with
    tsu := { m.tsu with xtRead := true }, div := { s.div with secs := min 4294967295 ((m.tsu.xt - b) / 10 ^ 9) } }

theorem pulseAfterSecond_frame (q : Pulse) (label b : Nat) (m : Move) (s : State) : pulseAfterSecond q label b m s =
    { pulseTaken q label m s with
      tsu := { m.tsu with xtRead := true }, div := (pulseAfterSecond q label b m s).div, evu := (pulseAfterSecond q label b m s).evu
      stg := (pulseAfterSecond q label b m s).stg, arc := (pulseAfterSecond q label b m s).arc } :=
  evaluateIn_frame ..

theorem pulseAfterSecond_div (q : Pulse) (label b : Nat) (m : Move) (s : State) : (pulseAfterSecond q label b m s).div =
    ({ s.div with secs := min 4294967295 ((m.tsu.xt - b) / 10 ^ 9) } : Div).evaluate .holdover s.osc.state := by
  rw [pulseAfterSecond, evaluateIn_div]
  dsimp only
  rw [show (pulseTaken q label m s).osc = s.osc by rw [pulseTaken_frame]]

section
variable (q : Pulse) (label uMod leap : Nat) (theta : Int) (b : Nat) (m : Move) (s : State)

/-- The state after an accepted pulse whose step's holdover second is taken first. -/
def pulseAcceptedLater : State := reportPulse s.tsu (badRun s.ref) uMod leap theta m (pulseAfterSecond q label b m s)

theorem pulseAcceptedLater_div : (pulseAcceptedLater q label uMod leap theta b m s).div =
    (({ s.div with secs := min 4294967295 ((m.tsu.xt - b) / 10 ^ 9) } : Div).evaluate .holdover s.osc.state |>.referenced uMod theta).evaluate
      m.tsu.state s.osc.state := by
  rw [pulseAcceptedLater, reportPulse_div, pulseAfterSecond_div, pulseAfterSecond_frame]
  dsimp only
  rw [show (pulseTaken q label m s).osc = s.osc by rw [pulseTaken_frame]]

theorem pulseAcceptedLater_reportedOnly : s.arc.reportedOnly (pulseAcceptedLater q label uMod leap theta b m s).arc := by
  have counted : (pulseTaken q label m s).arc.reportedOnly (pulseAfterSecond q label b m s).arc :=
    evaluateIn_reportedOnly .holdover { pulseTaken q label m s with
      tsu := { m.tsu with xtRead := true }, div := { s.div with secs := min 4294967295 ((m.tsu.xt - b) / 10 ^ 9) } }
  rw [show (pulseTaken q label m s).arc = s.arc by rw [pulseTaken_frame]] at counted
  exact counted.trans (Reported.reportPulse s.tsu (badRun s.ref) uMod leap theta m (pulseAfterSecond q label b m s)).arc

theorem pulseAcceptedLater_tsu : (pulseAcceptedLater q label uMod leap theta b m s).tsu = { m.tsu with xtRead := true } := by
  rw [pulseAcceptedLater, reportPulse_frame, pulseAfterSecond_frame]

theorem pulseAcceptedLater_frame : pulseAcceptedLater q label uMod leap theta b m s = { pulseAccepted q label uMod leap theta m s with
    tsu := (pulseAcceptedLater q label uMod leap theta b m s).tsu, div := (pulseAcceptedLater q label uMod leap theta b m s).div
    evu := (pulseAcceptedLater q label uMod leap theta b m s).evu, stg := (pulseAcceptedLater q label uMod leap theta b m s).stg
    arc := (pulseAcceptedLater q label uMod leap theta b m s).arc } := by
  refine State.eq_of_fields ?_ rfl ?_ rfl ?_ ?_ rfl ?_ rfl ?_ rfl ?_ ?_
  all_goals
    simp only [pulseAcceptedLater, pulseAccepted, reportPulse_osc, reportPulse_ref, reportPulse_taps, reportPulse_seq, reportPulse_auc,
      reportPulse_jwr, reportPulse_rqp, reportPulse_pending]
    rw [pulseAfterSecond_frame]

end

/-- A second the step has made due is taken ahead of the pulse where the order asks for it. -/
theorem secondBefore_pulse {q : Pulse} {label b S : Nat} {m : Move} (step : m.step = some S) (base : s.div.base = some b)
    (before : b < s.tsu.xt) : secondBefore s.tsu.state (pulseTaken q label m s) =
      if s.tsu.state = .holdover ∧ b + 10 ^ 9 * (s.div.secs + 1) ≤ m.tsu.xt then pulseAfterSecond q label b m s
      else pulseTaken q label m s := by
  have div : (pulseTaken q label m s).div = s.div := pulseTaken_base step base before
  have due : holdoverDue (pulseTaken q label m s) = decide (b + 10 ^ 9 * (s.div.secs + 1) ≤ m.tsu.xt) := by
    rw [holdoverDue, div, base, pulseTaken_tsu]
    rfl
  unfold secondBefore
  by_cases old : s.tsu.state = .holdover
  · rw [if_pos old, secondIn, due, readXt, div, base, old]
    dsimp only
    rw [pulseTaken_tsu]
    by_cases reached : b + 10 ^ 9 * (s.div.secs + 1) ≤ m.tsu.xt
    · rw [if_pos (decide_eq_true reached), if_pos ⟨rfl, reached⟩]
      rfl
    · rw [if_neg (by simpa using reached), if_neg fun k => reached k.2]
  · rw [if_neg old, if_neg fun k => old k.1]

theorem runOrder_second {old : TsState} {step : Option Nat} {S : Nat} (h : step = some S) (rs : List Report) (s : State) :
    runOrder step old [.second, .request] rs s = rs.foldl (fun t r => r.act t) (secondBefore old s) := by
  subst h
  rfl

/-- Settles O20: the reports on the state the move leaves, without and with a step, and the second a step has made due. -/
theorem accepted_pulse_moves_the_timescale : Obligations.accepted_pulse_moves_the_timescale := by
  intro s q bytes run phase pending len label leap expected sum valid order interval direction theta m changed bounded acc late
  have passed : rejectReason s q (readWindow bytes) = none := by
    rw [readWindow_eq len]
    exact rejectReason_none sum valid order interval direction
  have exec' (picks : List Pick) := exec_readComplete_accepted run phase pending passed picks (m := m) (theta := theta)
    (by rw [readWindow_eq len]; rfl) (by rw [readWindow_eq len]; exact (pulseMove_eq ..).symm)
  rw [readWindow_eq len] at exec'
  dsimp only at exec'
  change ∀ picks, exec (.readComplete bytes picks) s = .next (if m.tooLate s then s else runOrder m.step s.tsu.state picks
    (pulseReports s.tsu (badRun s.ref) (fieldAt bytes 7 4) leap theta m) (pulseTaken q label m s)) at exec'
  have tooLate : m.tooLate s = true ↔ late := by
    simp only [Move.tooLate, Bool.and_eq_true, Option.any_eq_true, decide_eq_true_eq]
    rfl
  refine ⟨fun k picks => by rw [exec', if_pos (tooLate.mpr k)], fun inTime => ?_⟩
  have ran (picks : List Pick) := (exec' picks).trans (congrArg _ (if_neg (tooLate.not.mpr inTime)))
  have request := (ran [.request]).trans (congrArg _ (runOrder_pulse q label (fieldAt bytes 7 4) leap theta m s [.request] (.inr rfl)))
  have frame := pulseAccepted_frame q label (fieldAt bytes 7 4) leap theta m s
  obtain ⟨agrees, div⟩ := pulseAccepted_agrees q label (fieldAt bytes 7 4) leap theta m s
  refine ⟨pulseAccepted q label (fieldAt bytes 7 4) leap theta m s, request, by rw [frame], ?_, ⟨div, agrees.evu, agrees.stg⟩,
    pulseAccepted_has q label (fieldAt bytes 7 4) leap theta m s,
    fun change => pulseAccepted_status_changed q label (fieldAt bytes 7 4) leap theta m s change,
    fun same => pulseAccepted_status_same q label (fieldAt bytes 7 4) leap theta m s (not_not.mp same),
    pulseAccepted_reportedOnly q label (fieldAt bytes 7 4) leap theta m s, ?_, fun step => ?_, fun S step => ?_, fun b S step base before => ?_⟩
  · rw [frame]
    exact pulseTaken_ref q label m s
  · conv_lhs => rw [frame]
    rw [frame]
  · refine ⟨?_, ?_, ?_, fun picks => (ran picks).trans (congrArg _ (runOrder_pulse q label _ leap theta m s picks (.inl step)))⟩
    all_goals
      rw [frame, pulseTaken, applyMove, step]
      rfl
  · have stepped : SteppedBy S s (pulseTaken q label m s) := applyMove_steppedBy step (onRef _ s)
    refine ⟨stepped.congr (by rw [frame]) (by rw [frame]) (by rw [frame]) (by rw [frame, pulseTaken_tsu]), _, ran [], ?_⟩
    rw [step]
    refine cascadedTo (s := pulseAccepted q label (fieldAt bytes 7 4) leap theta m s) ?_
    rw [frame]
    exact run
  · dsimp only
    have second := ran [.second, .request]
    rw [runOrder_second step, secondBefore_pulse step base before] at second
    refine ⟨fun early => ?_, fun due => ⟨pulseAcceptedLater q label (fieldAt bytes 7 4) leap theta b m s,
      ?_, ?_, pulseAcceptedLater_tsu .., pulseAcceptedLater_reportedOnly .., pulseAcceptedLater_frame ..⟩⟩
    · rw [second, if_neg early]
      rfl
    · rw [second, if_pos due]
      rfl
    · have terms : (pulseAccepted q label (fieldAt bytes 7 4) leap theta m s).div.base = none
          ∧ (pulseAccepted q label (fieldAt bytes 7 4) leap theta m s).div.terms = some ⟨fieldAt bytes 7 4, theta.natAbs⟩ := by
        rw [pulseAccepted_div, Div.evaluate_frame]
        exact ⟨rfl, rfl⟩
      rw [pulseAcceptedLater_div, terms.1, terms.2,
        Div.evaluate_base { s.div with secs := min 4294967295 ((m.tsu.xt - b) / 10 ^ 9) } none .holdover s.osc.state]
      rfl

end Sys2Proof.Machine
end

section
/-! SUPPORT. The tap ports, and the statements on their links, their frames and their configuration (R57 to R71, R77, R183). -/

namespace Sys2Proof.Machine

variable {s t u : State}

/-! ### Links and frames (R57, R60, R62 to R69) -/

/-- A port that moves makes its PORT_STATE record, and no other block changes (R57). -/
theorem movePort_spec (n : Fin 8) (p : Port) (s : State) : ∃ t, movePort n p s = t ∧ t.taps = s.taps.set n p
    ∧ t.evu = (makeEvidence (.portState n (port s n).state p.state) s).evu ∧ s.stg.reservedOnly t.stg
    ∧ t = { s with taps := t.taps, evu := t.evu, stg := t.stg } := by
  have agrees : Agree s (setPort n p s) := ⟨rfl, rfl, rfl, rfl⟩
  refine ⟨_, rfl, by simp [movePort, setPort], (agrees.makeEvidence _).evu, makeEvidence_reservedOnly _ (setPort n p s), ?_⟩
  refine State.eq_of_fields ?_ ?_ ?_ ?_ rfl ?_ rfl ?_ rfl ?_ ?_ ?_ ?_ <;> simp [movePort, setPort]

theorem Port.abandon_eq (p : Port) : p.abandon = { p with
    frame := none
    counters := if p.frame.isSome then { p.counters with malformed := min (2 ^ 64 - 1) (p.counters.malformed + 1) } else p.counters } := by
  obtain ⟨state, present, armEnd, frame, config, fifo, counters⟩ := p
  cases frame <;> rfl

/-- Settles O25: the link event by the state of the port. -/
theorem link_events_move_an_enabled_port : Obligations.link_events_move_an_enabled_port := by
  intro s n p abandoned
  have gain : exec (.linkGain n) s = .next (linkGain n s) := rfl
  have loss : exec (.linkLoss n) s = .next (linkLoss n s) := rfl
  refine ⟨fun state => ?_, fun state => ?_, fun down => ?_, fun up => ?_⟩
  · rw [gain, linkGain]
    cases k : (port s n).state with
    | down => exact absurd k state
    | disabled => simp only [k]; rfl
    | up => simp only [k]; rfl
  · rw [loss, linkLoss]
    cases k : (port s n).state with
    | up => exact absurd k state
    | disabled => simp only [k]; rfl
    | down => simp only [k]; rfl
  · obtain ⟨t, moved, taps, evu, stg, frame⟩ := movePort_spec n { p with present := true, state := .up } s
    refine ⟨t, ?_, taps, ?_, stg, frame⟩
    · rw [gain, linkGain, ← moved]
      simp only [show (port s n).state = .down from down]
      rfl
    · rw [evu, show (port s n).state = .down from down]
  · obtain ⟨t, moved, taps, evu, stg, frame⟩ := movePort_spec n { ({ p with present := false } : Port).abandon with state := .down } s
    refine ⟨t, ?_, ?_, ?_, stg, frame⟩
    · rw [loss, ← moved]
      unfold linkLoss
      dsimp only
      split
      · rfl
      · exact absurd (up.symm.trans ‹_›) (by decide)
      · exact absurd (up.symm.trans ‹_›) (by decide)
    · rw [taps, Port.abandon_eq]
    · rw [evu, show (port s n).state = .up from up]

/-- Settles O26: a start by the state of the port and its arming end. -/
theorem start_of_frame_is_captured_or_discarded : Obligations.start_of_frame_is_captured_or_discarded := by
  intro s n run free p arming
  have started : exec (.startOfFrame n) s = .next (startOfFrame n s) := exec_running run
  have armed : p.arming s.osc.tick = true ↔ arming := by
    simp only [Port.arming, Option.any_eq_true, decide_eq_true_eq]
    rfl
  refine ⟨fun up soon => ?_, fun up late => ?_, fun state => ?_⟩
  · rw [started, startOfFrame, if_pos ⟨up, free⟩, if_pos (armed.mpr soon)]
    rfl
  · rw [started, startOfFrame, if_pos ⟨up, free⟩, if_neg (armed.not.mpr late)]
    rfl
  · rw [started, startOfFrame, if_neg fun k => state k.1]

theorem mapLast_eq_self {α : Type} {f : α → α} {l : List α} (h : ∀ x, l.getLast? = some x → f x = x) : mapLast f l = l := by
  obtain rfl | ⟨l, x, rfl⟩ := l.eq_nil_or_concat
  · rfl
  · rw [List.concat_eq_append, mapLast_append_singleton, h x (by simp)]

/-- Only an open GAP entry is closed (R69). -/
theorem mapLast_close_of_closed {fifo : List PortEntry} (closed : hasOpenGap fifo = false) : mapLast PortEntry.close fifo = fifo := by
  refine mapLast_eq_self fun e last => ?_
  obtain ⟨hdr, capTick, body⟩ := e
  cases body with
  | arrival a => rfl
  | gap lost lastLost isOpen =>
    have shut : isOpen = false := by simpa [hasOpenGap, last, PortEntry.isOpenGap] using closed
    rw [shut]
    rfl

theorem hasOpenGap_append (l : List PortEntry) (e : PortEntry) : hasOpenGap (l ++ [e]) = e.isOpenGap := by
  simp [hasOpenGap]

theorem loseInto_closed {fifo : List PortEntry} (closed : hasOpenGap fifo = false) (hdr : Header) (capTick : Nat) :
    loseInto hdr capTick fifo = fifo ++ [{ hdr := hdr, capTick := capTick, body := .gap 1 hdr.stamp true }] := by
  rw [loseInto, closed]
  rfl

theorem loseInto_gap (l : List PortEntry) (h : Header) (k lost last : Nat) (fits : lost + 1 < 2 ^ 64) (hdr : Header) (capTick : Nat) :
    loseInto hdr capTick (l ++ [⟨h, k, .gap lost last true⟩]) = l ++ [⟨h, k, .gap (lost + 1) hdr.stamp true⟩] := by
  rw [loseInto, hasOpenGap_append, if_pos (show PortEntry.isOpenGap ⟨h, k, .gap lost last true⟩ = true from rfl), mapLast_append_singleton]
  show l ++ [(⟨h, k, .gap (fit64 (lost + 1)) hdr.stamp true⟩ : PortEntry)] = _
  rw [fit64_of_lt fits]

/-- Settles O27: the end of a frame in progress by its length, its filter and the room of the FIFO. -/
theorem end_of_frame_counts_the_frame_once : Obligations.end_of_frame_counts_the_frame_once := by
  intro s n frame run p
  have ended : exec (.endOfFrame n frame) s = .next (endOfFrame n frame s) := exec_running run
  refine ⟨fun free => ?_, fun r captured => ?_⟩
  · rw [ended, endOfFrame, show (port s n).frame = none from free]
  · intro a legal hdr
    rw [ended, endOfFrame, show (port s n).frame = some r from captured]
    dsimp only
    by_cases fits : legal
    · have within : ¬(frame.length < 64 ∨ 9216 < frame.length) := by
        obtain ⟨low, high⟩ := fits
        omega
      have finished : finishFrame n r frame { port s n with frame := none } s = if p.config.filter.records a.kind then
          enterFifo n hdr r.tick a { p with frame := none } s
          else setPort n { p with frame := none, counters := p.counters.addFiltered } s := if_neg within
      rw [finished]
      cases recorded : p.config.filter.records a.kind with
      | false =>
        exact ⟨_, p.fifo, p.counters.addFiltered, rfl, rfl, rfl, fun k => absurd fits k, fun _ _ => ⟨rfl, rfl, rfl⟩, nofun, nofun⟩
      | true =>
        rw [if_pos rfl]
        by_cases room : p.fifo.length < 511
        · refine ⟨_, mapLast PortEntry.close p.fifo ++ [{ hdr := hdr, capTick := r.tick, body := .arrival a }], p.counters.addRecorded,
            congrArg _ (if_pos room), rfl, rfl, fun k => absurd fits k, nofun, fun _ _ _ => ⟨?_, ?_, rfl, rfl⟩,
            fun _ _ full => absurd room (Nat.not_lt_of_le full)⟩
          · intro closed
            rw [mapLast_close_of_closed closed]
          · intro l h k lost last gap
            rw [gap, mapLast_append_singleton, List.append_assoc]
            rfl
        · refine ⟨_, loseInto hdr r.tick p.fifo, p.counters.addLost, congrArg _ (if_neg room), rfl, rfl, fun k => absurd fits k, nofun,
            fun _ _ k => absurd k room, fun _ _ _ => ⟨fun closed => loseInto_closed closed hdr r.tick, ?_, rfl, rfl⟩⟩
          intro l h k lost last gap fits
          rw [gap, loseInto_gap _ _ _ _ _ fits]
    · have beyond : frame.length < 64 ∨ 9216 < frame.length := by
        by_contra k
        exact fits ⟨by omega, by omega⟩
      exact ⟨_, p.fifo, p.counters.addMalformed, congrArg _ (if_pos beyond), rfl, rfl, fun _ => ⟨rfl, rfl, rfl⟩,
        fun k => absurd k fits, fun k => absurd k fits, fun k => absurd k fits⟩

/-! ### CONFIG_PORT CONFIGURE (R61, R183) -/

theorem readKeyOffset_eq_some (v : Nat) (x : Option Nat) :
    readKeyOffset v = some x ↔ (v = 0xFFFF ∨ v ≤ 255) ∧ (if v = 0xFFFF then none else some v) = x := by
  unfold readKeyOffset
  split_ifs <;> simp [*]

/-- The kind-map entry of the two bytes at an offset. -/
def kindEntryAt (b : List Byte) (i : Nat) : Option KindEntry :=
  match byteAt b (i + 1) with
  | 1 => some ⟨BitVec.ofNat 8 (byteAt b i), .new⟩
  | 2 => some ⟨BitVec.ofNat 8 (byteAt b i), .amend⟩
  | 3 => some ⟨BitVec.ofNat 8 (byteAt b i), .cancel⟩
  | _ => none

theorem readKindEntry_eq_some (b : List Byte) (i : Nat) (x : Option KindEntry) :
    readKindEntry (byteAt b i) (byteAt b (i + 1)) = some x ↔ byteAt b (i + 1) ≤ 3 ∧ kindEntryAt b i = x := by
  unfold readKindEntry kindEntryAt
  match byteAt b (i + 1) with
  | 0 => simp
  | 1 => simp
  | 2 => simp
  | 3 => simp
  | n + 4 => simp

theorem readFilter_eq_some (v : Nat) (x : Bool) : readFilter v = some x ↔ v ≤ 1 ∧ decide (v = 0) = x := by
  match v with
  | 0 => simp [readFilter]
  | 1 => simp [readFilter]
  | n + 2 => simp [readFilter]

theorem readDefaultGroup_eq_some (v : Nat) (x : Option (Fin 64)) : readDefaultGroup v = some x
    ↔ (v = 0xFF ∨ v < 64) ∧ (if h : v < 64 then some ⟨v, h⟩ else none) = x := by
  unfold readDefaultGroup
  by_cases absent : v = 0xFF
  · subst absent
    simp
  · by_cases group : v < 64 <;> simp [absent, group]

/-- The two bytes at an offset give an entry where the class code is one of three. -/
theorem kindEntryAt_value (b : List Byte) (i : Nat) (small : byteAt b (i + 1) ≤ 3) :
    (byteAt b (i + 1) = 0 ∧ kindEntryAt b i = none)
      ∨ (byteAt b (i + 1) ≠ 0 ∧ ∃ k, kindEntryAt b i = some ⟨BitVec.ofNat 8 (byteAt b i), k⟩) := by
  unfold kindEntryAt
  generalize byteAt b (i + 1) = c at small
  match c with
  | 0 => exact .inl ⟨rfl, rfl⟩
  | 1 => exact .inr ⟨by decide, _, rfl⟩
  | 2 => exact .inr ⟨by decide, _, rfl⟩
  | 3 => exact .inr ⟨by decide, _, rfl⟩
  | n + 4 => omega

/-- Two present entries are of different byte values. -/
def kindsDiffer (b : List Byte) (i j : Nat) : Prop :=
  byteAt b (i + 1) ≠ 0 → byteAt b (j + 1) ≠ 0 → byteAt b i ≠ byteAt b j

theorem kindsDiffer_iff {b : List Byte} {i j : Nat} (first : byteAt b (i + 1) ≤ 3) (second : byteAt b (j + 1) ≤ 3) :
    kindsDiffer b i j ↔ ∀ x y, kindEntryAt b i = some x → kindEntryAt b j = some y → x.value ≠ y.value := by
  have small (k : Nat) : byteAt b k < 256 := (b.getD k 0).isLt
  unfold kindsDiffer
  obtain ⟨zero, none⟩ | ⟨one, k, some⟩ := kindEntryAt_value b i first
  · simp [zero, none]
  · obtain ⟨zero', none'⟩ | ⟨one', k', some'⟩ := kindEntryAt_value b j second
    · simp [zero', none']
    · have value : BitVec.ofNat 8 (byteAt b i) = BitVec.ofNat 8 (byteAt b j) ↔ byteAt b i = byteAt b j := by
        rw [← BitVec.toNat_inj, BitVec.toNat_ofNat, BitVec.toNat_ofNat, Nat.mod_eq_of_lt (small i), Nat.mod_eq_of_lt (small j)]
      simp [one, one', some, some', value]

/-- The items of a CONFIGURE within their ranges. -/
def configureLegal (b : List Byte) : Prop :=
  (∀ i ∈ [20, 22, 24, 26], fieldAt b i 2 = 0xFFFF ∨ fieldAt b i 2 ≤ 255) ∧ (∀ i ∈ [28, 30, 32, 34], byteAt b (i + 1) ≤ 3)
    ∧ (∀ i ∈ [36, 37, 38, 39], byteAt b i ≤ 1) ∧ (byteAt b 40 = 0xFF ∨ byteAt b 40 < 64)
    ∧ ∀ i ∈ [28, 30, 32, 34], ∀ j ∈ [28, 30, 32, 34], i ≠ j → kindsDiffer b i j

/-- The configuration of a CONFIGURE whose items are within their ranges. -/
def configuredPort (b : List Byte) : PortConfig :=
  let key := fun i => if fieldAt b i 2 = 0xFFFF then none else some (fieldAt b i 2)
  { compensation := min 16383 (fieldAt b 18 2), sessionAt := key 20, messageAt := key 22, groupAt := key 24, kindAt := key 26
    kindMap := [kindEntryAt b 28, kindEntryAt b 30, kindEntryAt b 32, kindEntryAt b 34]
    filter := ⟨decide (byteAt b 36 = 0), decide (byteAt b 37 = 0), decide (byteAt b 38 = 0), decide (byteAt b 39 = 0)⟩
    defaultGroup := if h : byteAt b 40 < 64 then some ⟨byteAt b 40, h⟩ else none }

theorem kindsDiffer_comm {b : List Byte} {i j : Nat} (h : kindsDiffer b i j) : kindsDiffer b j i := fun x y => (h y x).symm

/-- No two present entries of the kind map have one byte value. -/
theorem kindMap_nodup_iff {b : List Byte} (small : ∀ i ∈ [28, 30, 32, 34], byteAt b (i + 1) ≤ 3) :
    (([kindEntryAt b 28, kindEntryAt b 30, kindEntryAt b 32, kindEntryAt b 34].filterMap id).map KindEntry.value).Nodup
      ↔ ∀ i ∈ [28, 30, 32, 34], ∀ j ∈ [28, 30, 32, 34], i ≠ j → kindsDiffer b i j := by
  have pairs (l : List Nat) (within : ∀ i ∈ l, byteAt b (i + 1) ≤ 3) :
      (((l.map (kindEntryAt b)).filterMap id).map KindEntry.value).Nodup ↔ l.Pairwise (kindsDiffer b) := by
    rw [List.Nodup, List.pairwise_map, List.pairwise_filterMap, List.pairwise_map]
    refine List.Pairwise.iff_of_mem fun {i j} hi hj => ?_
    rw [kindsDiffer_iff (within i hi) (within j hj)]
    simp only [id]
    exact ⟨fun h x y hx hy => h x hx y hy, fun h x hx y hy => h x y hx hy⟩
  refine (pairs [28, 30, 32, 34] small).trans ⟨fun differ i hi j hj ne => ?_, fun differ => ?_⟩
  · have symmetric : Std.Symm (kindsDiffer b) := ⟨fun _ _ => kindsDiffer_comm⟩
    exact differ.forall hi hj ne
  · exact List.Nodup.pairwise_of_forall_ne (by decide) differ

/-- A CONFIGURE is read as its configuration where its items are within their ranges. -/
theorem readPortConfig_eq_some (b : List Byte) (r : PortConfig × Bool) : readPortConfig b = some r
    ↔ configureLegal b ∧ (configuredPort b, decide (16383 < fieldAt b 18 2)) = r := by
  unfold readPortConfig
  constructor
  · intro read
    obtain ⟨_, k20, read⟩ := Option.bind_eq_some_iff.mp read
    obtain ⟨_, k22, read⟩ := Option.bind_eq_some_iff.mp read
    obtain ⟨_, k24, read⟩ := Option.bind_eq_some_iff.mp read
    obtain ⟨_, k26, read⟩ := Option.bind_eq_some_iff.mp read
    obtain ⟨_, k28, read⟩ := Option.bind_eq_some_iff.mp read
    obtain ⟨_, k30, read⟩ := Option.bind_eq_some_iff.mp read
    obtain ⟨_, k32, read⟩ := Option.bind_eq_some_iff.mp read
    obtain ⟨_, k34, read⟩ := Option.bind_eq_some_iff.mp read
    obtain ⟨_, k36, read⟩ := Option.bind_eq_some_iff.mp read
    obtain ⟨_, k37, read⟩ := Option.bind_eq_some_iff.mp read
    obtain ⟨_, k38, read⟩ := Option.bind_eq_some_iff.mp read
    obtain ⟨_, k39, read⟩ := Option.bind_eq_some_iff.mp read
    obtain ⟨_, k40, read⟩ := Option.bind_eq_some_iff.mp read
    obtain ⟨l20, rfl⟩ := (readKeyOffset_eq_some _ _).mp k20
    obtain ⟨l22, rfl⟩ := (readKeyOffset_eq_some _ _).mp k22
    obtain ⟨l24, rfl⟩ := (readKeyOffset_eq_some _ _).mp k24
    obtain ⟨l26, rfl⟩ := (readKeyOffset_eq_some _ _).mp k26
    obtain ⟨l28, rfl⟩ := (readKindEntry_eq_some b 28 _).mp k28
    obtain ⟨l30, rfl⟩ := (readKindEntry_eq_some b 30 _).mp k30
    obtain ⟨l32, rfl⟩ := (readKindEntry_eq_some b 32 _).mp k32
    obtain ⟨l34, rfl⟩ := (readKindEntry_eq_some b 34 _).mp k34
    obtain ⟨l36, rfl⟩ := (readFilter_eq_some _ _).mp k36
    obtain ⟨l37, rfl⟩ := (readFilter_eq_some _ _).mp k37
    obtain ⟨l38, rfl⟩ := (readFilter_eq_some _ _).mp k38
    obtain ⟨l39, rfl⟩ := (readFilter_eq_some _ _).mp k39
    obtain ⟨l40, rfl⟩ := (readDefaultGroup_eq_some _ _).mp k40
    have small : ∀ i ∈ [28, 30, 32, 34], byteAt b (i + 1) ≤ 3 := by
      simp only [List.forall_mem_cons]
      exact ⟨l28, l30, l32, l34, nofun⟩
    dsimp only at read
    split at read
    · refine ⟨⟨?_, small, ?_, l40, (kindMap_nodup_iff small).mp ‹_›⟩, Option.some.inj read⟩
      · simp only [List.forall_mem_cons]
        exact ⟨l20, l22, l24, l26, nofun⟩
      · simp only [List.forall_mem_cons]
        exact ⟨l36, l37, l38, l39, nofun⟩
    · exact nomatch read
  · rintro ⟨⟨keys, small, filters, group, differ⟩, rfl⟩
    have nodup := (kindMap_nodup_iff small).mpr differ
    simp only [List.forall_mem_cons] at keys small filters
    obtain ⟨l20, l22, l24, l26, -⟩ := keys
    obtain ⟨l28, l30, l32, l34, -⟩ := small
    obtain ⟨l36, l37, l38, l39, -⟩ := filters
    refine Option.bind_eq_some_iff.mpr ⟨_, (readKeyOffset_eq_some _ _).mpr ⟨l20, rfl⟩, ?_⟩
    refine Option.bind_eq_some_iff.mpr ⟨_, (readKeyOffset_eq_some _ _).mpr ⟨l22, rfl⟩, ?_⟩
    refine Option.bind_eq_some_iff.mpr ⟨_, (readKeyOffset_eq_some _ _).mpr ⟨l24, rfl⟩, ?_⟩
    refine Option.bind_eq_some_iff.mpr ⟨_, (readKeyOffset_eq_some _ _).mpr ⟨l26, rfl⟩, ?_⟩
    refine Option.bind_eq_some_iff.mpr ⟨_, (readKindEntry_eq_some b 28 _).mpr ⟨l28, rfl⟩, ?_⟩
    refine Option.bind_eq_some_iff.mpr ⟨_, (readKindEntry_eq_some b 30 _).mpr ⟨l30, rfl⟩, ?_⟩
    refine Option.bind_eq_some_iff.mpr ⟨_, (readKindEntry_eq_some b 32 _).mpr ⟨l32, rfl⟩, ?_⟩
    refine Option.bind_eq_some_iff.mpr ⟨_, (readKindEntry_eq_some b 34 _).mpr ⟨l34, rfl⟩, ?_⟩
    refine Option.bind_eq_some_iff.mpr ⟨_, (readFilter_eq_some _ _).mpr ⟨l36, rfl⟩, ?_⟩
    refine Option.bind_eq_some_iff.mpr ⟨_, (readFilter_eq_some _ _).mpr ⟨l37, rfl⟩, ?_⟩
    refine Option.bind_eq_some_iff.mpr ⟨_, (readFilter_eq_some _ _).mpr ⟨l38, rfl⟩, ?_⟩
    refine Option.bind_eq_some_iff.mpr ⟨_, (readFilter_eq_some _ _).mpr ⟨l39, rfl⟩, ?_⟩
    refine Option.bind_eq_some_iff.mpr ⟨_, (readDefaultGroup_eq_some _ _).mpr ⟨group, rfl⟩, ?_⟩
    exact if_pos nodup

theorem takeConfigPort_at {action : Nat} {f : Fin 8 → List Byte → State → State} {b : List Byte} {n : Fin 8} (port : byteAt b 16 = n.val)
    (code : byteAt b 17 = action) (s : State) : takeConfigPort action f b s = f n b s := by
  have within : byteAt b 16 < 8 := port ▸ n.isLt
  rw [takeConfigPort, dif_pos within, if_pos code]
  congr

theorem takeConfigPort_beyond {action : Nat} {f : Fin 8 → List Byte → State → State} {b : List Byte} (port : 7 < byteAt b 16) (s : State) :
    takeConfigPort action f b s = answer .badParam [] s := dif_neg (by omega)

/-- Settles O29: CONFIGURE by the state of the port and its items. -/
theorem configure_replaces_a_disabled_ports_configuration : Obligations.configure_replaces_a_disabled_ports_configuration := by
  intro s b offered action off key entry legal config
  have taken : exec .configPortConfigure s = .next (takeConfigPort actionConfigure configurePort b s) :=
    offered.exec (f := takeConfigPort actionConfigure configurePort) rfl
  have legal_iff : legal ↔ configureLegal b := Iff.rfl
  have same : config = configuredPort b := rfl
  refine ⟨fun beyond => by rw [taken, takeConfigPort_beyond beyond], fun n number => ?_⟩
  rw [taken, takeConfigPort_at (action := actionConfigure) number action, configurePort]
  dsimp only
  refine ⟨fun enabled => by rw [if_pos enabled]; rfl, fun disabled illegal => ?_, fun disabled ok => ?_⟩
  · rw [if_neg (not_not.mpr disabled)]
    have none : readPortConfig b = none := by
      rw [← Option.not_isSome_iff_eq_none, Option.isSome_iff_exists]
      rintro ⟨r, read⟩
      exact illegal ((readPortConfig_eq_some b r).mp read).1
    rw [none]
  · rw [if_neg (not_not.mpr disabled), (readPortConfig_eq_some b _).mpr ⟨ok, rfl⟩]
    have agrees : Agree s (setPort n { port s n with config := configuredPort b } s) := ⟨rfl, rfl, rfl, rfl⟩
    have flag : clampedOr (decide (16383 < fieldAt b 18 2)) = if 16383 < fieldAt b 18 2 then .clamped else .ok := by
      unfold clampedOr
      by_cases k : 16383 < fieldAt b 18 2 <;> simp [k]
    have shown : appliedPort n { port s n with config := configuredPort b }
        = [⟨2, 1, 0⟩, ⟨16, 4, portCrc n { port s n with config := configuredPort b }⟩] := by
      simp only [appliedPort, disabled]
      rfl
    dsimp only
    rw [flag, shown]
    refine ⟨_, rfl, ?_, (agrees.makeEvidence _).evu, ?_, makeEvidence_reservedOnly _ (setPort n _ s), ?_⟩
    · simp [configPortRecord, setPort, same]
    · exact answer_rqp_congr (by simp [configPortRecord, setPort]) (by simp [configPortRecord, setPort]) _ _
    · refine State.eq_of_fields ?_ ?_ ?_ ?_ rfl ?_ rfl ?_ rfl ?_ ?_ rfl ?_ <;> simp [configPortRecord, setPort]

/-! ### CONFIG_PORT ENABLE and DISABLE (R58 to R60, R77, R171) -/

theorem le_foldl_max_getD {l : List (Option Nat)} {m M : Nat} (h : M ≤ m ∨ some M ∈ l) : M ≤ l.foldl (fun m c => max m (c.getD 0)) m := by
  induction l generalizing m with
  | nil => exact h.resolve_right nofun
  | cons c l ih =>
    rw [List.foldl_cons]
    obtain below | mem := h
    · exact ih (.inl (le_max_of_le_left below))
    · obtain rfl | mem := List.mem_cons.mp mem
      · exact ih (.inl (le_max_right _ _))
      · exact ih (.inr mem)

/-- SETTLE is 10,000 ns plus the largest compensation of the enabled ports, rounded up to ticks (R77). -/
theorem settleOf_eq {comps : Vector (Option Nat) 8} {M : Nat} (within : ∀ n : Fin 8, comps[n].getD 0 ≤ M)
    (reached : M = 0 ∨ ∃ n : Fin 8, comps[n] = some M) : settleOf comps = (10007 + M) / 8 := by
  have above : comps.toList.foldl (fun m c => max m (c.getD 0)) 0 ≤ M := by
    refine foldl_max_getD_le _ (fun c hc => ?_) 0 (Nat.zero_le _)
    obtain ⟨i, hi, rfl⟩ := List.mem_iff_getElem.mp hc
    simpa using within ⟨i, by simpa using hi⟩
  have below : M ≤ comps.toList.foldl (fun m c => max m (c.getD 0)) 0 := by
    refine le_foldl_max_getD (reached.imp (·.le) ?_)
    rintro ⟨n, largest⟩
    rw [← largest]
    simp
  rw [settleOf, Nat.le_antisymm above below, ticksOfNs, ← Nat.add_assoc]

theorem takeConfigPort_unknown {action : Nat} {f : Fin 8 → List Byte → State → State} {b : List Byte} (known : action ≤ 2)
    (bad : 7 < byteAt b 16 ∨ 2 < byteAt b 17) (s : State) : takeConfigPort action f b s = answer .badParam [] s := by
  by_cases port : byteAt b 16 < 8
  · have code : 2 < byteAt b 17 := bad.resolve_left (by omega)
    rw [takeConfigPort, dif_pos port, if_neg (by omega), if_pos code]
  · exact dif_neg port

/-- The two records of a port that is enabled or disabled, the merge's report between them, and what they leave. -/
theorem portMoved_spec (n : Fin 8) (action : Nat) (p : Port) (comp : Option Nat) (old new : PortState) (s : State) :
    let t := makeEvidence (.portState n old new) (configPortRecord n action p (reportSettle n comp (setPort n p s)))
    t.taps = s.taps.set n p ∧ t.seq = { s.seq with comps := s.seq.comps.set n comp, settle := settleOf (s.seq.comps.set n comp) }
      ∧ t.evu = (makeEvidence (.portState n old new) (makeEvidence (.config 0x21 (some (n, action)) (portCrc n p)) s)).evu
      ∧ s.stg.reservedOnly t.stg ∧ t.rqp = s.rqp ∧ t.arc.copies = s.arc.copies
      ∧ t = { s with taps := t.taps, seq := t.seq, evu := t.evu, stg := t.stg } := by
  intro t
  have agrees : Agree s (reportSettle n comp (setPort n p s)) := ⟨rfl, rfl, rfl, rfl⟩
  refine ⟨?_, ?_, ((agrees.makeEvidence _).makeEvidence _).evu, ?_, ?_, ?_, ?_⟩
  · simp [t, configPortRecord, reportSettle, setPort]
  · simp [t, configPortRecord, reportSettle, setPort]
  · exact (makeEvidence_reservedOnly (.config 0x21 (some (n, action)) (portCrc n p)) (reportSettle n comp (setPort n p s))).trans
      (makeEvidence_reservedOnly _ _)
  · simp [t, configPortRecord, reportSettle, setPort]
  · simp [t, configPortRecord, reportSettle, setPort]
  · refine State.eq_of_fields ?_ ?_ ?_ ?_ rfl rfl rfl ?_ rfl ?_ ?_ ?_ ?_ <;> simp [t, configPortRecord, reportSettle, setPort]

theorem answer_of_portMoved (h : t = { s with taps := t.taps, seq := t.seq, evu := t.evu, stg := t.stg }) (o : ReqOutcome)
    (fs : List Field) : answer o fs t = { s with
      taps := (answer o fs t).taps, seq := (answer o fs t).seq, evu := (answer o fs t).evu, stg := (answer o fs t).stg
      rqp := (answer o fs t).rqp } :=
  congrArg (withRqp (answer o fs t).rqp) h

/-- Settles O30: ENABLE and DISABLE by the state of the port. -/
theorem enable_and_disable_move_the_port_and_settle : Obligations.enable_and_disable_move_the_port_and_settle := by
  refine ⟨fun comps M => settleOf_eq, fun s b c offered bad row => ?_, fun s b n offered number => ?_⟩
  · obtain rfl | rfl | rfl := row
    · rw [offered.exec (f := takeConfigPort actionConfigure configurePort) rfl, takeConfigPort_unknown (by decide) bad]
    · rw [offered.exec (f := takeConfigPort actionEnable fun n _ => enablePort n) rfl, takeConfigPort_unknown (by decide) bad]
    · rw [offered.exec (f := takeConfigPort actionDisable fun n _ => disablePort n) rfl, takeConfigPort_unknown (by decide) bad]
  · intro p wrong entered comp
    have enable (code : byteAt b 17 = 1) : exec .configPortEnable s = .next (enablePort n s) :=
      (offered.exec (f := takeConfigPort actionEnable fun n _ => enablePort n) rfl).trans
        (congrArg _ (takeConfigPort_at (action := actionEnable) number code s))
    have disable (code : byteAt b 17 = 2) : exec .configPortDisable s = .next (disablePort n s) :=
      (offered.exec (f := takeConfigPort actionDisable fun n _ => disablePort n) rfl).trans
        (congrArg _ (takeConfigPort_at (action := actionDisable) number code s))
    refine ⟨fun code state => ?_, fun code state => ?_, fun code state => ?_, fun code state => ?_⟩
    · rw [enable code, enablePort, if_pos state]
      rfl
    · rw [disable code, disablePort, if_pos state]
      rfl
    · let p' : Port := { p with state := entered, armEnd := some (fit64 (s.osc.tick + (10007 + comp) / 8)) }
      obtain ⟨taps, seq, evu, stg, rqp, copies, frame⟩ := portMoved_spec n actionEnable p' (some comp) .disabled entered s
      have arming : armingLength comp = (10007 + comp) / 8 := by rw [armingLength, ticksOfNs, ← Nat.add_assoc]
      have enabled : enablePort n s = answerForTick (.port n) [⟨2, 1, entered.code⟩, ⟨16, 4, portCrc n p'⟩]
          (makeEvidence (.portState n .disabled entered) (configPortRecord n actionEnable p' (reportSettle n (some comp) (setPort n p' s)))) := by
        rw [enablePort, if_neg (not_not.mpr state)]
        dsimp only
        rw [show armingLength (port s n).config.compensation = _ from arming]
        rfl
      refine ⟨_, p', (enable code).trans (congrArg Host.Outcome.next enabled), rfl, ?_, ?_, ?_, ?_, ?_, ?_⟩
      · rw [answerForTick_taps, taps]
      · rw [answerForTick_seq]
        exact seq
      · rw [answerForTick_evu]
        exact evu
      · exact congrArg (fun r : Rqp => { r with tickResult := some (.port n) }) (answer_rqp_congr rqp copies _ _)
      · rw [answerForTick_stg]
        exact stg
      · exact congrArg (withRqp _) frame
    · let p' : Port := { p.abandon with state := .disabled, armEnd := none }
      obtain ⟨taps, seq, evu, stg, rqp, copies, frame⟩ := portMoved_spec n actionDisable p' none p.state .disabled s
      have disabled : disablePort n s = answer .ok [⟨2, 1, 0⟩, ⟨16, 4, portCrc n p'⟩]
          (makeEvidence (.portState n p.state .disabled) (configPortRecord n actionDisable p' (reportSettle n none (setPort n p' s)))) := by
        rw [disablePort, if_neg state]
        rfl
      refine ⟨_, p', (disable code).trans (congrArg Host.Outcome.next disabled), ?_, ?_, ?_, ?_, ?_, ?_, ?_, ?_, ?_, ?_⟩
      · rfl
      · exact congrArg Port.frame p.abandon_eq
      · exact abandon_fifo p
      · exact congrArg Port.counters p.abandon_eq
      · rw [answer_taps, taps]
      · rw [answer_seq]
        exact seq
      · rw [answer_evu]
        exact evu
      · exact answer_rqp_congr rqp copies _ _
      · rw [answer_stg]
        exact stg
      · exact answer_of_portMoved frame _ _

end Sys2Proof.Machine
end

section
/-! SUPPORT. The choice of the merge, the release of evidence and of a host stamp, and the statements on them and on the evidence unit
(R76, R78, R84, R87, R119 to R121, R124, R127 to R129, R133, R135, R167). -/

namespace Sys2Proof.Machine

variable {s t u : State}

/-! ### The least head (R76, R78) -/

/-- The tie order of the sources (R76). -/
def Source.rank : Source → Nat
  | .notices => 0
  | .evidence => 1
  | .tap n => 2 + n.val
  | .stampSlot => 10

/-- A head stands before another, or with it. -/
def Head.precedes (h k : Head) : Prop := h.stamp < k.stamp ∨ h.stamp = k.stamp ∧ h.source.rank ≤ k.source.rank

theorem mem_heads (s : State) (h : Head) : h ∈ heads s ↔ match h.source with
    | .notices => ∃ q, s.auc.notices.head? = some q ∧ h.stamp = q.hdr.stamp ∧ h.capTick = q.capTick
    | .evidence => ∃ q, s.evu.queue.head? = some q ∧ h.stamp = q.hdr.stamp ∧ h.capTick = q.capTick
    | .tap n => ∃ e, (port s n).fifo.head? = some e ∧ h.stamp = e.hdr.stamp ∧ h.capTick = e.capTick
    | .stampSlot => ∃ e, s.seq.stampSlot = some e ∧ h.stamp = e.hdr.stamp ∧ h.capTick = e.capTick := by
  obtain ⟨source, stamp, capTick⟩ := h
  cases source <;> simp [heads, eq_comm]

/-- The heads stand in the tie order. -/
theorem heads_ranked (s : State) : (heads s).Pairwise fun a b => a.source.rank < b.source.rank := by
  have single : ∀ o : Option Head, o.toList.Pairwise fun a b => a.source.rank < b.source.rank := fun o => by cases o <;> simp
  have taps : ((List.finRange 8).filterMap fun n => (port s n).fifo.head?.map fun e => (⟨.tap n, e.hdr.stamp, e.capTick⟩ : Head)).Pairwise
      fun a b => a.source.rank < b.source.rank := by
    refine List.pairwise_filterMap.mpr ((List.pairwise_lt_finRange 8).imp fun {n m} below a ha b hb => ?_)
    obtain ⟨_, -, rfl⟩ := Option.map_eq_some_iff.mp ha
    obtain ⟨_, -, rfl⟩ := Option.map_eq_some_iff.mp hb
    exact Nat.add_lt_add_left below 2
  unfold heads
  refine List.pairwise_append.mpr ⟨List.pairwise_append.mpr ⟨List.pairwise_append.mpr ⟨single _, single _, ?_⟩, taps, ?_⟩, single _, ?_⟩
  · simp [Source.rank]
  · simp only [List.mem_append, Option.mem_toList, Option.map_eq_some_iff, List.mem_filterMap]
    rintro a (⟨_, -, rfl⟩ | ⟨_, -, rfl⟩) b ⟨n, -, _, -, rfl⟩ <;> simp only [Source.rank] <;> omega
  · simp only [List.mem_append, Option.mem_toList, Option.map_eq_some_iff, List.mem_filterMap]
    rintro a ((⟨_, -, rfl⟩ | ⟨_, -, rfl⟩) | ⟨n, -, _, -, rfl⟩) b ⟨_, -, rfl⟩ <;> simp only [Source.rank] <;> omega

theorem leastHead_mem {l : List Head} {k : Head} (h : leastHead l = some k) : k ∈ l := by
  induction l with
  | nil => exact nomatch h
  | cons x l ih =>
    unfold leastHead at h
    split at h
    · exact Option.some.inj h ▸ List.mem_cons_self
    · split at h
      · exact Option.some.inj h ▸ List.mem_cons_self
      · exact List.mem_cons_of_mem _ (ih (‹leastHead l = some _›.trans h))

/-- The head that stands before every other is the one the merge picks (R78). -/
theorem leastHead_least {l : List Head} (ranked : l.Pairwise fun a b => a.source.rank < b.source.rank) {h : Head} (mem : h ∈ l)
    (least : ∀ k ∈ l, h.precedes k) : leastHead l = some h := by
  induction l with
  | nil => exact nomatch mem
  | cons x l ih =>
    obtain ⟨first, rest⟩ := List.pairwise_cons.mp ranked
    obtain rfl | later := List.mem_cons.mp mem
    · cases tail : leastHead l with
      | none => rw [leastHead, tail]
      | some k =>
        have below : h.stamp ≤ k.stamp := (least k (List.mem_cons_of_mem _ (leastHead_mem tail))).elim (·.le) (·.1.le)
        rw [leastHead, tail]
        exact if_pos below
    · have below : h.stamp < x.stamp := (least x List.mem_cons_self).resolve_right fun tie => absurd tie.2 (first h later).not_ge
      rw [leastHead, ih rest later fun k hk => least k (List.mem_cons_of_mem _ hk)]
      exact if_neg below.not_ge

/-- Settles O31: the picked head is the least, and it is released once settled. -/
theorem merge_releases_the_least_settled_head : Obligations.merge_releases_the_least_settled_head := by
  intro s run order
  have released : exec .mergeRelease s = .next (release s) := exec_running run
  refine ⟨mem_heads s, fun none => ?_, fun h mem least => ?_⟩
  · rw [released, release, picked, none]
    rfl
  · have ranks (x : Source) : order x = x.rank := by cases x <;> rfl
    have choice : picked s = some h := leastHead_least (heads_ranked s) mem fun k hk => by
      have before := least k hk
      rwa [ranks, ranks] at before
    rw [released, release, choice]
    refine ⟨fun ripe open_ => ?_, fun waits => ?_⟩
    · have go : (settled s h && !s.seq.released) = true := by simp [settled, ripe, open_]
      exact congrArg _ (if_pos go)
    · have stay : ¬(settled s h && !s.seq.released) = true := by
        obtain early | already := waits
        · simp [settled, early]
        · simp [already]
      exact congrArg _ (if_neg stay)

/-! ### Evidence and host stamps released (R84, R87, R124, R133, R167) -/

theorem layoutByte_append_beyond {fs gs : List Field} {i : Nat} (beyond : ∀ g ∈ gs, i < g.off) : layoutByte (fs ++ gs) i = layoutByte fs i := by
  have none : gs.find? (fun f => f.off ≤ i && i < f.off + f.size) = none := by
    rw [List.find?_eq_none]
    intro g mem
    simp [beyond g mem]
  rw [layoutByte, layoutByte, List.find?_append, none, Option.or_none]

/-- The chain value covers bytes 0 to 59 of the record, which its own bytes 60 to 63 leave alone (R133). -/
theorem chainedBytes_eq (hdr : Header) (seq chain : Nat) (b : EvBody) :
    (⟨hdr, seq, .evidence b chain⟩ : Record).bytes.take 60 = chainedBytes hdr seq b := by
  unfold Record.bytes chainedBytes layout
  rw [← List.map_take, List.take_range]
  refine List.map_congr_left fun i hi => ?_
  have below : i < 60 := List.mem_range.mp hi
  refine layoutByte_append_beyond fun g mem => ?_
  obtain rfl := List.mem_singleton.mp mem
  exact below

theorem stage_stg_evidence {hdr : Header} {body : RecBody} (stream : body.stream = .evidence) : (stage hdr body s).stg = { s.stg with
    staged := { s.stg.staged with evidence := s.stg.staged.evidence ++ [⟨hdr, s.seq.counter, body⟩] } } := by
  simp only [stage, stream, PerStream.put, PerStream.get]

theorem deliver_of_not_withdrawn (h : s.rqp.withdrawn = false) (o : ReqOutcome) (fs : List Field) : deliver o fs s = answer o fs s := by
  rw [deliver, h]
  rfl

/-- A delivery changes the request processor alone. -/
theorem deliver_frame (o : ReqOutcome) (fs : List Field) (s : State) : deliver o fs s = { s with rqp := (deliver o fs s).rqp } := by
  unfold deliver
  split <;> rfl

/-- An evidence record numbered, chained and staged, ahead of the answer to a MARK (R87, R133). -/
def evidenceStaged (q : QueuedEvidence) (rest : List QueuedEvidence) (s : State) : State :=
  { s with
    evu := { s.evu with queue := rest, chain := chainValue s.evu.chain q.hdr s.seq.counter q.body }
    stg := { s.stg with
      staged := { s.stg.staged with evidence := s.stg.staged.evidence ++
        [⟨q.hdr, s.seq.counter, .evidence q.body (chainValue s.evu.chain q.hdr s.seq.counter q.body)⟩] }
      reserved := s.stg.reserved - 1 }
    seq := { s.seq with counter := nextNumber s.seq.counter } }

theorem takeHead_evidence {q : QueuedEvidence} {rest : List QueuedEvidence} (queue : s.evu.queue = q :: rest) :
    takeHead .evidence s = if q.asked ∧ s.rqp.phase = .answering .mark then
      deliver .ok [⟨16, 8, q.hdr.stamp⟩, ⟨24, 8, s.seq.counter⟩] (evidenceStaged q rest s) else evidenceStaged q rest s := by
  simp only [takeHead, queue]
  rfl

/-- Settles O34: the record numbered, chained and staged; the answer by the flag of the record and the phase of the slot. -/
theorem evidence_release_numbers_chains_and_answers : Obligations.evidence_release_numbers_chains_and_answers := by
  intro s q rest queue bound t record
  have released : t = _ := takeHead_evidence queue
  have blocks : t = { evidenceStaged q rest s with rqp := t.rqp } := by
    rw [released]
    split
    · exact deliver_frame ..
    · rfl
  have chain : t.evu.chain = chainValue s.evu.chain q.hdr s.seq.counter q.body := by
    rw [blocks]
    rfl
  have bytes : record.bytes.take 60 = chainedBytes q.hdr s.seq.counter q.body := chainedBytes_eq ..
  have evu : t.evu = (evidenceStaged q rest s).evu := by rw [blocks]
  have stg : t.stg = (evidenceStaged q rest s).stg := by rw [blocks]
  have seq : t.seq = (evidenceStaged q rest s).seq := by rw [blocks]
  refine ⟨?_, ?_, ?_, fun asked phase here => ?_, fun other => ?_, ?_⟩
  · rw [evu, bytes]
    rfl
  · simp only [stg, record, chain]
    rfl
  · rw [seq, ← nextNumber_of_lt bound]
    rfl
  · rw [released, if_pos ⟨asked, phase⟩, deliver_of_not_withdrawn (s := evidenceStaged q rest s) here]
    rfl
  · rw [released, if_neg]
    · rfl
    · rintro ⟨asked, phase⟩
      exact other.elim (fun k => by simp [k] at asked) fun k => k phase
  · rw [evu, stg, seq]
    exact blocks

/-- A host stamp taken and released with room, ahead of its answer (R84). -/
def stampStaged (e : StampEntry) (s : State) : State :=
  { s with
    seq := { s.seq with stampSlot := none, counter := nextNumber s.seq.counter }
    stg := { s.stg with
      staged := { s.stg.staged with arrival := s.stg.staged.arrival ++ [⟨e.hdr, s.seq.counter, .hostStamp e.event e.tag⟩] }
      openGap := false } }

/-- A host stamp taken and dropped, ahead of its answer (R84). -/
def stampDropped (s : State) : State := { s with seq := { s.seq with stampSlot := none } }

theorem releaseStamp_room (room : s.stg.staged.arrival.length < 16383) (e : StampEntry) : releaseStamp e s =
    if s.rqp.phase = .answering .stamp then deliver .ok [⟨2, 1, e.hdr.cls.code⟩, ⟨16, 8, e.hdr.stamp⟩, ⟨24, 8, s.seq.counter⟩]
      (stageOrdinary e.hdr (.hostStamp e.event e.tag) s) else stageOrdinary e.hdr (.hostStamp e.event e.tag) s := by
  unfold releaseStamp
  dsimp only
  rw [if_pos (arrivalRoom_iff.mpr room)]
  by_cases waiting : s.rqp.phase = .answering .stamp <;> simp [waiting]

theorem releaseStamp_full (full : 16383 ≤ s.stg.staged.arrival.length) (e : StampEntry) : releaseStamp e s =
    if s.rqp.phase = .answering .stamp then deliver .suppressed [⟨2, 1, e.hdr.cls.code⟩, ⟨16, 8, e.hdr.stamp⟩] s else s := by
  unfold releaseStamp
  dsimp only
  rw [if_neg (arrivalRoom_iff.not.mpr (not_lt.mpr full))]
  by_cases waiting : s.rqp.phase = .answering .stamp <;> simp [waiting]

theorem takeHead_stamp_room {e : StampEntry} (slot : s.seq.stampSlot = some e) (room : s.stg.staged.arrival.length < 16383) :
    takeHead .stampSlot s = if s.rqp.phase = .answering .stamp then
      deliver .ok [⟨2, 1, e.hdr.cls.code⟩, ⟨16, 8, e.hdr.stamp⟩, ⟨24, 8, s.seq.counter⟩] (stampStaged e s) else stampStaged e s := by
  simp only [takeHead, slot]
  exact releaseStamp_room (s := stampDropped s) room e

theorem takeHead_stamp_full {e : StampEntry} (slot : s.seq.stampSlot = some e) (full : 16383 ≤ s.stg.staged.arrival.length) :
    takeHead .stampSlot s = if s.rqp.phase = .answering .stamp then
      deliver .suppressed [⟨2, 1, e.hdr.cls.code⟩, ⟨16, 8, e.hdr.stamp⟩] (stampDropped s) else stampDropped s := by
  simp only [takeHead, slot]
  exact releaseStamp_full (s := stampDropped s) full e

/-- A release that answers where its request waits. -/
theorem answerWhere_spec {waits : Prop} [Decidable waits] {o : ReqOutcome} {fs : List Field}
    (h : t = if waits then deliver o fs u else u) : t = { u with rqp := t.rqp }
      ∧ (waits → u.rqp.withdrawn = false → t.rqp = (answer o fs u).rqp) ∧ (¬waits → t.rqp = u.rqp) := by
  subst h
  by_cases k : waits
  · rw [if_pos k]
    exact ⟨deliver_frame .., fun _ here => by rw [deliver_of_not_withdrawn here], fun no => absurd k no⟩
  · rw [if_neg k]
    exact ⟨rfl, fun yes => absurd yes k, fun _ => rfl⟩

/-- Settles O35: the take by the slot, the release by the room of arrival staging. -/
theorem stamp_enters_the_slot_and_is_answered_at_its_release : Obligations.stamp_enters_the_slot_and_is_answered_at_its_release := by
  intro s
  refine ⟨fun b offered => ⟨fun empty => ?_, fun full => ?_⟩, fun e slot bound => ?_⟩
  · rw [offered.exec (f := takeStamp) rfl, takeStamp, empty]
    rfl
  · obtain ⟨e, slot⟩ := Option.isSome_iff_exists.mp full
    rw [offered.exec (f := takeStamp) rfl, takeStamp, slot]
  · intro t held answered
    rcases Nat.lt_or_ge s.stg.staged.arrival.length 16383 with room | full
    · obtain ⟨frame, waits, free⟩ := answerWhere_spec (takeHead_stamp_room slot room)
      have numbered : stampStaged e s = { stampStaged e s with
          seq := { s.seq with stampSlot := none, counter := s.seq.counter + 1 } } := by
        rw [← nextNumber_of_lt bound]
        rfl
      refine ⟨fun _ => ⟨?_, ?_, waits⟩, fun k => absurd room (not_lt.mpr k), free, ?_⟩
      · rw [show t = _ from frame, numbered]
      · rw [show t = _ from frame]
        rfl
      · rw [show t = _ from frame]
        rfl
    · obtain ⟨frame, waits, free⟩ := answerWhere_spec (takeHead_stamp_full slot full)
      refine ⟨fun k => absurd k (not_lt.mpr full), fun _ => ⟨?_, ?_, waits⟩, free, ?_⟩
      · rw [show t = _ from frame]
        rfl
      · rw [show t = _ from frame]
        rfl
      · rw [show t = _ from frame]
        rfl

/-! ### Evidence made with room (R119 to R121, R124, R135) -/

/-- A place in the evidence queue and a slot to reserve (R120). -/
def hasEvidenceRoom (s : State) : Prop := s.evu.queue.length < 128 ∧ s.stg.staged.evidence.length + s.stg.reserved < 256

theorem evidenceRoom_iff_has (s : State) : evidenceRoom s = true ↔ hasEvidenceRoom s := evidenceRoom_iff s

theorem flushReset_none (h : s.evu.pendingReset = none) : flushReset s = s := by rw [flushReset, h]

theorem flushReset_full (full : ¬hasEvidenceRoom s) : flushReset s = s := by
  rw [← evidenceRoom_iff_has] at full
  unfold flushReset
  split
  · rfl
  · exact if_neg full

/-- The pending RESET made (R135). -/
def resetMade (c : ResetCauses) (s : State) : State :=
  pushEvidence (.reset c s.osc.state) false { s with evu := { s.evu with pendingReset := none } }

theorem flushReset_room {c : ResetCauses} (pending : s.evu.pendingReset = some c) (room : hasEvidenceRoom s) :
    flushReset s = resetMade c s := by
  rw [flushReset, pending]
  exact if_pos ((evidenceRoom_iff_has s).mpr room)

theorem flushReset_resetMade (c : ResetCauses) (s : State) : flushReset (resetMade c s) = resetMade c s := flushReset_none rfl

theorem makeEvidence_room (absent : s.evu.pendingReset = none) (room : hasEvidenceRoom s) (b : EvBody) :
    makeEvidence b s = pushEvidence b false s := by
  rw [makeEvidence, flushReset_none absent, if_pos ((evidenceRoom_iff_has s).mpr room)]

theorem makeEvidence_full (full : ¬hasEvidenceRoom s) (b : EvBody) : makeEvidence b s = suppress s := by
  rw [makeEvidence, flushReset_full full, if_neg ((evidenceRoom_iff_has s).not.mpr full)]

theorem pushEvidence_eq (absent : s.evu.pendingReset = none) (b : EvBody) (asked : Bool) : pushEvidence b asked s = { s with
    evu := { s.evu with
      queue := s.evu.queue ++ [⟨⟨s.tsu.xt, s.tsu.leap, s.div.cls, s.tsu.state⟩, s.osc.tick, b, asked⟩], pendingReset := none }
    stg := { s.stg with reserved := s.stg.reserved + 1 } } := by
  rw [pushEvidence, ← absent]
  rfl

/-- Settles O36: the flush of a pending RESET, then the room. -/
theorem evidence_records_are_made_with_room_or_suppressed : Obligations.evidence_records_are_made_with_room_or_suppressed := by
  intro s room hdr made counted
  refine ⟨fun body absent ok => ?_, fun body full => makeEvidence_full full body, fun body c pending ok => ?_, fun b offered =>
    ⟨fun absent ok => ?_, fun full => ?_, fun c pending ok => ?_⟩⟩
  · rw [makeEvidence_room absent ok, pushEvidence_eq absent]
  · show _ = makeEvidence body (resetMade c s)
    rw [makeEvidence, makeEvidence, flushReset_resetMade, flushReset_room pending ok]
  · rw [offered.exec (f := takeMark) rfl, takeMark, flushReset_none absent]
    dsimp only
    rw [if_pos ((evidenceRoom_iff_has s).mpr ok), pushEvidence_eq absent]
    rfl
  · rw [offered.exec (f := takeMark) rfl, takeMark, flushReset_full full]
    dsimp only
    rw [if_neg ((evidenceRoom_iff_has s).not.mpr full)]
    rfl
  · show _ = exec .mark (resetMade c s)
    have still : Offered 0x02 b (resetMade c s) := offered
    rw [offered.exec (f := takeMark) rfl, still.exec (f := takeMark) rfl, takeMark, takeMark, flushReset_resetMade,
      flushReset_room pending ok]
    rfl

/-- Settles O37: the boundary, the flush of a pending RESET, and the room. -/
theorem summaries_and_the_pending_reset_are_made_with_room : Obligations.summaries_and_the_pending_reset_are_made_with_room := by
  intro s run room hdr ns
  have summary : exec .summaryDue s = .next (summaryStep s) := exec_running run
  have pendingReset : exec .pendingReset s = .next (flushReset s) := exec_running run
  have attempt (due : s.evu.boundary ≤ s.tsu.xt) : exec .summaryDue s = .next (attemptSummary s) := by
    rw [summary, summaryStep, if_pos (show summaryIsDue s = true from decide_eq_true due)]
  refine ⟨fun early => ?_, fun c pending ok due => ?_, fun free positive due => ?_, fun c pending ok => ?_, fun free => ?_⟩
  · have waits : ¬summaryIsDue s = true := by simp [summaryIsDue, early]
    rw [summary, summaryStep, if_neg waits]
  · have again : exec .summaryDue (resetMade c s) = .next (attemptSummary (resetMade c s)) := by
      rw [show exec .summaryDue (resetMade c s) = .next (summaryStep (resetMade c s)) from exec_running run, summaryStep,
        if_pos (show summaryIsDue (resetMade c s) = true from decide_eq_true due)]
    show _ = exec .summaryDue (resetMade c s)
    rw [again, attempt due, attemptSummary, attemptSummary, flushReset_resetMade, flushReset_room pending ok]
  · have flushed : flushReset s = s := free.elim flushReset_none flushReset_full
    obtain ⟨above, within, whole⟩ := nextBoundary_above positive s.tsu.xt
    rw [attempt due, attemptSummary, flushed]
    dsimp only
    by_cases ok : hasEvidenceRoom s
    · rw [if_pos ((evidenceRoom_iff_has s).mpr ok)]
      have absent : s.evu.pendingReset = none := free.resolve_right (not_not.mpr ok)
      exact ⟨_, rfl, above, within, whole, fun _ => ⟨rfl, rfl⟩, fun k => absurd ok k, rfl⟩
    · rw [if_neg ((evidenceRoom_iff_has s).not.mpr ok)]
      exact ⟨_, rfl, above, within, whole, fun k => absurd k ok, fun _ => ⟨rfl, rfl⟩, rfl⟩
  · rw [pendingReset, flushReset_room pending ok]
    rfl
  · rw [pendingReset, free.elim flushReset_none flushReset_full]

end Sys2Proof.Machine
end

section
/-! SUPPORT. The deadlines of the auction timer, and their statements (R97, R98, R101 to R104, R109, R125). -/

namespace Sys2Proof.Machine

variable {s t : State}

/-! ### The ready deadline (R97, R98) -/

theorem dueHead_cons {d : Deadline} {later : List Deadline} (head : s.auc.deadlines = d :: later) :
    dueHead s = if d.instant ≤ s.tsu.xt then some d else none := by
  simp only [dueHead, comparator, head, List.head?_cons, Option.filter, decide_eq_true_eq]

theorem noticeRoom_iff (s : State) : noticeRoom s = true ↔ s.auc.notices.length < 128 := decide_eq_true_iff

theorem ready_due {d : Deadline} {later : List Deadline} (head : s.auc.deadlines = d :: later) (due : d.instant ≤ s.tsu.xt)
    (room : s.auc.notices.length < 128) : ready s = some d := by
  rw [ready, if_pos ((noticeRoom_iff s).mpr room), dueHead_cons head, if_pos due]

theorem ready_waits {d : Deadline} {later : List Deadline} (head : s.auc.deadlines = d :: later)
    (waits : s.tsu.xt < d.instant ∨ 128 ≤ s.auc.notices.length) : ready s = none := by
  unfold ready
  split
  · have room := (noticeRoom_iff s).mp ‹_›
    rw [dueHead_cons head, if_neg (by omega)]
  · rfl

theorem exec_row_waits (run : s.osc.phase = .running) (h : ready s = none) (tag : Tag) : exec tag.row s = .next s := by
  have idle : handleTagged tag s = s := by rw [handleTagged, h]
  conv_rhs => rw [← idle]
  rw [exec_running run]
  cases tag <;> rfl

/-- A deadline handled, the spans of steps aside (log 21). -/
theorem exec_row_handles {d : Deadline} {c : Instr} (run : s.osc.phase = .running) (h : ready s = some d) (row : d.tag.row = c) :
    ∃ spans, exec c s = .next { handleDeadline d s with auc := { (handleDeadline d s).auc with spans := spans } } := by
  rw [← row, exec_row run h, handleReady_ready h]
  unfold pruneSpans
  split
  · exact ⟨_, rfl⟩
  · exact ⟨[], rfl⟩

theorem steppedOver_eq (s : State) (instant : Nat) :
    steppedOver s instant = decide (∃ sp ∈ s.auc.spans, sp.before < instant ∧ instant ≤ sp.after) := by
  rw [Bool.eq_iff_iff]
  simp [steppedOver]

/-- Settles O38: the due head handled as at its instant, and the rows that wait. -/
theorem start_and_decide_limit_are_handled_at_their_instant :
    Obligations.start_and_decide_limit_are_handled_at_their_instant := by
  intro s d later run head
  dsimp only
  refine ⟨fun waits => ?_, fun due room => ?_⟩
  · have rows := exec_row_waits run (ready_waits head waits)
    exact ⟨rows .start, rows .end_, rows .cutoff, rows .decideLimit⟩
  · have handled := fun c (row : d.tag.row = c) => exec_row_handles run (ready_due head due room) row
    refine ⟨fun tag => ?_, fun tag dflt ext fits => ?_, fun tag closes => ?_⟩
    · obtain ⟨spans, step⟩ := handled .startDeadline (by rw [tag]; rfl)
      refine ⟨_, step, ?_⟩
      rw [show handleDeadline d s = handleStart d s by rw [handleDeadline, tag], handleStart, steppedOver_eq]
      exact ⟨rfl, rfl⟩
    · obtain ⟨spans, step⟩ := handled .decideLimit (by rw [tag]; rfl)
      refine ⟨_, step, ?_⟩
      rw [show handleDeadline d s = handleLimit d s by rw [handleDeadline, tag], handleLimit]
      dsimp only
      rw [if_pos ⟨dflt, ext⟩, steppedOver_eq,
        fit64_of_lt (show d.instant + nsPerSecond * (group s d.group).dfltE < 2 ^ 64 from fits)]
      exact ⟨rfl, rfl⟩
    · obtain ⟨spans, step⟩ := handled .decideLimit (by rw [tag]; rfl)
      have closed : ¬((group s d.group).dflt = .extend ∧ (group s d.group).ext < 7) := by
        rintro ⟨extend, below⟩
        obtain close | full := closes
        · exact nomatch close.symm.trans extend
        · omega
      refine ⟨_, step, ?_⟩
      rw [show handleDeadline d s = handleLimit d s by rw [handleDeadline, tag], handleLimit]
      dsimp only
      rw [if_neg closed, steppedOver_eq]
      exact ⟨rfl, rfl⟩

/-! ### The entry to DECIDE (R104, R125) -/

/-- The group's deadline after a move of R102 to R104. -/
def MovedTo (s : State) (g : Fin 64) (t : State) (v : Group) (instant : Nat) (tag : Tag) (notices : List QueuedNotice) : Prop :=
  t.auc = { s.auc with groups := s.auc.groups.set g v, notices := notices, spans := t.auc.spans, draws := t.auc.draws,
                       deadlines := insertDeadline ⟨instant, g, tag⟩ (dropDeadline g s.auc.deadlines) }

/-- What the handling of a cutoff leaves. -/
def DecidedTo (s : State) (g : Fin 64) (t : State) (r cutoff : Nat) (flags : NoticeFlags) : Prop :=
  let v := group s g
  let limit := cutoff + 10 ^ 9 * v.d
  let v' : Group := { v with state := .decide, r := some r, cutoff := some cutoff, limit := some limit }
  limit < 2 ^ 64 → MovedTo s g t v' limit .decideLimit
      (s.auc.notices ++ [⟨⟨cutoff, s.tsu.leap, s.div.cls, s.tsu.state⟩, s.osc.tick, noticeOf .cutoff g v' flags⟩])
    ∧ t.evu = (makeEvidence (.auctionDraw g flags v.cycle v.tEnd v.w r cutoff) s).evu ∧ s.stg.reservedOnly t.stg
    ∧ t.arc.has .decidePending = true ∧ (∀ x, x ≠ .decidePending → t.arc.has x = s.arc.has x)
    ∧ t.arc = { s.arc with cause := t.arc.cause, messages := t.arc.messages, messaged := t.arc.messaged }
    ∧ t = { s with auc := t.auc, evu := t.evu, stg := t.stg, arc := t.arc }

theorem drawOffset_state (w : Nat) (s : State) :
    (drawOffset w s).2 = { s with auc := { s.auc with draws := s.auc.draws + if w = 0 then 0 else 1 } } := by
  unfold drawOffset
  split <;> rfl

/-- The cutoff's report is made of what the draw and the notice leave as it was. -/
theorem enterDecide_decides (g : Fin 64) (r cutoff draws : Nat) (flags : NoticeFlags) (spans : List Span) (s : State) :
    let t := enterDecide g (group s g) r cutoff flags { s with auc := { s.auc with draws := draws } }
    (t.auc.draws = draws) ∧ DecidedTo s g { t with auc := { t.auc with spans := spans } } r cutoff flags := by
  have auc : (enterDecide g (group s g) r cutoff flags { s with auc := { s.auc with draws := draws } }).auc.draws = draws := by
    unfold enterDecide
    dsimp only
    rw [raise_auc, makeEvidence_auc]
    rfl
  refine ⟨auc, fun fits => ?_⟩
  unfold enterDecide
  dsimp only
  rw [fit64_of_lt (show cutoff + nsPerSecond * (group s g).d < 2 ^ 64 from fits)]
  generalize hb : EvBody.auctionDraw g flags (group s g).cycle (group s g).tEnd (group s g).w r cutoff = b
  refine ⟨?_, ?_, ?_, ?_, ?_, ?_, ?_⟩
  · simp only [MovedTo, raise_auc, makeEvidence_auc]
    rfl
  · rw [raise_evu]
    exact makeEvidence_congr b rfl rfl rfl rfl rfl
  · rw [raise_stg]
    exact makeEvidence_reservedOnly b _
  · exact (raise_has _ _ _).mpr (.inr rfl)
  · intro x other
    rw [raise, Arc.raise_has_other _ _ _ other, makeEvidence_arc]
    rfl
  · rw [raise, Arc.raise_frame, makeEvidence_arc]
    rfl
  · refine State.eq_of_fields ?_ ?_ ?_ ?_ ?_ ?_ rfl rfl rfl ?_ rfl ?_ ?_ <;> simp [pushNotice, setGroup]

/-- Settles O39: the draw of a due END, the window, STRICT, and the entry to DECIDE. -/
theorem end_draws_the_cutoff_and_the_cutoff_enters_decide :
    Obligations.end_draws_the_cutoff_and_the_cutoff_enters_decide := by
  intro s d later run head due room
  have handled := fun c (row : d.tag.row = c) => exec_row_handles run (ready_due head due room) row
  dsimp only
  refine ⟨fun tag draws => ?_, fun tag strict below => ?_, fun r c tag drawn cutoff => ?_⟩
  · obtain ⟨spans, step⟩ := handled .endDeadline (by rw [tag]; rfl)
    have free : ¬((group s d.group).strict && s.div.cls != .a) = true := by
      rintro both
      obtain ⟨strict, below⟩ := Bool.and_eq_true_iff.mp both
      obtain lax | top := draws
      · exact nomatch lax.symm.trans strict
      · exact absurd top (by simpa using below)
    rw [show handleDeadline d s = handleEnd d s by rw [handleDeadline, tag], handleEnd] at step
    dsimp only at step
    rw [if_neg free, drawOffset_state, steppedOver_eq] at step
    refine ⟨_, (drawOffset (group s d.group).w s).1, step, drawOffset_le _ _, ?_⟩
    split
    · next zero =>
      obtain ⟨count, decided⟩ := enterDecide_decides d.group 0 (group s d.group).tEnd
        (s.auc.draws + if (group s d.group).w = 0 then 0 else 1) _ spans s
      exact ⟨count, fun _ => decided, fun positive => absurd zero positive.ne'⟩
    · next positive =>
      refine ⟨rfl, fun zero => absurd zero positive, fun _ fits => ?_⟩
      rw [fit64_of_lt fits]
      exact ⟨rfl, rfl⟩
  · obtain ⟨spans, step⟩ := handled .endDeadline (by rw [tag]; rfl)
    rw [show handleDeadline d s = handleEnd d s by rw [handleDeadline, tag], handleEnd] at step
    dsimp only at step
    rw [if_pos (by simp [strict, below]), steppedOver_eq] at step
    obtain ⟨count, decided⟩ := enterDecide_decides d.group 0 (group s d.group).tEnd s.auc.draws _ spans s
    exact ⟨_, step, count, decided⟩
  · obtain ⟨spans, step⟩ := handled .cutoffDeadline (by rw [tag]; rfl)
    rw [show handleDeadline d s = handleCutoff d s by rw [handleDeadline, tag], handleCutoff] at step
    dsimp only at step
    rw [drawn, cutoff, steppedOver_eq] at step
    obtain ⟨count, decided⟩ := enterDecide_decides d.group r c s.auc.draws _ spans s
    exact ⟨_, step, count, decided⟩

end Sys2Proof.Machine
end
section
/-! SUPPORT. The group requests and the queries, and their statements (R72, R98, R100, R105 to R108, R111 to R115, R169, R170). -/

namespace Sys2Proof.Machine

variable {s t : State} {b : List Byte} {g : Fin 64}

/-! ### Codes, clamps and the wait for room -/

theorem decisionOf_of_le {n : Nat} (h : n ≤ 1) : decisionOf n = some (if n = 0 then .close else .extend) := by
  obtain rfl | rfl : n = 0 ∨ n = 1 := by omega
  · rfl
  · rfl

theorem decisionOf_none {n : Nat} (h : 2 ≤ n) : decisionOf n = none := by
  obtain ⟨m, rfl⟩ := Nat.exists_eq_add_of_le' h
  rfl

theorem flagOf_of_le {n : Nat} (h : n ≤ 1) : flagOf n = some (n == 1) := by
  obtain rfl | rfl : n = 0 ∨ n = 1 := by omega
  · rfl
  · rfl

theorem flagOf_none {n : Nat} (h : 2 ≤ n) : flagOf n = none := by
  obtain ⟨m, rfl⟩ := Nat.exists_eq_add_of_le' h
  rfl

theorem clampNat_eq {lo hi : Nat} (h : lo ≤ hi) (x : Nat) : clampNat lo hi x = max lo (min hi x) := by
  unfold clampNat
  split
  · omega
  · split <;> omega

theorem clampedOr_of {c : Bool} {exact_ : Prop} [Decidable exact_] (h : c = false ↔ exact_) :
    clampedOr c = if exact_ then .ok else .clamped := by
  by_cases e : exact_
  · rw [if_pos e, h.mpr e]
    rfl
  · have clamped : c = true := by simpa using mt h.mp e
    rw [if_neg e, clamped]
    rfl

theorem whenRoom_free (f : State → State) (room : s.auc.notices.length < 128) (none : dueHead s = none) : whenRoom f s = f s := by
  refine if_pos ?_
  rw [none, (noticeRoom_iff s).mpr room]
  rfl

theorem whenRoom_waits (f : State → State) (h : ¬(s.auc.notices.length < 128 ∧ dueHead s = none)) : whenRoom f s = s := by
  refine if_neg fun free => h ?_
  obtain ⟨room, idle⟩ := Bool.and_eq_true_iff.mp free
  exact ⟨(noticeRoom_iff s).mp room, Option.isNone_iff_eq_none.mp idle⟩

/-! ### SCHEDULE (R100, R169, R170) -/

theorem takeSchedule_bad (h : 64 ≤ (readSchedule b).group ∨ 2 ≤ (readSchedule b).dflt ∨ 2 ≤ (readSchedule b).strict
    ∨ 2 ^ 63 ≤ (readSchedule b).start ∨ 2 ^ 63 ≤ (readSchedule b).tEnd) : takeSchedule b s = answer .badParam [] s := by
  unfold takeSchedule
  dsimp only
  split
  · split
    · next dflt strict =>
      refine if_pos ?_
      obtain group | code | flag | times := h
      · omega
      · exact nomatch (decisionOf_none code).symm.trans dflt
      · exact nomatch (flagOf_none flag).symm.trans strict
      · exact times
    · rfl
  · rfl

theorem takeSchedule_checks (group_ : (readSchedule b).group = g.val) (h : ¬(64 ≤ (readSchedule b).group ∨ 2 ≤ (readSchedule b).dflt
    ∨ 2 ≤ (readSchedule b).strict ∨ 2 ^ 63 ≤ (readSchedule b).start ∨ 2 ^ 63 ≤ (readSchedule b).tEnd)) :
    takeSchedule b s =
      if (group s g).state ≠ .idle then refuseGroup .busyGroup g s
      else if s.tsu.state = .unset then refuseGroup .notSet g s
      else if (readSchedule b).tEnd ≤ s.tsu.xt ∨ (readSchedule b).tEnd ≤ (readSchedule b).start then refuseGroup .past g s
      else acceptSchedule g (readSchedule b) (if (readSchedule b).dflt = 0 then .close else .extend)
        ((readSchedule b).strict == 1) s := by
  obtain ⟨inside, dflt, strict, times⟩ : (readSchedule b).group < 64 ∧ (readSchedule b).dflt ≤ 1 ∧ (readSchedule b).strict ≤ 1
      ∧ ¬(2 ^ 63 ≤ (readSchedule b).start ∨ 2 ^ 63 ≤ (readSchedule b).tEnd) := by omega
  have named : (⟨(readSchedule b).group, inside⟩ : Fin 64) = g := Fin.ext group_
  rw [takeSchedule]
  dsimp only
  rw [dif_pos inside, decisionOf_of_le dflt, flagOf_of_le strict]
  dsimp only
  rw [if_neg times, named]

theorem scheduledEntry_clamped (v : Group) (p : ScheduleParams) (dflt : Decision) (strict : Bool) :
    clampedOr (scheduledEntry v p dflt strict).2 = if p.w ≤ 300000000 ∧ p.dfltW ≤ 300000000 ∧ 1 ≤ p.d ∧ p.d ≤ 600 ∧ 1 ≤ p.dfltE
      ∧ p.dfltE ≤ 3600 then .ok else .clamped := by
  refine clampedOr_of ?_
  simp only [scheduledEntry, clampW, clampNat_eq (show 1 ≤ 600 by decide), clampNat_eq (show 1 ≤ 3600 by decide), windowMax,
    Bool.or_eq_false_iff, bne_eq_false_iff_eq]
  omega

theorem scheduleResult_of {v : Group} (h : group s g = v) : scheduleResult s g = [⟨2, 1, v.state.code⟩, ⟨3, 2, v.cycle⟩,
    ⟨16, 8, v.start⟩, ⟨24, 4, v.w⟩, ⟨28, 4, v.dfltW⟩, ⟨32, 2, v.d⟩, ⟨34, 2, v.dfltE⟩] := by
  subst h
  rfl

theorem openCall_group (g : Fin 64) (v : Group) (s : State) :
    group (openCall g v s) g = { v with state := .call, start := s.tsu.xt } := setGroup_same g _ (some (v.tEnd, .end_)) s

/-- Settles O40: the checks of SCHEDULE, its clamps, and SCHEDULED or CALL. -/
theorem schedule_is_checked_clamped_and_entered : Obligations.schedule_is_checked_clamped_and_entered := by
  intro s b offered p
  have read : p = readSchedule b := rfl
  clear_value p
  subst read
  have taken : exec .schedule s = .next (takeSchedule b s) := offered.exec rfl
  dsimp only
  rw [taken]
  refine ⟨fun bad => congrArg Host.Outcome.next (takeSchedule_bad bad), fun g group_ legal => ?_⟩
  rw [takeSchedule_checks group_ legal]
  refine ⟨fun busy => ?_, fun idle unset => ?_, fun idle set past => ?_, fun idle set ahead => ?_⟩
  · rw [if_pos busy]
    rfl
  · rw [if_neg (not_not.mpr idle), if_pos unset]
    rfl
  · rw [if_neg (not_not.mpr idle), if_neg set, if_pos past]
    rfl
  · rw [if_neg (not_not.mpr idle), if_neg set, if_neg ahead]
    unfold acceptSchedule
    dsimp only
    rw [scheduledEntry_clamped]
    refine ⟨fun later => ⟨_, rfl, ?_⟩, fun now room none => ⟨_, rfl, ?_⟩, fun now waits => ?_⟩
    · rw [if_pos later, scheduleResult_of (setGroup_same ..)]
      simp only [scheduledEntry, clampNat_eq (show 1 ≤ 600 by decide), clampNat_eq (show 1 ≤ 3600 by decide)]
      exact ⟨rfl, rfl, rfl⟩
    · rw [if_neg (Nat.not_lt_of_le now), whenRoom_free _ room none, scheduleResult_of (openCall_group ..)]
      simp only [scheduledEntry, clampNat_eq (show 1 ≤ 600 by decide), clampNat_eq (show 1 ≤ 3600 by decide)]
      exact ⟨rfl, rfl, rfl⟩
    · rw [if_neg (Nat.not_lt_of_le now), whenRoom_waits]
      rintro ⟨room, none⟩
      obtain full | due := waits
      · omega
      · exact due none

end Sys2Proof.Machine
end
section
/-! SUPPORT. AMEND, CANCEL, DECIDE, CLEAR and the queries, and their statements (R72, R98, R105 to R108, R111 to R115, R170). -/

namespace Sys2Proof.Machine

variable {s t : State} {b : List Byte} {g : Fin 64}

/-! ### AMEND (R111, R170) -/

/-- The start an AMEND gives. -/
def AmendParams.given (p : AmendParams) : Option Nat := if p.startFlag = 1 then some p.start else none

theorem AmendParams.given_any (p : AmendParams) (f : Nat → Bool) : p.given.any f = true ↔ p.startFlag = 1 ∧ f p.start = true := by
  unfold given
  split <;> simp [*]

theorem takeAmend_bad (h : 64 ≤ (readAmend b).group ∨ 2 ≤ (readAmend b).startFlag ∨ 2 ^ 63 ≤ (readAmend b).tEnd
    ∨ ((readAmend b).startFlag = 1 ∧ 2 ^ 63 ≤ (readAmend b).start)) : takeAmend b s = answer .badParam [] s := by
  unfold takeAmend
  dsimp only
  split
  · split
    · rfl
    · next given named =>
      refine if_pos ?_
      obtain group | code | late | ⟨flag, late⟩ := h
      · omega
      · exact nomatch (flagOf_none code).symm.trans named
      · exact .inl late
      · rw [flag] at named
        obtain rfl : true = given := Option.some.inj named
        exact .inr (decide_eq_true late)
  · rfl

/-- The checks of a legal AMEND. -/
theorem takeAmend_checks (group_ : (readAmend b).group = g.val) (h : ¬(64 ≤ (readAmend b).group ∨ 2 ≤ (readAmend b).startFlag
    ∨ 2 ^ 63 ≤ (readAmend b).tEnd ∨ ((readAmend b).startFlag = 1 ∧ 2 ^ 63 ≤ (readAmend b).start))) :
    takeAmend b s =
      if ((group s g).state ≠ .scheduled ∧ (group s g).state ≠ .call) ∨ ((group s g).state = .call ∧ (readAmend b).startFlag = 1) then
        refuseGroup .wrongState g s
      else if (readAmend b).tEnd < (group s g).tEnd ∨ (readAmend b).tEnd ≤ s.tsu.xt
          ∨ ((readAmend b).startFlag = 1 ∧ (readAmend b).tEnd ≤ (readAmend b).start) then refuseGroup .past g s
      else acceptAmend g (readAmend b).tEnd (readAmend b).given s := by
  obtain ⟨inside, flag⟩ : (readAmend b).group < 64 ∧ (readAmend b).startFlag ≤ 1 := by omega
  have times : ¬(2 ^ 63 ≤ (readAmend b).tEnd ∨ (readAmend b).given.any (fun x => decide (2 ^ 63 ≤ x)) = true) := by
    rw [AmendParams.given_any, decide_eq_true_eq]
    exact fun late => h (.inr (.inr late))
  have named : (⟨(readAmend b).group, inside⟩ : Fin 64) = g := Fin.ext group_
  have given : (if ((readAmend b).startFlag == 1) = true then some (readAmend b).start else none) = (readAmend b).given := by
    simp [AmendParams.given]
  rw [takeAmend]
  dsimp only
  rw [dif_pos inside, flagOf_of_le flag]
  dsimp only
  rw [given, if_neg times, named]
  simp only [AmendParams.given_any, decide_eq_true_eq, beq_iff_eq]
  by_cases state : (group s g).state ≠ .scheduled ∧ (group s g).state ≠ .call
  · rw [if_pos state, if_pos (.inl state)]
  · by_cases call : (group s g).state = .call ∧ (readAmend b).startFlag = 1
    · rw [if_neg state, if_pos call, if_pos (.inr call)]
    · rw [if_neg state, if_neg call, if_neg (not_or.mpr ⟨state, call⟩)]
      by_cases ends : (readAmend b).tEnd < (group s g).tEnd ∨ (readAmend b).tEnd ≤ s.tsu.xt
      · rw [if_pos ends, if_pos (ends.imp id .inl)]
      · by_cases starts : (readAmend b).startFlag = 1 ∧ (readAmend b).tEnd ≤ (readAmend b).start
        · rw [if_neg ends, if_pos starts, if_pos (.inr (.inr starts))]
        · rw [if_neg ends, if_neg starts, if_neg]
          exact fun past => past.elim (ends ∘ .inl) fun past => past.elim (ends ∘ .inr) starts

theorem amendResult_of {v : Group} (h : group s g = v) : amendResult s g = [⟨2, 1, v.state.code⟩, ⟨3, 2, v.cycle⟩] ++
    [⟨16, 8, v.start⟩, ⟨24, 8, v.tEnd⟩] := by
  subst h
  rfl

/-- What an AMEND leaves without a move into CALL. -/
theorem amendTo_spec (g : Fin 64) (v : Group) (instant : Nat) (tag : Tag) (s : State) :
    let t := amendTo g v instant tag s
    t.auc = { s.auc with groups := s.auc.groups.set g v, deadlines := insertDeadline ⟨instant, g, tag⟩ (dropDeadline g s.auc.deadlines),
                         notices := s.auc.notices }
    ∧ t.rqp = { (answer .ok ([⟨2, 1, v.state.code⟩, ⟨3, 2, v.cycle⟩] ++ [⟨16, 8, v.start⟩, ⟨24, 8, v.tEnd⟩]) s).rqp with
        tickResult := some (.group g) }
    ∧ t = { s with tsu := { s.tsu with xtRead := true }, auc := t.auc, rqp := t.rqp } := by
  unfold amendTo
  dsimp only
  rw [amendResult_of (setGroup_same ..)]
  exact ⟨rfl, rfl, rfl⟩

/-! ### CANCEL (R112) -/

theorem takeCancel_checks (group_ : byteAt b 16 = g.val) : takeCancel b s =
    if (group s g).state = .scheduled ∨ (group s g).state = .call ∨ (group s g).state = .window then whenRoom (acceptCancel g) s
    else refuseGroup .wrongState g s := by
  have inside : byteAt b 16 < 64 := group_ ▸ g.isLt
  have named : (⟨byteAt b 16, inside⟩ : Fin 64) = g := Fin.ext group_
  unfold takeCancel
  rw [dif_pos inside]
  dsimp only
  rw [named]
  cases (group s g).state <;> rfl

theorem groupHeader_of {v : Group} (h : group s g = v) : groupHeader s g = [⟨2, 1, v.state.code⟩, ⟨3, 2, v.cycle⟩] := by
  subst h
  rfl

/-- A CANCEL of a cycle whose draw is not yet made, or is not open. -/
theorem acceptCancel_before (h : (group s g).state ≠ .window) : acceptCancel g s =
    answerNow .ok [⟨2, 1, GroupState.idle.code⟩, ⟨3, 2, (group s g).cycle⟩]
      (pushNotice (noticeOf .cancel g (group s g) ⟨false, false, false, false⟩) s.tsu.xt
        (setGroup g (group s g).idled none s)) := by
  have flag : decide ((group s g).state = .window) = false := decide_eq_false h
  unfold acceptCancel
  dsimp only
  rw [flag]
  simp only [Bool.false_eq_true, if_false, List.append_nil]
  rw [groupHeader_of (v := (group s g).idled)]
  · rfl
  · exact setGroup_same g _ none s

/-- A CANCEL from WINDOW shows the draw. -/
theorem acceptCancel_window (h : (group s g).state = .window) : acceptCancel g s =
    answerNow .ok ([⟨2, 1, GroupState.idle.code⟩, ⟨3, 2, (group s g).cycle⟩]
        ++ [⟨5, 1, 1⟩, ⟨16, 8, (group s g).cutoff.getD 0⟩, ⟨24, 4, (group s g).r.getD 0⟩])
      (makeEvidence (.auctionDraw g ⟨false, false, false, true⟩ (group s g).cycle (group s g).tEnd (group s g).w
          ((group s g).r.getD 0) ((group s g).cutoff.getD 0))
        (pushNotice (noticeOf .cancel g (group s g) ⟨false, false, false, true⟩) s.tsu.xt
          (setGroup g (group s g).idled none s))) := by
  have flag : decide ((group s g).state = .window) = true := decide_eq_true h
  unfold acceptCancel
  dsimp only
  rw [flag]
  simp only [if_true]
  rw [groupHeader_of (v := (group s g).idled)]
  · rfl
  · rw [group, makeEvidence_auc]
    exact setGroup_same g _ none s

/-- Settles O41: AMEND and CANCEL, their checks and their effects. -/
theorem amend_moves_a_cycle_and_cancel_ends_it : Obligations.amend_moves_a_cycle_and_cancel_ends_it := by
  intro s b p
  have read : p = readAmend b := rfl
  clear_value p
  subst read
  have amends : Offered 0x11 b s → exec .amend s = .next (takeAmend b s) := fun offered => offered.exec rfl
  have cancels : Offered 0x12 b s → exec .cancel s = .next (takeCancel b s) := fun offered => offered.exec rfl
  dsimp only
  refine ⟨fun offered bad => ?_, fun offered beyond => ?_, fun g group_ => ⟨fun offered legal => ?_, fun offered => ?_⟩⟩
  · rw [amends offered, takeAmend_bad bad]
  · rw [cancels offered, takeCancel, dif_neg (show ¬byteAt b 16 < 64 from Nat.not_lt_of_le beyond)]
  · rw [amends offered, takeAmend_checks group_ legal]
    refine ⟨fun wrong => ?_, fun right past => ?_, fun open_ call flag => ?_, fun open_ scheduled flag => ?_,
      fun open_ scheduled flag later => ?_, fun open_ scheduled flag now => ⟨fun free => ?_, fun waits => ?_⟩⟩
    · rw [if_pos wrong]
      rfl
    · rw [if_neg right, if_pos past]
      rfl
    · rw [if_neg (by simp [call, flag]), if_neg open_]
      unfold acceptAmend
      dsimp only
      rw [if_pos call]
      exact ⟨_, rfl, amendTo_spec ..⟩
    · rw [if_neg (by simp [scheduled]), if_neg open_]
      unfold acceptAmend AmendParams.given
      rw [if_neg (show ¬(readAmend b).startFlag = 1 by omega)]
      dsimp only
      rw [if_neg (by simp [scheduled])]
      exact ⟨_, rfl, amendTo_spec ..⟩
    · rw [if_neg (by simp [scheduled]), if_neg open_]
      unfold acceptAmend AmendParams.given
      rw [if_pos flag]
      dsimp only
      rw [if_neg (by simp [scheduled]), if_pos later]
      exact ⟨_, rfl, amendTo_spec ..⟩
    · rw [if_neg (by simp [scheduled]), if_neg open_]
      unfold acceptAmend AmendParams.given
      rw [if_pos flag]
      dsimp only
      rw [if_neg (by simp [scheduled]), if_neg (Nat.not_lt_of_le now), whenRoom_free _ free.1 free.2,
        amendResult_of (openCall_group ..)]
      exact ⟨_, rfl, rfl, rfl, rfl⟩
    · rw [if_neg (by simp [scheduled]), if_neg open_]
      unfold acceptAmend AmendParams.given
      rw [if_pos flag]
      dsimp only
      rw [if_neg (by simp [scheduled]), if_neg (Nat.not_lt_of_le now), whenRoom_waits _ waits]
  · rw [cancels offered, takeCancel_checks group_]
    refine ⟨fun closed => ?_, fun open_ waits => ?_, fun open_ free => ?_⟩
    · rw [if_neg closed]
      rfl
    · rw [if_pos open_, whenRoom_waits _ waits]
    · rw [if_pos open_, whenRoom_free _ free.1 free.2]
      by_cases window : (group s g).state = .window
      · rw [acceptCancel_window window, decide_eq_true window]
        refine ⟨_, rfl, ?_, fun h => absurd window h, fun r c _ drawn cutoff => ⟨?_, ?_⟩, ?_, ?_⟩
        · exact makeEvidence_auc ..
        · rw [drawn, cutoff]
          exact makeEvidence_congr _ rfl rfl rfl rfl rfl
        · rw [drawn, cutoff]
          exact answer_rqp_congr (by simp [readXt, pushNotice, setGroup]) (by simp [readXt, pushNotice, setGroup]) ..
        · exact makeEvidence_reservedOnly ..
        · refine State.eq_of_fields ?_ ?_ ?_ ?_ ?_ ?_ rfl rfl rfl ?_ ?_ rfl ?_
            <;> simp [answerNow, readXt, pushNotice, setGroup]
      · rw [acceptCancel_before window, decide_eq_false window]
        exact ⟨_, rfl, rfl, fun _ => ⟨rfl, rfl, rfl⟩, fun _ _ h => absurd h window, rfl, rfl⟩

/-! ### DECIDE and CLEAR (R106 to R108, R113, R170) -/

/-- The row that takes a DECIDE. -/
theorem exec_decide (offered : Offered 0x13 b s) : exec (if (readDecide b).decision = 0 then .decideClose else .decideExtend) s
    = .next (takeDecide b s) := by
  split
  · next close =>
    rw [offered.exec (c := .decideClose) (f := fun b s => if (readDecide b).decision = 1 then s else takeDecide b s) rfl,
      if_neg (by omega)]
  · next other =>
    rw [offered.exec (c := .decideExtend) (f := fun b s => if (readDecide b).decision = 0 then s else takeDecide b s) rfl,
      if_neg other]

theorem takeDecide_bad (h : 64 ≤ (readDecide b).group ∨ 2 ≤ (readDecide b).decision) : takeDecide b s = answer .badParam [] s := by
  unfold takeDecide
  dsimp only
  split
  · rw [decisionOf_none (by omega)]
  · rfl

theorem takeDecide_checks (group_ : (readDecide b).group = g.val) (h : (readDecide b).decision ≤ 1) : takeDecide b s =
    if (group s g).state ≠ .decide then refuseGroup .wrongState g s
    else if ∃ l, (group s g).limit = some l ∧ l ≤ s.tsu.xt then refuseGroup .tooLate g s
    else if (readDecide b).decision = 0 then whenRoom (acceptClose g) s
    else if 7 ≤ (group s g).ext then answerNow .extLimit (groupHeader s g) s
    else whenRoom (acceptExtend g (readDecide b).e (readDecide b).w) s := by
  have inside : (readDecide b).group < 64 := group_ ▸ g.isLt
  have named : (⟨(readDecide b).group, inside⟩ : Fin 64) = g := Fin.ext group_
  have late : ((group s g).limit.any fun l => decide (l ≤ s.tsu.xt)) = true ↔ ∃ l, (group s g).limit = some l ∧ l ≤ s.tsu.xt := by
    rw [Option.any_eq_true]
    simp
  unfold takeDecide
  dsimp only
  rw [dif_pos inside, decisionOf_of_le h, named]
  simp only [late]
  by_cases close : (readDecide b).decision = 0
  · rw [if_pos close, if_pos close]
  · rw [if_neg close, if_neg close]

theorem takeClear_checks (group_ : byteAt b 16 = g.val) : takeClear b s =
    if (group s g).state ≠ .closed then refuseGroup .wrongState g s else whenRoom (acceptClear g) s := by
  have inside : byteAt b 16 < 64 := group_ ▸ g.isLt
  have named : (⟨byteAt b 16, inside⟩ : Fin 64) = g := Fin.ext group_
  rw [takeClear, dif_pos inside]
  dsimp only
  rw [named]

theorem pushed_group (n : Notice) (stamp : Nat) (g : Fin 64) (v : Group) (d : Option (Nat × Tag)) (s : State) :
    group (pushNotice n stamp (setGroup g v d s)) g = v := setGroup_same g v d s

theorem decideResult_of {v : Group} (h : group s g = v) : decideResult s g = [⟨2, 1, v.state.code⟩, ⟨3, 2, v.cycle⟩] ++
    [⟨5, 1, if v.limit.isSome then 2 else 0⟩, ⟨6, 1, v.ext⟩, ⟨16, 8, v.tEnd⟩, ⟨24, 4, v.w⟩, ⟨28, 8, v.limit.getD 0⟩] := by
  subst h
  rfl

theorem extended_clamped (e w : Nat) : clampedOr (clampNat 1 3600 e != e || clampW w != w)
    = if max 1 (min 3600 e) = e ∧ w ≤ 300000000 then .ok else .clamped := by
  refine clampedOr_of ?_
  simp only [clampW, clampNat_eq (show 1 ≤ 3600 by decide), windowMax, Bool.or_eq_false_iff, bne_eq_false_iff_eq]
  omega

/-- Settles O42: DECIDE and CLEAR, their checks and their effects. -/
theorem decide_closes_or_extends_and_clear_idles : Obligations.decide_closes_or_extends_and_clear_idles := by
  intro s b p
  have read : p = readDecide b := rfl
  clear_value p
  subst read
  have clears : Offered 0x14 b s → exec .clear s = .next (takeClear b s) := fun offered => offered.exec rfl
  dsimp only
  refine ⟨fun offered bad => ?_, fun offered bad => ?_, fun offered beyond => ?_,
    fun g group_ => ⟨fun offered legal => ?_, fun offered => ?_⟩⟩
  · rw [exec_decide offered, takeDecide_bad bad]
  · rw [offered.exec (c := .decideClose) (f := fun b s => if (readDecide b).decision = 1 then s else takeDecide b s) rfl,
      if_neg (by omega), takeDecide_bad (.inr bad)]
  · rw [clears offered, takeClear, dif_neg (show ¬byteAt b 16 < 64 from Nat.not_lt_of_le beyond)]
  · have row := exec_decide offered
    rw [takeDecide_checks group_ legal] at row
    refine ⟨fun wrong => ?_, fun decide late => ?_, fun decide early extend full => ?_, fun decide early taken waits => ?_,
      fun decide early close free => ?_, fun decide early extend below free fits => ?_⟩
    · rw [row, if_pos wrong]
      rfl
    · rw [row, if_neg (not_not.mpr decide), if_pos late]
      rfl
    · rw [row, if_neg (not_not.mpr decide), if_neg early, if_neg (by omega), if_pos full]
      rfl
    · rw [row, if_neg (not_not.mpr decide), if_neg early]
      split
      · rw [whenRoom_waits _ waits]
      · rw [if_neg (by omega), whenRoom_waits _ waits]
    · rw [if_pos close, if_neg (not_not.mpr decide), if_neg early, if_pos close, whenRoom_free _ free.1 free.2] at row
      unfold acceptClose at row
      dsimp only at row
      rw [decideResult_of (pushed_group ..)] at row
      exact ⟨_, row, ⟨rfl, rfl⟩, rfl⟩
    · rw [if_neg (show ¬(readDecide b).decision = 0 by omega), if_neg (not_not.mpr decide), if_neg early, if_neg (by omega),
        if_neg (by omega), whenRoom_free _ free.1 free.2] at row
      unfold acceptExtend at row
      dsimp only at row
      rw [extended_clamped, decideResult_of (pushed_group ..), clampNat_eq (show 1 ≤ 3600 by decide),
        fit64_of_lt (show s.tsu.xt + nsPerSecond * max 1 (min 3600 (readDecide b).e) < 2 ^ 64 from fits)] at row
      exact ⟨_, row, ⟨rfl, rfl⟩, rfl⟩
  · rw [clears offered, takeClear_checks group_]
    refine ⟨fun other => ?_, fun closed waits => ?_, fun closed free => ?_⟩
    · rw [if_pos other]
      rfl
    · rw [if_neg (not_not.mpr closed), whenRoom_waits _ waits]
    · rw [if_neg (not_not.mpr closed), whenRoom_free _ free.1 free.2]
      unfold acceptClear
      dsimp only
      rw [groupHeader_of (v := (group s g).idled)]
      · exact ⟨_, rfl, ⟨rfl, rfl⟩, rfl⟩
      · exact setGroup_same g _ none s

/-! ### The queries (R72, R105, R114, R115) -/

theorem hasOpenGap_iff (fifo : List PortEntry) :
    hasOpenGap fifo = true ↔ ∃ e lost last, fifo.getLast? = some e ∧ e.body = .gap lost last true := by
  unfold hasOpenGap PortEntry.isOpenGap
  rw [Option.any_eq_true]
  constructor
  · rintro ⟨e, last, opened⟩
    split at opened
    · next lost at_ isOpen gap => exact ⟨e, lost, at_, last, opened ▸ gap⟩
    · exact nomatch opened
  · rintro ⟨e, lost, at_, last, gap⟩
    exact ⟨e, last, by rw [gap]⟩

theorem openLost_gap {fifo : List PortEntry} {e : PortEntry} {had last : Nat} (tail : fifo.getLast? = some e)
    (gap : e.body = .gap had last true) : openLost fifo = had := by
  rw [openLost, tail]
  dsimp only
  rw [gap]

theorem openLost_closed {fifo : List PortEntry} (closed : ¬∃ e lost last, fifo.getLast? = some e ∧ e.body = .gap lost last true) :
    openLost fifo = 0 := by
  unfold openLost
  split
  · next e tail =>
    split
    · exact absurd ⟨e, _, _, tail, ‹_›⟩ closed
    all_goals rfl
  · rfl

theorem Port.arming_iff (p : Port) (now : Nat) : p.arming now = true ↔ ∃ e, p.armEnd = some e ∧ now < e := by
  unfold Port.arming
  cases p.armEnd <;> simp

/-- Three flags in the low bits of a byte. -/
theorem bits_low (x y z : Bool) : bit 0 x + bit 1 y + bit 2 z < 8 ∧ (bit 0 x + bit 1 y + bit 2 z).testBit 0 = x
    ∧ (bit 0 x + bit 1 y + bit 2 z).testBit 1 = y ∧ (bit 0 x + bit 1 y + bit 2 z).testBit 2 = z := by
  revert x y z
  decide

theorem Port.armLeft (p : Port) (now : Nat) : (if p.arming now = true then p.armEnd.getD 0 - now else 0)
    = match p.armEnd with | some e => e - now | none => 0 := by
  unfold Port.arming
  cases p.armEnd with
  | none => rfl
  | some e =>
    show (if decide (now < e) = true then e - now else 0) = e - now
    split
    · rfl
    · next ended =>
      have passed : ¬now < e := ended ∘ decide_eq_true
      omega

/-- Settles O43: the queries, and the draw of a group in WINDOW that none of them shows. -/
theorem queries_read_their_port_or_group : Obligations.queries_read_their_port_or_group := by
  refine ⟨fun kind g v flags => by cases kind <;> rfl, fun s b => ⟨fun offered => ⟨fun n at_ => ?_, fun beyond => ?_⟩,
    fun offered => ⟨fun g at_ => ⟨?_, fun r c window => ?_⟩, fun beyond => ?_⟩⟩⟩
  · have row : exec .queryPort s = .next (takeQueryPort b s) := offered.exec rfl
    have inside : byteAt b 16 < 8 := at_ ▸ n.isLt
    have named : (⟨byteAt b 16, inside⟩ : Fin 8) = n := Fin.ext at_
    rw [takeQueryPort, dif_pos inside, named, portResult] at row
    dsimp only at row ⊢
    rw [Port.armLeft] at row
    obtain ⟨small, present, arming, gap⟩ := bits_low (port s n).present ((port s n).arming s.osc.tick) (hasOpenGap (port s n).fifo)
    refine ⟨_, _, row, small, present, ?_, ?_, openLost_closed, fun e had last tail gap => openLost_gap tail gap⟩
    · rw [arming, Port.arming_iff]
    · rw [gap, hasOpenGap_iff]
  · have row : exec .queryPort s = .next (takeQueryPort b s) := offered.exec rfl
    rw [row, takeQueryPort, dif_neg (by omega)]
  · have row : exec .queryGroup s = .next (takeQueryGroup b s) := offered.exec rfl
    have inside : byteAt b 16 < 64 := at_ ▸ g.isLt
    have named : (⟨byteAt b 16, inside⟩ : Fin 64) = g := Fin.ext at_
    rw [row, takeQueryGroup, dif_pos inside, named]
    dsimp only
    by_cases window : (group s g).state = .window
    · simp only [queryResult, decide_eq_false (not_not.mpr window), if_pos window]
      rfl
    · simp only [queryResult, decide_eq_true window, if_neg window]
      rfl
  · have same : group { s with auc := { s.auc with groups := s.auc.groups.set g { group s g with r := r, cutoff := c } } } g
        = { group s g with r := r, cutoff := c } := by simp [group]
    simp only [queryResult, groupHeader, same, decide_eq_false (not_not.mpr window)]
    rfl
  · have row : exec .queryGroup s = .next (takeQueryGroup b s) := offered.exec rfl
    rw [row, takeQueryGroup, dif_neg (by omega)]

end Sys2Proof.Machine
end

section
/-! SUPPORT. Cause events and the starvation rule, and their statement (R150, R155, R156). -/

namespace Sys2Proof.Machine

variable {s t : State}

/-! ### The starvation rule (R150) -/

/-- A stream is starved. -/
def Starved (s : State) (st : Stream) : Prop :=
  s.arc.enable = true ∧ (s.stg.staged.get st ≠ [] ∨ s.jwr.phase = .waiting st) ∧ s.arc.openSeg.get st = none ∧ s.arc.lent.get st = []

theorem isStarved_iff (s : State) (st : Stream) : isStarved s st = true ↔ Starved s st := by
  simp [isStarved, Starved, and_assoc]

theorem isStarved_congr (stg : t.stg = s.stg) (jwr : t.jwr = s.jwr)
    (arc : t.arc = { s.arc with starved := t.arc.starved, cause := t.arc.cause, messages := t.arc.messages, messaged := t.arc.messaged })
    (st : Stream) : isStarved t st = isStarved s st := by
  unfold isStarved
  rw [arc, stg, jwr]

theorem noteStarved_isStarved (st x : Stream) (s : State) : isStarved (noteStarved st s) x = isStarved s x :=
  isStarved_congr (by simp) (by simp) (noteStarved_frame s st) x

theorem noteStarved_flag (st x : Stream) (s : State) :
    (noteStarved st s).arc.starved.get x = (s.arc.starved.get x || decide (x = st) && isStarved s st) := by
  unfold noteStarved
  by_cases begins : (isStarved s st && !(s.arc.starved.get st)) = true
  · obtain ⟨starved, _⟩ := Bool.and_eq_true_iff.mp begins
    rw [if_pos begins, raise, Arc.raise_frame]
    show (s.arc.starved.put st true).get x = _
    rw [PerStream.get_put]
    by_cases same : x = st
    · simp [same, starved]
    · simp [same]
  · rw [if_neg begins]
    by_cases same : x = st
    · subst same
      rw [decide_eq_true rfl]
      revert begins
      cases isStarved s x <;> cases s.arc.starved.get x <;> decide
    · simp [same]

theorem noteStarved_has (st : Stream) (s : State) :
    (noteStarved st s).arc.has .starved = (s.arc.has .starved || isStarved s st && !(s.arc.starved.get st)) := by
  unfold noteStarved
  split
  · next begins => rw [begins, raise, Arc.raise_has, Bool.or_true]
  · next still => rw [Bool.eq_false_iff.mpr still, Bool.or_false]

theorem noteStarved_still {st : Stream} (h : ¬(isStarved s st = true ∧ s.arc.starved.get st = false)) : noteStarved st s = s := by
  refine if_neg fun begins => h ?_
  simpa using begins

theorem checkStarved_isStarved (st : Stream) (s : State) : isStarved (checkStarved s) st = isStarved s st := by
  simp only [checkStarved, noteStarved_isStarved]

theorem checkStarved_flag (st : Stream) (s : State) :
    (checkStarved s).arc.starved.get st = (s.arc.starved.get st || isStarved s st) := by
  simp only [checkStarved, noteStarved_flag, noteStarved_isStarved]
  cases st <;> simp

theorem checkStarved_has (s : State) : (checkStarved s).arc.has .starved = true ↔
    s.arc.has .starved = true ∨ ∃ st, isStarved s st = true ∧ s.arc.starved.get st = false := by
  simp only [checkStarved, noteStarved_has, noteStarved_flag, noteStarved_isStarved, Bool.or_eq_true, Bool.and_eq_true,
    Bool.not_eq_true', or_assoc]
  refine or_congr_right ⟨fun h => ?_, fun ⟨st, begins⟩ => ?_⟩
  · obtain begins | begins | begins := h
    · exact ⟨.auction, begins⟩
    · exact ⟨.evidence, by simpa using begins⟩
    · exact ⟨.arrival, by simpa using begins⟩
  · cases st with
    | auction => exact .inl begins
    | evidence => exact .inr (.inl (by simpa using begins))
    | arrival => exact .inr (.inr (by simpa using begins))

theorem checkStarved_still (h : ∀ st, ¬(isStarved s st = true ∧ s.arc.starved.get st = false)) : checkStarved s = s := by
  rw [checkStarved, noteStarved_still (h .auction), noteStarved_still (h .evidence), noteStarved_still (h .arrival)]

/-- The starvation rule changes the area controller alone. -/
theorem checkStarved_state (s : State) : checkStarved s = { s with arc := (checkStarved s).arc } := by
  refine State.eq_of_fields ?_ ?_ ?_ ?_ ?_ ?_ ?_ ?_ ?_ ?_ rfl ?_ ?_ <;> simp

/-- The starvation rule after an act that left the flags and STARVED as they were. -/
theorem checkStarved_noted {flags : PerStream Bool} (starved : t.arc.starved = flags) (has : t.arc.has .starved = s.arc.has .starved) :
    StarvationNoted flags s (checkStarved t) := by
  have spell : ∀ st, Starved (checkStarved t) st ↔ isStarved t st = true := fun st => by
    rw [← isStarved_iff, checkStarved_isStarved]
  refine ⟨fun st => ?_, ?_⟩
  · show _ ↔ _ ∨ Starved _ st
    rw [spell, checkStarved_flag, starved, Bool.or_eq_true]
  · show _ ↔ _ ∨ ∃ st, Starved _ st ∧ _
    simp only [spell]
    rw [checkStarved_has, has, starved]

/-- Settles O48: cause events and their messages, and the starvation rule. -/
theorem causes_send_messages_and_starvation_is_noted_once : Obligations.causes_send_messages_and_starvation_is_noted_once := by
  refine ⟨fun a c => ?_, fun s => ?_⟩
  · dsimp only
    refine ⟨Arc.raise_has a c, fun x other => Arc.raise_has_other a c x other, fun clear unmasked unsent => ?_, fun quiet => ?_,
      Arc.raise_frame a c⟩
    · rw [Arc.raise, clear, unmasked, unsent]
      exact ⟨rfl, rfl⟩
    · unfold Arc.raise
      by_cases set : a.has c = true
      · rw [if_pos set]
        exact ⟨rfl, rfl⟩
      · have silent : ¬(a.unmasked c && !a.messaged) = true := by
          obtain h | h | h := quiet
          · exact absurd h set
          · simp [h]
          · simp [h]
        rw [if_neg set, if_neg silent]
        exact ⟨rfl, rfl⟩
  · have begun : ∀ st, (Starved s st ∧ s.arc.starved.get st = false) ↔ isStarved s st = true ∧ s.arc.starved.get st = false :=
      fun st => by rw [isStarved_iff]
    refine ⟨fun st => ⟨fun starved => ?_, fun fed => ?_⟩, fun ⟨st, begins⟩ => ?_, fun none => ?_, fun x other =>
      checkStarved_has_other s x other, ?_⟩
    · rw [checkStarved_flag, (isStarved_iff s st).mpr starved, Bool.or_true]
    · rw [checkStarved_flag, Bool.eq_false_iff.mpr (mt (isStarved_iff s st).mp fed), Bool.or_false]
    · exact (checkStarved_has s).mpr (.inr ⟨st, (begun st).mp begins⟩)
    · exact checkStarved_still fun st => mt (begun st).mpr (none st)
    · conv_lhs => rw [checkStarved_state, checkStarved_frame]

end Sys2Proof.Machine
end
section
/-! SUPPORT. Bursts, trailers and CUT, and their statements (R85, R88, R146 to R149, R152, R153, R174, R175, R177). -/

namespace Sys2Proof.Machine

variable {s t : State} {st : Stream}

/-! ### Burst starts (R146, R147, R152) -/

theorem hostOpen_iff (s : State) : hostOpen s = true ↔ s.arc.enable = true ∧ s.arc.linkReset = none := by
  simp [hostOpen]

theorem servable_iff (s : State) (st : Stream) : servable s st = true ↔ (s.arc.enable = true ∧ s.arc.linkReset = none)
    ∧ s.stg.staged.get st ≠ [] ∧ ((s.arc.openSeg.get st).isSome ∨ s.arc.lent.get st ≠ []) := by
  simp [servable, hostOpen_iff, and_assoc]

theorem segBase_of {i : Fin 64} {c : SegCopy} (h : s.arc.copies[i] = some c) : segBase s i = c.base := by rw [segBase, h]

theorem segCapacity_of {i : Fin 64} {c : SegCopy} (h : s.arc.copies[i] = some c) : segCapacity s i = c.capacity := by
  rw [segCapacity, h]

theorem Arc.hold_copied {a b : Arc} {i : Fin 64} {c : SegCopy} (same : b.copies = a.copies) (copy : a.copies[i] = some c)
    (held : HeldState) : b.hold i held = b.putCopy i (some { c with held := held }) :=
  Arc.hold_of_copy (by rw [same]; exact copy) held

/-- The area controller with its oldest lent segment opened. -/
theorem openOldest_eq {i : Fin 64} {rest : List (Fin 64)} {c : SegCopy} (oldest : s.arc.lent.get st = i :: rest)
    (copy : s.arc.copies[i] = some c) : openOldest st s = { s with arc := { s.arc with
      openSeg := s.arc.openSeg.put st (some ⟨i, 0, none, none⟩), lent := s.arc.lent.put st rest
      copies := s.arc.copies.set i (some { c with held := .opened }) } } := by
  unfold openOldest
  rw [oldest]
  dsimp only
  rw [Arc.hold_copied (by rfl) copy]
  rfl

/-- The burst a segment takes: its records in their slots, and the fill unless it closes the segment. -/
theorem sendBurst_eq {seg : OpenSeg} {c : SegCopy} (opened : s.arc.openSeg.get st = some seg)
    (copy : s.arc.copies[seg.index] = some c) (records : List Record) : sendBurst st records s = { s with jwr := {
      phase := .inFlight st, records := records
      writes := recordWrites (c.base + 64 * seg.fill) records ++
        (if seg.fill + records.length < c.capacity then
          [entryWrite s seg.index .opened .none (seg.fill + records.length) (seg.first.or (records.head?.map Record.seq))
            ((records.getLast?.map Record.seq).or seg.last)] else []) } } := by
  unfold sendBurst
  rw [opened]
  dsimp only [OpenSeg.taking]
  rw [segCapacity_of copy, segBase_of copy]
  by_cases fills : seg.fill + records.length < c.capacity
  · rw [if_pos fills, if_neg (Nat.not_le_of_lt fills)]
  · rw [if_neg fills, if_pos (Nat.le_of_not_lt fills)]

/-- The order in which the streams are served. -/
def burstRank : Stream → Nat
  | .auction => 0
  | .evidence => 1
  | .arrival => 2

theorem nextStream_first (serves : servable s st = true) (first : ∀ x, servable s x = true → burstRank st ≤ burstRank x) :
    nextStream s = some st := by
  have ahead : ∀ x, burstRank x < burstRank st → servable s x = false := fun x less =>
    Bool.eq_false_iff.mpr fun h => Nat.not_lt_of_le (first x h) less
  unfold nextStream
  cases st with
  | auction => simp [serves]
  | evidence => simp [serves, ahead .auction (by decide)]
  | arrival => simp [serves, ahead .auction (by decide), ahead .evidence (by decide)]

theorem nextStream_none (h : ∀ x, ¬servable s x = true) : nextStream s = none := by
  simp [nextStream, h]

/-- The segment a burst goes to, and what opening it leaves. -/
theorem withOpen_spec {seg : OpenSeg} {c : SegCopy} (copy : s.arc.copies[seg.index] = some c)
    (found : s.arc.openSeg.get st = some seg
      ∨ s.arc.openSeg.get st = none ∧ (s.arc.lent.get st).head? = some seg.index ∧ seg = ⟨seg.index, 0, none, none⟩) :
    (withOpen st s).arc.openSeg.get st = some seg
    ∧ (∃ held, (withOpen st s).arc.copies[seg.index] = some { c with held := held })
    ∧ (withOpen st s).arc.area = s.arc.area
    ∧ (s.arc.openSeg.get st = some seg → (withOpen st s).arc = s.arc)
    ∧ (s.arc.openSeg.get st = none → (withOpen st s).arc = { s.arc with
        openSeg := s.arc.openSeg.put st (some seg), lent := s.arc.lent.put st (s.arc.lent.get st).tail
        copies := s.arc.copies.set seg.index (some { c with held := .opened }) })
    ∧ withOpen st s = { s with arc := (withOpen st s).arc } := by
  obtain opened | ⟨closed, head, fresh⟩ := found
  · have still : withOpen st s = s := if_pos (by rw [opened]; rfl)
    rw [still]
    exact ⟨opened, ⟨c.held, copy⟩, rfl, fun _ => rfl, fun closed => absurd (opened.symm.trans closed) nofun, rfl⟩
  · obtain ⟨rest, oldest⟩ : ∃ rest, s.arc.lent.get st = seg.index :: rest := List.head?_eq_some_iff.mp head
    have opens : withOpen st s = openOldest st s := if_neg (by rw [closed]; decide)
    rw [opens, openOldest_eq oldest copy, oldest, ← fresh]
    refine ⟨PerStream.get_put_same .., ⟨.opened, ?_⟩, rfl, fun opened => absurd (closed.symm.trans opened) nofun, fun _ => rfl, rfl⟩
    simp

/-- Settles O44: the stream a burst start serves, its segment, its records and its writes. -/
theorem burst_start_serves_the_first_servable_stream : Obligations.burst_start_serves_the_first_servable_stream := by
  intro s st run empty
  have row : exec .burstStart s = .next (burstStart s) := exec_running run
  dsimp only
  rw [row, burstStart, empty]
  dsimp only
  refine ⟨fun none => ?_, fun serves first seg c copy found => ?_⟩
  · rw [nextStream_none fun x h => none x ((servable_iff s x).mp h)]
  · rw [nextStream_first ((servable_iff s st).mpr serves) fun x h => first x ((servable_iff s x).mp h)]
    obtain ⟨opened, ⟨held, kept⟩, area, still, opens, frame⟩ := withOpen_spec copy found
    have stg : (withOpen st s).stg = s.stg := by rw [frame]
    have count : burstCount (withOpen st s) st = min 16 (min (s.stg.staged.get st).length (c.capacity - seg.fill)) := by
      rw [burstCount, opened]
      dsimp only
      rw [segCapacity_of kept, stg]
      rfl
    refine ⟨_, rfl, ?_⟩
    dsimp only
    unfold newBurst
    dsimp only
    rw [count, stg, sendBurst_eq (s := takeStaged st _ (withOpen st s)) opened kept]
    generalize hn : min 16 (min (s.stg.staged.get st).length (c.capacity - seg.fill)) = n
    have taken : ((s.stg.staged.get st).take n).length = n := by
      rw [List.length_take]
      omega
    have staged : (takeStaged st n (withOpen st s)).stg = { s.stg with
        staged := s.stg.staged.put st ((s.stg.staged.get st).drop n)
        openGap := s.stg.openGap && !(decide (st = .arrival) && ((s.stg.staged.get st).drop n).isEmpty) } := by
      rw [takeStaged, stg]
    refine ⟨⟨rfl, rfl, ?_, ?_, fun other => ?_, fun arrival => ?_⟩, opened, still, opens, ?_⟩
    · dsimp only
      rw [taken, entryWrite, takeStaged_arc, area]
    · dsimp only
      rw [staged]
    · dsimp only
      rw [staged, decide_eq_false other]
      simp
    · have some_left : ((s.stg.staged.get st).drop n).isEmpty = decide ((s.stg.staged.get st).length ≤ n) := by
        rw [Bool.eq_iff_iff]
        simp
      dsimp only
      rw [staged, decide_eq_true arrival, some_left, Bool.true_and, ← decide_not]
      simp
    · refine State.eq_of_fields ?_ ?_ ?_ ?_ ?_ ?_ rfl ?_ ?_ rfl rfl ?_ ?_ <;> simp

/-! ### A segment closed (R148, R149) -/

theorem closeOpen_spec {seg : OpenSeg} {c : SegCopy} (copy : s.arc.copies[seg.index] = some c) (reason : SegReason) :
    closeOpen st seg reason s = { s with arc := { s.arc with
      openSeg := s.arc.openSeg.put st none
      closing := s.arc.closing.put st (s.arc.closing.get st ++ [⟨seg.index, seg.fill, seg.first, seg.last, reason,
        entryWrite s seg.index .filled reason seg.fill seg.first seg.last⟩])
      copies := s.arc.copies.set seg.index (some { c with held := .closing }) } } := by
  unfold closeOpen
  dsimp only
  rw [Arc.hold_copied (by rfl) copy]
  rfl

/-- The stream's open segment has left for CLOSING with a reason, its trailer issued. -/
def ClosedAs (s : State) (st : Stream) (seg : OpenSeg) (c : SegCopy) (reason : SegReason) (t : State) : Prop :=
  t.arc.openSeg = s.arc.openSeg.put st none
  ∧ t.arc.closing = s.arc.closing.put st (s.arc.closing.get st ++ [⟨seg.index, seg.fill, seg.first, seg.last, reason,
      cellsFrom (entryAddr s.arc.area seg.index) (entryBytes .filled reason seg.fill seg.first seg.last)⟩])
  ∧ t.arc.copies = s.arc.copies.set seg.index (some { c with held := .closing })

theorem PerStream.put_put {α : Type} (t : PerStream α) (st : Stream) (x y : α) : (t.put st x).put st y = t.put st y := by
  cases st <;> rfl

theorem newCause_ne_starved (st : Stream) : newCause st ≠ .starved := by cases st <;> decide

/-! ### Burst completions (R147, R152) -/

theorem awaitTrailer_rqp (st : Stream) (i : Fin 64) (s : State) :
    (s.rqp.phase = .answering (.cutBurst st) → (awaitTrailer st i s).rqp = { s.rqp with phase := .answering (.cutTrailer st i) })
    ∧ (s.rqp.phase ≠ .answering (.cutBurst st) → (awaitTrailer st i s).rqp = s.rqp) :=
  ⟨fun cut => by rw [awaitTrailer, if_pos cut]; rfl, fun other => by rw [awaitTrailer, if_neg other]⟩

theorem checkStarved_framed (h : t = { s with jwr := t.jwr, arc := t.arc, rqp := t.rqp }) : checkStarved t = { s with
    jwr := (checkStarved t).jwr, arc := (checkStarved t).arc, rqp := (checkStarved t).rqp } := by
  rw [checkStarved_jwr, checkStarved_rqp]
  exact (checkStarved_state t).trans (congrArg (fun v => { v with arc := (checkStarved t).arc }) h)

/-- What a burst that succeeds leaves, before the starvation rule. -/
structure BurstFilled (s : State) (st : Stream) (seg : OpenSeg) (c : SegCopy) (u : State) : Prop where
  jwr : u.jwr = { phase := .empty, records := [], writes := [] }
  full : c.capacity ≤ seg.fill → ClosedAs s st seg c .full u ∧ u.arc.has (newCause st) = s.arc.has (newCause st)
  new : seg.fill < c.capacity → u.arc.has (newCause st) = true
  cut : seg.fill < c.capacity → s.rqp.phase = .answering (.cutBurst st) → ClosedAs s st seg c .cut u
  filled : seg.fill < c.capacity → s.rqp.phase ≠ .answering (.cutBurst st) →
    u.arc.openSeg = s.arc.openSeg.put st (some seg) ∧ u.arc.closing = s.arc.closing ∧ u.arc.copies = s.arc.copies
  waits : s.rqp.phase = .answering (.cutBurst st) → u.rqp = { s.rqp with phase := .answering (.cutTrailer st seg.index) }
  rqp : s.rqp.phase ≠ .answering (.cutBurst st) → u.rqp = s.rqp
  has_other : ∀ x : Cause, x ≠ newCause st → u.arc.has x = s.arc.has x
  arc : u.arc = { s.arc with
    openSeg := u.arc.openSeg, closing := u.arc.closing, copies := u.arc.copies
    cause := u.arc.cause, messages := u.arc.messages, messaged := u.arc.messaged }
  frame : u = { s with jwr := u.jwr, arc := u.arc, rqp := u.rqp }

theorem burstCloses_filled {seg : OpenSeg} {c : SegCopy} (copy : s.arc.copies[seg.index] = some c) (fills : c.capacity ≤ seg.fill) :
    BurstFilled s st seg c (burstCloses st seg s) := by
  obtain ⟨waits, rqp⟩ := awaitTrailer_rqp st seg.index (closeOpen st seg .full (emptyBuffer s))
  have closed : (closeOpen st seg .full (emptyBuffer s)).arc = _ := congrArg State.arc (closeOpen_spec (s := emptyBuffer s) copy .full)
  have arc : (burstCloses st seg s).arc = _ := (awaitTrailer_arc ..).trans closed
  refine ⟨?_, fun _ => ⟨⟨?_, ?_, ?_⟩, ?_⟩, fun less => ?_, fun less => ?_, fun less => ?_, waits, rqp, fun x _ => ?_, ?_, ?_⟩
  · simp [burstCloses, emptyBuffer, Jwr.cleared]
  · rw [arc]
    rfl
  · rw [arc]
    rfl
  · rw [arc]
    rfl
  · rw [arc]
    rfl
  · omega
  · omega
  · omega
  · rw [arc]
    rfl
  · rw [arc]
    rfl
  · refine State.eq_of_fields ?_ ?_ ?_ ?_ ?_ ?_ ?_ ?_ ?_ rfl rfl rfl ?_ <;> simp

theorem burstFills_filled {seg : OpenSeg} {c : SegCopy} (copy : s.arc.copies[seg.index] = some c) (room : seg.fill < c.capacity) :
    BurstFilled s st seg c (burstFills st seg s) := by
  let noted : State := raise (newCause st) { emptyBuffer s with arc := s.arc.putOpen st (some seg) }
  have arc : noted.arc = { s.arc with
      openSeg := s.arc.openSeg.put st (some seg), cause := noted.arc.cause, messages := noted.arc.messages
      messaged := noted.arc.messaged } := Arc.raise_frame (s.arc.putOpen st (some seg)) (newCause st)
  have has : noted.arc.has (newCause st) = true := Arc.raise_has _ _
  have has_other : ∀ x : Cause, x ≠ newCause st → noted.arc.has x = s.arc.has x := fun x other =>
    Arc.raise_has_other (s.arc.putOpen st (some seg)) (newCause st) x other
  have filled : burstFills st seg s = if s.rqp.phase = .answering (.cutBurst st) then
    awaitTrailer st seg.index (closeOpen st seg .cut noted) else noted := rfl
  by_cases cut : s.rqp.phase = .answering (.cutBurst st)
  · have copied : noted.arc.copies[seg.index] = some c := by
      rw [arc]
      exact copy
    obtain ⟨waits, _⟩ := awaitTrailer_rqp st seg.index (closeOpen st seg .cut noted)
    have closed : (closeOpen st seg .cut noted).arc = _ := congrArg State.arc (closeOpen_spec (s := noted) copied .cut)
    have ended : (awaitTrailer st seg.index (closeOpen st seg .cut noted)).arc = _ := (awaitTrailer_arc ..).trans closed
    rw [filled, if_pos cut]
    refine ⟨?_, fun full => ?_, fun _ => ?_, fun _ _ => ⟨?_, ?_, ?_⟩, fun _ other => absurd cut other, waits,
      fun other => absurd cut other, fun x other => ?_, ?_, ?_⟩
    · simp [noted, emptyBuffer, Jwr.cleared]
    · omega
    · rw [ended]
      exact has
    · rw [ended, arc]
      exact PerStream.put_put ..
    · rw [ended]
      dsimp only [entryWrite]
      rw [arc]
    · rw [ended, arc]
    · rw [ended]
      exact has_other x other
    · rw [ended, arc]
    · refine State.eq_of_fields ?_ ?_ ?_ ?_ ?_ ?_ ?_ ?_ ?_ rfl rfl rfl ?_ <;> simp [noted, emptyBuffer]
  · rw [filled, if_neg cut]
    refine ⟨rfl, fun full => ?_, fun _ => has, fun _ waits => absurd waits cut, fun _ _ => ⟨?_, ?_, ?_⟩, fun waits => absurd waits cut,
      fun _ => rfl, has_other, ?_, rfl⟩
    · omega
    all_goals rw [arc]

/-- Settles O45: a burst that succeeds, and the starvation rule after it. -/
theorem burst_success_fills_or_closes_the_segment : Obligations.burst_success_fills_or_closes_the_segment := by
  intro s st seg c run flight opened copy
  have row : exec (.burstComplete true) s = .next (burstComplete true s) := exec_running run
  have ended : ∃ u, burstComplete true s = checkStarved u ∧ BurstFilled s st (seg.taking s.jwr.records) c u := by
    unfold burstComplete
    rw [flight]
    dsimp only
    rw [opened]
    dsimp only
    rw [segCapacity_of copy, if_pos rfl]
    split
    · exact ⟨_, rfl, burstCloses_filled copy ‹_›⟩
    · exact ⟨_, rfl, burstFills_filled copy (Nat.lt_of_not_le ‹_›)⟩
  obtain ⟨u, complete, jwr, full, new, cut, filled, waits, rqp, has_other, arc, frame⟩ := ended
  rw [row, complete]
  have openSeg : (checkStarved u).arc.openSeg = u.arc.openSeg := by simp
  have closing : (checkStarved u).arc.closing = u.arc.closing := by simp
  have copies : (checkStarved u).arc.copies = u.arc.copies := by simp
  have has : ∀ x : Cause, x ≠ .starved → (checkStarved u).arc.has x = u.arc.has x := fun x other => checkStarved_has_other u x other
  have settled : StarvationNoted s.arc.starved s (checkStarved u) :=
    checkStarved_noted (by rw [arc]) (has_other .starved (newCause_ne_starved st).symm)
  dsimp only
  refine ⟨_, rfl, by rw [checkStarved_jwr, jwr], ⟨?_, ?_, ?_, ?_, ?_, ?_⟩, fun x new starved => ?_, settled, ?_, ?_⟩
  · rw [openSeg, closing, copies, has _ (newCause_ne_starved st)]
    exact full
  · rw [has _ (newCause_ne_starved st)]
    exact new
  · rw [openSeg, closing, copies]
    exact cut
  · rw [openSeg, closing, copies]
    exact filled
  · rw [checkStarved_rqp]
    exact waits
  · rw [checkStarved_rqp]
    exact rqp
  · rw [has x starved, has_other x new]
  · rw [openSeg, closing, copies]
    conv_lhs => rw [checkStarved_frame, arc]
  · exact checkStarved_framed frame

/-! ### A CUT's answer (R174, R175, R177) -/

/-- The answer a CUT waits for, or its discard once the request processor is withdrawn. -/
theorem answerCut_rqp (w : Wait) (fs : List Field) (s : State) :
    (s.rqp.phase = .answering w → s.rqp.withdrawn = false → (answerCut w fs s).rqp = (answer .ok fs s).rqp)
    ∧ (s.rqp.phase = .answering w → s.rqp.withdrawn = true → (answerCut w fs s).rqp = { s.rqp with phase := .idle })
    ∧ (s.rqp.phase ≠ .answering w → (answerCut w fs s).rqp = s.rqp) := by
  refine ⟨fun waits here => ?_, fun waits withdrawn => ?_, fun other => ?_⟩
  · rw [answerCut, if_pos waits, deliver_of_not_withdrawn here]
  · rw [answerCut, if_pos waits, deliver, if_pos withdrawn]
  · rw [answerCut, if_neg other]

/-- The area controller when a burst to a segment has failed, the cause bit aside. -/
def burstFaulted (st : Stream) (seg : OpenSeg) (a : Arc) : Arc := { a with
  openSeg := a.openSeg.put st none, copies := a.copies.set seg.index none
  entryWrites := a.entryWrites ++
    [cellsFrom (entryAddr a.area seg.index) (entryBytes .faulted .burst seg.fill seg.first seg.last)] }

theorem burstFails_arc (st : Stream) (seg : OpenSeg) (s : State) :
    (burstFails st seg s).arc = (burstFaulted st seg s.arc).raise .writeFault := answerCut_arc ..

/-- Settles O46: a burst that fails, and its records sent again. -/
theorem failed_burst_waits_and_is_sent_again : Obligations.failed_burst_waits_and_is_sent_again := by
  intro s st run
  refine ⟨fun seg flight opened => ?_, fun waiting => ?_⟩
  · have row : exec (.burstComplete false) s = .next (checkStarved (burstFails st seg s)) := by
      rw [show exec (.burstComplete false) s = .next (burstComplete false s) from exec_running run, burstComplete, flight]
      dsimp only
      rw [opened]
      rfl
    have arc := burstFails_arc st seg s
    have jwr : (burstFails st seg s).jwr = { s.jwr with phase := .waiting st, writes := [] } := answerCut_jwr ..
    have has_other : ∀ x : Cause, x ≠ .writeFault → (burstFails st seg s).arc.has x = s.arc.has x := fun x other => by
      rw [arc, Arc.raise_has_other _ _ _ other]
      rfl
    obtain ⟨answers, discards, still⟩ := answerCut_rqp (.cutBurst st)
      (cutResult .faulted .burst seg.index seg.fill seg.first seg.last)
      { s with arc := (burstFaulted st seg s.arc).raise .writeFault, jwr := { s.jwr with phase := .waiting st, writes := [] } }
    have slot : ∀ fs : List Field, (answer .ok fs { s with arc := (burstFaulted st seg s.arc).raise .writeFault, jwr := {
        s.jwr with phase := .waiting st, writes := [] } }).rqp
        = (answer .ok fs { s with arc := { s.arc with copies := s.arc.copies.set seg.index none } }).rqp := by
      refine fun fs => answer_rqp_congr (by rfl) ?_ .ok fs
      dsimp only
      rw [Arc.raise_frame]
      rfl
    refine ⟨_, row, by rw [checkStarved_jwr, jwr], ?_, ?_, ?_, ?_, fun x fault starved => ?_, ?_, ?_, fun waits here => ?_,
      fun waits withdrawn => ?_, fun other => ?_, checkStarved_framed ?_⟩
    · rw [checkStarved_arc_openSeg, arc, Arc.raise_frame]
      rfl
    · rw [checkStarved_arc_copies, arc, Arc.raise_frame]
      rfl
    · rw [checkStarved_arc_entryWrites, arc, Arc.raise_frame]
      rfl
    · rw [checkStarved_has_other _ _ (by decide), arc, Arc.raise_has]
    · rw [checkStarved_has_other _ _ starved, has_other x fault]
    · exact checkStarved_noted (by rw [arc, Arc.raise_frame]; rfl) (has_other .starved (by decide))
    · rw [checkStarved_arc_openSeg, checkStarved_arc_copies, checkStarved_arc_entryWrites]
      conv_lhs => rw [checkStarved_frame, arc, Arc.raise_frame]
      rw [arc, Arc.raise_frame]
      rfl
    · rw [checkStarved_rqp]
      exact (answers waits here).trans (slot _)
    · rw [checkStarved_rqp]
      exact discards waits withdrawn
    · rw [checkStarved_rqp]
      exact still other
    · refine State.eq_of_fields ?_ ?_ ?_ ?_ ?_ ?_ ?_ ?_ ?_ rfl rfl rfl ?_ <;> simp
  · have row : exec .burstStart s = .next (burstStart s) := exec_running run
    dsimp only
    rw [row, burstStart, waiting]
    dsimp only
    refine ⟨fun idle => ?_, fun i rest c runs oldest copy => ?_⟩
    · rw [if_neg]
      rw [Bool.and_eq_true_iff, hostOpen_iff]
      rintro ⟨runs, lent⟩
      obtain shut | empty := idle
      · exact shut runs
      · rw [empty] at lent
        exact nomatch lent
    · rw [if_pos (Bool.and_eq_true_iff.mpr ⟨(hostOpen_iff s).mpr runs, by rw [oldest]; rfl⟩), openOldest_eq oldest copy,
        sendBurst_eq (seg := ⟨i, 0, none, none⟩) (c := { c with held := .opened }) (PerStream.get_put_same ..) (by simp)]
      refine ⟨_, rfl, rfl, rfl, ?_, rfl, rfl⟩
      simp [entryWrite]

/-! ### CUT and trailers (R148, R153, R174) -/

theorem streamOf_none {n : Nat} (h : n ∉ [2, 3, 4]) : streamOf n = none := by
  unfold streamOf
  split
  · exact absurd (by decide) h
  · exact absurd (by decide) h
  · exact absurd (by decide) h
  · rfl

/-- The result of a slot rests on the segment copies of the area controller alone. -/
theorem answer_copied {a : Arc} {x : Vector (Option SegCopy) 64} (copies : a.copies = x) (o : ReqOutcome) (fs : List Field)
    (s : State) : (answer o fs { s with arc := a }).rqp = (answer o fs { s with arc := { s.arc with copies := x } }).rqp := by
  refine answer_rqp_congr (by rfl) ?_ o fs
  exact copies

/-- What the end of a trailer leaves, with the segment's state and reason. -/
def TrailerEnded (s : State) (st : Stream) (x : ClosingSeg) (rest : List ClosingSeg) (t : State) (state : EntryState)
    (reason : SegReason) : Prop :=
  (s.rqp.phase = .answering (.cutTrailer st x.index) → s.rqp.withdrawn = false →
    t.rqp = (answer .ok [⟨2, 1, state.code⟩, ⟨3, 1, reason.code⟩, ⟨4, 1, x.index.val⟩, ⟨16, 4, x.fill⟩,
      ⟨24, 8, x.first.getD 0⟩, ⟨32, 8, x.last.getD 0⟩]
      { s with arc := { s.arc with copies := s.arc.copies.set x.index none } }).rqp)
  ∧ (s.rqp.phase = .answering (.cutTrailer st x.index) → s.rqp.withdrawn = true → t.rqp = { s.rqp with phase := .idle })
  ∧ (s.rqp.phase ≠ .answering (.cutTrailer st x.index) → t.rqp = s.rqp)
  ∧ t.arc = { s.arc with
      closing := s.arc.closing.put st rest, copies := s.arc.copies.set x.index none, entryWrites := t.arc.entryWrites
      cause := t.arc.cause, messages := t.arc.messages, messaged := t.arc.messaged }
  ∧ t = { s with arc := t.arc, rqp := t.rqp }

theorem Arc.raise_raise_frame (a : Arc) (c d : Cause) : (a.raise c).raise d = { a with
    cause := ((a.raise c).raise d).cause, messages := ((a.raise c).raise d).messages
    messaged := ((a.raise c).raise d).messaged } := by
  have outer := Arc.raise_frame (a.raise c) d
  have inner := Arc.raise_frame a c
  generalize (a.raise c).raise d = x at outer ⊢
  rw [inner] at outer
  exact outer

/-- The area controller when a trailer has completed, the cause bits and the entry's write aside. -/
def trailerReleased (st : Stream) (x : ClosingSeg) (rest : List ClosingSeg) (a : Arc) : Arc :=
  { a with closing := a.closing.put st rest, copies := a.copies.set x.index none }

/-- The report of a segment's end, from the area controller its trailer leaves. -/
theorem trailerEnded_of {a : Arc} {x : ClosingSeg} {rest : List ClosingSeg} {writes : List LinkWrite}
    (arc : a = { s.arc with closing := s.arc.closing.put st rest, copies := s.arc.copies.set x.index none
                            entryWrites := writes, cause := a.cause, messages := a.messages, messaged := a.messaged })
    (state : EntryState) (reason : SegReason) : TrailerEnded s st x rest
      (answerCut (.cutTrailer st x.index) (cutResult state reason x.index x.fill x.first x.last) { s with arc := a })
      state reason := by
  obtain ⟨answers, discards, still⟩ := answerCut_rqp (.cutTrailer st x.index)
    (cutResult state reason x.index x.fill x.first x.last) { s with arc := a }
  refine ⟨fun waits here => (answers waits here).trans (answer_copied (by rw [arc]) ..), discards, still, ?_, ?_⟩
  · have written : a.entryWrites = writes := by rw [arc]
    rw [answerCut_arc]
    dsimp only
    rw [written]
    exact arc
  · refine State.eq_of_fields ?_ ?_ ?_ ?_ ?_ ?_ ?_ ?_ ?_ ?_ rfl rfl ?_ <;> simp

/-- Settles O47: CUT, and the two ends of a trailer. -/
theorem cut_and_trailers_end_a_segment : Obligations.cut_and_trailers_end_a_segment := by
  intro s st run
  refine ⟨fun b offered code => ?_, fun b offered unknown => ?_, fun x rest oldest => ⟨?_, ?_⟩⟩
  · have row : exec .cut s = .next (takeCut b s) := offered.exec rfl
    have named : streamOf (byteAt b 16) = some st := by
      rw [code]
      cases st <;> rfl
    rw [row, takeCut, named]
    dsimp only
    refine ⟨fun closed => by rw [closed], fun seg opened => ?_⟩
    rw [opened]
    dsimp only
    refine ⟨fun flight => by rw [if_pos flight]; rfl, fun idle => ?_⟩
    rw [if_neg idle]
    refine ⟨_, rfl, by rw [checkStarved_rqp]; rfl, ?_, ?_, fun c copy => ?_, fun y other => ?_, checkStarved_noted rfl rfl, ?_, ?_⟩
    · rw [checkStarved_arc_openSeg]
      rfl
    · rw [checkStarved_arc_closing]
      rfl
    · rw [checkStarved_arc_copies, closeOpen_spec copy]
      rfl
    · rw [checkStarved_has_other _ _ other]
      rfl
    · rw [checkStarved_arc_openSeg, checkStarved_arc_closing, checkStarved_arc_copies]
      conv_lhs => rw [checkStarved_frame]
      rfl
    · rw [checkStarved_rqp]
      exact checkStarved_state _
  · have row : exec .cut s = .next (takeCut b s) := offered.exec rfl
    rw [row, takeCut, streamOf_none unknown]
  · have row : exec (.trailerComplete st true) s = .next (trailerComplete st true s) := exec_running run
    rw [row, trailerComplete, oldest]
    dsimp only
    rw [if_pos rfl]
    refine ⟨_, rfl, trailerEnded_of (writes := s.arc.entryWrites) ?_ .filled x.reason, ?_, ?_, ?_, fun y filled new => ?_⟩
    · exact Arc.raise_raise_frame (trailerReleased st x rest s.arc) .filled (newCause st)
    · rw [answerCut_arc]
      rw [raise_has, raise_has]
      exact .inl (.inr rfl)
    · rw [answerCut_arc, raise_has]
      exact .inr rfl
    · rw [answerCut_arc, raise_arc_entryWrites, raise_arc_entryWrites]
      rfl
    · rw [answerCut_arc]
      exact (Arc.raise_has_other _ _ _ new).trans (Arc.raise_has_other _ _ _ filled)
  · have row : exec (.trailerComplete st false) s = .next (trailerComplete st false s) := exec_running run
    rw [row, trailerComplete, oldest]
    dsimp only
    rw [if_neg Bool.false_ne_true]
    refine ⟨_, rfl, trailerEnded_of (writes := s.arc.entryWrites ++
      [cellsFrom (entryAddr s.arc.area x.index) (entryBytes .faulted .trailer x.fill x.first x.last)]) ?_ .faulted .trailer, ?_, fun y fault => ?_, ?_⟩
    · exact Arc.raise_frame ((s.arc.release st rest x.index).issueEntry x.index .faulted .trailer x.fill x.first x.last) .writeFault
    · rw [answerCut_arc, raise_has]
      exact .inr rfl
    · rw [answerCut_arc]
      exact Arc.raise_has_other _ _ _ fault
    · rw [answerCut_arc, raise_arc_entryWrites]
      rfl

end Sys2Proof.Machine
end

section
/-! SUPPORT. The register writes, the status block and the entry writes, and the HAND write, and their statements (R138 to R141, R143,
R154, R176). -/

namespace Sys2Proof.Machine

variable {s t : State}

/-! ### Registers (R138, R139, R154) -/

theorem controlWrite_reset (busy : s.arc.linkReset ≠ none) (enable : Bool) (v : RegWord) : controlWrite enable v s = s :=
  if_pos (Option.isSome_iff_ne_none.mpr busy)

/-- A CONTROL write that does not raise ENABLE. -/
theorem controlWrite_replaces (free : s.arc.linkReset = none) {enable : Bool} (v : RegWord) (h : enable = false ∨ s.arc.enable = true) :
    controlWrite enable v s = { s with arc := { s.arc with enable := enable, mask := v.extractLsb' 16 11 } } := by
  have still : ¬(enable && !s.arc.enable) = true := by
    obtain h | h := h <;> simp [h]
  unfold controlWrite
  rw [if_neg (by rw [free]; decide)]
  dsimp only
  rw [if_neg still]
  rfl

/-- A CONTROL write that raises ENABLE. -/
theorem controlWrite_resumes (free : s.arc.linkReset = none) (v : RegWord) (clear : s.arc.enable = false) :
    controlWrite true v s = resumeHost { s with arc := { s.arc with enable := true, mask := v.extractLsb' 16 11 } } := by
  unfold controlWrite
  rw [if_neg (by rw [free]; decide)]
  dsimp only
  rw [if_pos (by rw [clear]; decide)]
  rfl

/-- A write of the status block rests on the registers but for the mask. -/
theorem statusEvent_masked (enable : Bool) (mask : BitVec 11) (s : State) :
    (statusEvent { s with arc := { s.arc with enable := enable, mask := mask } }).arc.status
      = (statusEvent { s with arc := { s.arc with enable := enable } }).arc.status := by
  unfold statusEvent
  dsimp only
  split
  · split <;> rfl
  · rfl

theorem causeWrite_has (v : RegWord) (s : State) (c : Cause) :
    (causeWrite v s).arc.has c = (s.arc.has c && !v.getLsbD c.num) := by
  have small : c.num < 11 := by cases c <;> decide
  simp [causeWrite, onArc, Arc.has, small]

theorem readControl_bit (s : State) (i : Nat) : (readControl s).getLsbD i =
    if i = 0 then s.arc.enable else if 16 ≤ i ∧ i ≤ 26 then s.arc.mask.getLsbD (i - 16) else false := by
  have enabled : (if s.arc.enable then 1#64 else 0#64).getLsbD i = (decide (i = 0) && s.arc.enable) := by
    cases s.arc.enable
    · simp
    · simp
  rw [readControl, BitVec.getLsbD_or, enabled, BitVec.getLsbD_shiftLeft, BitVec.getLsbD_setWidth]
  by_cases zero : i = 0
  · simp [zero]
  · by_cases inside : 16 ≤ i ∧ i ≤ 26
    · simp [zero, inside, show i < 64 by omega, show ¬i < 16 by omega, show i - 16 < 64 by omega]
    · by_cases low : i < 16
      · simp [zero, low, inside]
      · simp [zero, inside, BitVec.getLsbD_of_ge s.arc.mask (i - 16) (by omega)]

theorem readCause_bit (s : State) (i : Nat) : (readCause s).getLsbD i =
    if i ≤ 10 then s.arc.cause.getLsbD i else if 56 ≤ i ∧ i ≤ 63 then s.arc.lastRefused.testBit (i - 56) else false := by
  rw [readCause, BitVec.getLsbD_or, BitVec.getLsbD_setWidth, BitVec.getLsbD_shiftLeft, BitVec.getLsbD_ofNat]
  by_cases low : i ≤ 10
  · simp [low, show i < 64 by omega, show i < 56 by omega]
  · rw [BitVec.getLsbD_of_ge s.arc.cause i (by omega)]
    by_cases high : 56 ≤ i ∧ i ≤ 63
    · simp [low, high, show i < 64 by omega, show ¬i < 56 by omega, show i - 56 < 64 by omega]
    · by_cases above : i < 56
      · simp [low, above, high]
      · simp [low, high, show ¬i < 64 by omega]

/-- Settles O49: the register reads and writes. -/
theorem register_writes_follow_their_registers : Obligations.register_writes_follow_their_registers := by
  intro s v run
  have area : exec (.areaWrite v) s = .next (areaWrite v s) := exec_running run
  have set : exec (.enableSet v) s = .next (controlWrite true v s) := exec_running run
  have clear : exec (.enableClear v) s = .next (controlWrite false v s) := exec_running run
  have mask : exec (.maskWrite v) s = .next (controlWrite s.arc.enable v s) := exec_running run
  have cause : exec (.causeWrite v) s = .next (causeWrite v s) := exec_running run
  dsimp only
  rw [area, set, clear, mask, cause]
  refine ⟨fun free off => ?_, fun held => ?_, fun busy => ?_, fun free => ?_, fun free => ?_, fun free on => ?_, fun free off => ?_,
    ⟨_, rfl, rfl, causeWrite_has v s⟩, exec_running run, fun fits => ?_, rfl, fun fits => ?_, readControl_bit s, readCause_bit s⟩
  · rw [areaWrite, if_pos ⟨off, free⟩, show v.toNat - v.toNat % 4096 = 4096 * (v.toNat / 4096) by omega]
    rfl
  · rw [areaWrite, if_neg]
    rintro ⟨off, free⟩
    obtain busy | on := held
    · exact busy free
    · exact nomatch off.symm.trans on
  · rw [controlWrite_reset busy, controlWrite_reset busy, controlWrite_reset busy]
    exact ⟨rfl, rfl, rfl⟩
  · rw [controlWrite_replaces free v (by cases s.arc.enable <;> simp)]
  · rw [controlWrite_replaces free v (.inl rfl)]
  · rw [controlWrite_replaces free v (.inr on), ← on]
  · rw [controlWrite_resumes free v off, resumeHost]
    generalize hb : ({ s with arc := { s.arc with enable := true, mask := v.extractLsb' 16 11 } } : State) = base
    have status : (statusEvent base).arc.status = (statusEvent { s with arc := { s.arc with enable := true } }).arc.status := by
      rw [← hb, statusEvent_masked]
    have rqp : (statusEvent base).rqp = s.rqp := by rw [statusEvent_rqp, ← hb]
    have shown : ({ statusEvent base with rqp := (statusEvent base).rqp.resume } : State) = { s with
        rqp := s.rqp.resume, arc := { s.arc with enable := true, mask := v.extractLsb' 16 11, status :=
          (statusEvent { s with arc := { s.arc with enable := true } }).arc.status } } := by
      rw [rqp, statusEvent_eq, status, ← hb]
    rw [shown]
    generalize hs : (statusEvent { s with arc := { s.arc with enable := true } }).arc.status = block
    have kept : ∀ u, (checkStarved u).arc.status = u.arc.status := fun u => by rw [checkStarved_frame]
    refine ⟨_, rfl, kept _, by rw [checkStarved_rqp]; rfl, fun x other => ?_, checkStarved_noted rfl rfl, ?_, ?_⟩
    · rw [checkStarved_has_other _ _ other]
      rfl
    · rw [checkStarved_rqp, kept]
    · rw [checkStarved_rqp, kept]
      conv_lhs => rw [checkStarved_state, checkStarved_frame]
  · rw [readArea, BitVec.toNat_ofNat, Nat.mod_eq_of_lt fits]
  · rw [readTime, BitVec.toNat_ofNat, Nat.mod_eq_of_lt fits]

/-! ### The status block and the entry writes (R140, R141) -/

/-- An error of a write sets WRITE_FAULT. -/
def noted (ok : Bool) (a : Arc) : Arc := if ok then a else a.raise .writeFault

theorem noteWrite_eq (ok : Bool) (s : State) : noteWrite ok s = { s with arc := noted ok s.arc } := by
  cases ok <;> rfl

/-- A cause event and the status block stand apart. -/
theorem Arc.raise_withStatus (a : Arc) (c : Cause) (x : Status) : { a with status := x }.raise c = { a.raise c with status := x } := by
  unfold Arc.raise
  split
  · next h => rw [if_pos (show a.has c = true from h)]
  · next h =>
    rw [if_neg (show ¬a.has c = true from h)]
    split
    · next m => rw [if_pos (show (a.unmasked c && !a.messaged) = true from m)]
    · next m => rw [if_neg (show ¬(a.unmasked c && !a.messaged) = true from m)]

theorem noted_withStatus (ok : Bool) (a : Arc) (x : Status) : noted ok { a with status := x } = { noted ok a with status := x } := by
  cases ok
  · exact Arc.raise_withStatus a .writeFault x
  · rfl

theorem noted_area (ok : Bool) (a : Arc) : (noted ok a).area = a.area := by
  cases ok
  · show (a.raise .writeFault).area = _
    rw [Arc.raise_frame]
  · rfl

/-- A write of the status block from a controller that holds the AREA of s. -/
theorem issueStatus_withStatus {a : Arc} (area : a.area = s.arc.area) (x : Status) :
    issueStatus { s with arc := { a with status := x } } = { s with arc := { a with
      status := ⟨some (s.statusBlock ((x.counter + 1) % 2 ^ 32)), (x.counter + 1) % 2 ^ 32, false,
        some (cellsFrom s.arc.area (s.statusBlock ((x.counter + 1) % 2 ^ 32)).bytes)⟩ } } := by
  rw [← area]
  rfl

/-- Settles O50: the writes of the status block, and the completions of status and entry writes. -/
theorem status_block_and_entry_writes_complete : Obligations.status_block_and_entry_writes_complete := by
  intro s run
  have status : ∀ ok, exec (.statusWriteComplete ok) s = .next (statusWriteComplete ok s) := fun ok => exec_running run
  have entry : ∀ i ok, exec (.entryWriteComplete i ok) s = .next (entryWriteComplete i ok s) := fun i ok => exec_running run
  have runs_iff := hostOpen_iff s
  refine ⟨statusEvent_off, fun runs free => (statusEvent_free runs free).trans rfl, fun runs busy => ?_, fun none ok => ?_,
    fun ok busy due runs => ?_, fun ok busy stays => ?_, fun ok i => ⟨fun inside => ?_, fun beyond => ?_⟩⟩
  · rw [statusEvent_eq, statusEvent_busy runs busy]
  · rw [status, statusWriteComplete, none]
  · obtain ⟨w, flight⟩ := Option.isSome_iff_exists.mp busy
    rw [status, statusWriteComplete, flight]
    dsimp only
    rw [due, runs_iff.mpr runs, noteWrite_eq, onArc, Arc.statusDone]
    dsimp only
    rw [noted_withStatus, if_pos (by rfl), issueStatus_withStatus (noted_area ok s.arc)]
    rfl
  · obtain ⟨w, flight⟩ := Option.isSome_iff_exists.mp busy
    have once : ¬(s.arc.status.due && hostOpen s) = true := by
      rintro both
      obtain ⟨due, opened⟩ := Bool.and_eq_true_iff.mp both
      obtain clear | shut := stays
      · exact nomatch clear.symm.trans due
      · exact shut (runs_iff.mp opened)
    rw [status, statusWriteComplete, flight]
    dsimp only
    rw [if_neg once, noteWrite_eq]
    rfl
  · rw [entry, entryWriteComplete, if_pos inside, noteWrite_eq]
    rfl
  · rw [entry, entryWriteComplete, if_neg (Nat.not_lt_of_le beyond)]

/-! ### HAND (R139, R143) -/

theorem refuseHand_eq (n : Nat) (s : State) :
    refuseHand n s = { s with arc := { s.arc with lastRefused := min 255 n }.raise .handRefused } := by
  have index : (if n < 256 then n else 255) = min 255 n := by
    split <;> omega
  rw [refuseHand, index]
  rfl

theorem takeHand_beyond {n : Nat} (h : 63 < n) (s : State) : takeHand n s = refuseHand n s := dif_neg (by omega)

theorem takeHand_held {n : Nat} {i : Fin 64} (h : n = i.val) (held : s.arc.copies[i] ≠ none) : takeHand n s = refuseHand n s := by
  subst h
  rw [takeHand, dif_pos i.isLt]
  obtain ⟨c, copy⟩ := Option.ne_none_iff_exists'.mp held
  rw [copy]

theorem takeHand_free {n : Nat} {i : Fin 64} (h : n = i.val) (free : s.arc.copies[i] = none) : takeHand n s =
    { s with arc := { s.arc with hand := some i, handRead := some (s.arc.area + 64 + 32 * i.val) } } := by
  subst h
  rw [takeHand, dif_pos i.isLt]
  rw [free]
  rfl

theorem handWrite_ignored (v : RegWord) (shut : ¬(s.arc.enable = true ∧ s.arc.linkReset = none)) : handWrite v s = s :=
  if_neg fun opened => shut ((hostOpen_iff s).mp opened)

theorem handWrite_heldBack (v : RegWord) (runs : s.arc.enable = true ∧ s.arc.linkReset = none) (busy : s.arc.hand.isSome) :
    handWrite v s = { s with arc := { s.arc with handHeld := s.arc.handHeld ++ [v.toNat] } } := by
  obtain ⟨i, hand⟩ := Option.isSome_iff_exists.mp busy
  rw [handWrite, if_pos ((hostOpen_iff s).mpr runs), hand]
  rfl

theorem handWrite_taken (v : RegWord) (runs : s.arc.enable = true ∧ s.arc.linkReset = none) (idle : s.arc.hand = none) :
    handWrite v s = takeHand v.toNat s := by
  rw [handWrite, if_pos ((hostOpen_iff s).mpr runs), idle]

/-- Settles O51: a HAND write taken, held back, refused or ignored. -/
theorem hand_write_is_taken_held_back_refused_or_ignored : Obligations.hand_write_is_taken_held_back_refused_or_ignored := by
  intro s v run
  have row : exec (.handWrite v) s = .next (handWrite v s) := exec_running run
  dsimp only
  rw [row]
  refine ⟨fun shut => ?_, fun runs busy => ?_, fun runs idle beyond => ?_, fun i runs idle named => ⟨fun held => ?_, fun free => ?_⟩⟩
  · rw [handWrite_ignored v shut]
  · rw [handWrite_heldBack v runs busy]
  · rw [handWrite_taken v runs idle, takeHand_beyond beyond, refuseHand_eq]
  · rw [handWrite_taken v runs idle, takeHand_held named held, refuseHand_eq]
  · rw [handWrite_taken v runs idle, takeHand_free named free]

end Sys2Proof.Machine
end
section
/-! SUPPORT. The HAND in progress and the HAND writes held back behind it, and their statement (R142 to R145, R157). -/

namespace Sys2Proof.Machine

variable {s t : State}

/-! ### Changes that stand apart from the cause bits and the starvation rule -/

/-- A change of the area controller that a cause event does not see. -/
structure Arc.Unseen (g : Arc → Arc) : Prop where
  marked : ∀ (b : Arc) (x : BitVec 11), g { b with cause := x } = { g b with cause := x }
  sent : ∀ (b : Arc) (x : BitVec 11) (y : Nat),
    g { b with cause := x, messages := y, messaged := true } = { g b with cause := x, messages := y, messaged := true }
  seen : ∀ b, (g b).cause = b.cause ∧ (g b).mask = b.mask ∧ (g b).messages = b.messages ∧ (g b).messaged = b.messaged

/-- A change of the area controller that neither a cause event nor the starvation rule sees. -/
structure Arc.Apart (g : Arc → Arc) : Prop extends Arc.Unseen g where
  flagged : ∀ (b : Arc) (p : PerStream Bool), g { b with starved := p } = { g b with starved := p }
  segments : ∀ b, (g b).enable = b.enable ∧ (g b).starved = b.starved ∧ (g b).openSeg = b.openSeg ∧ (g b).lent = b.lent

theorem Arc.Unseen.raise {g : Arc → Arc} (h : Arc.Unseen g) (a : Arc) (c : Cause) : (g a).raise c = g (a.raise c) := by
  obtain ⟨cause, mask, messages, messaged⟩ := h.seen a
  have has : (g a).has c = a.has c := by rw [Arc.has, cause, Arc.has]
  have unmasked : (g a).unmasked c = a.unmasked c := by rw [Arc.unmasked, mask, Arc.unmasked]
  by_cases set : a.has c = true
  · rw [Arc.raise, if_pos (has.trans set), Arc.raise, if_pos set]
  · by_cases send : (a.unmasked c && !a.messaged) = true
    · rw [Arc.raise, if_neg (has ▸ set), if_pos (by rw [unmasked, messaged]; exact send), Arc.raise, if_neg set, if_pos send,
        h.sent a (a.cause ||| c.mask) (a.messages + 1), cause, messages]
    · rw [Arc.raise, if_neg (has ▸ set), if_neg (by rw [unmasked, messaged]; exact send), Arc.raise, if_neg set, if_neg send,
        h.marked a (a.cause ||| c.mask), cause]

/-- Two cause events in either order. -/
theorem Arc.raise_comm (a : Arc) (c d : Cause) : (a.raise c).raise d = (a.raise d).raise c := by
  by_cases same : d = c
  · rw [same]
  · have hd : (a.raise c).has d = a.has d := Arc.raise_has_other a c d same
    have hc : (a.raise d).has c = a.has c := Arc.raise_has_other a d c (Ne.symm same)
    have set : ∀ (b : Arc) (x : Cause), b.has x = true → b.raise x = b := fun b x h => if_pos h
    by_cases c_set : a.has c = true
    · rw [set a c c_set, set _ c (hc.trans c_set)]
    · by_cases d_set : a.has d = true
      · rw [set a d d_set, set _ d (hd.trans d_set)]
      · have both : a.cause ||| c.mask ||| d.mask = a.cause ||| d.mask ||| c.mask := by
          rw [BitVec.or_assoc, BitVec.or_comm c.mask, ← BitVec.or_assoc]
        have unset : ∀ (b : Arc) (x : Cause), ¬b.has x = true → b.raise x = if b.mask.getLsbD x.num && !b.messaged then
            { b with cause := b.cause ||| x.mask, messages := b.messages + 1, messaged := true }
            else { b with cause := b.cause ||| x.mask } := fun b x h => if_neg h
        rw [unset (a.raise c) d (hd ▸ d_set), unset (a.raise d) c (hc ▸ c_set), unset a c c_set, unset a d d_set]
        cases mc : a.mask.getLsbD c.num <;> cases md : a.mask.getLsbD d.num <;> cases ms : a.messaged <;> simp [mc, md, both]

/-- The starvation rule and a change apart from it, in either order. -/
theorem noteStarved_apart {g : Arc → Arc} (h : Arc.Apart g) (st : Stream) (s : State) :
    noteStarved st (onArc g s) = onArc g (noteStarved st s) := by
  obtain ⟨enable, starved, openSeg, lent⟩ := h.segments s.arc
  have same : isStarved (onArc g s) st = isStarved s st := by
    simp only [isStarved, onArc, enable, openSeg, lent]
  unfold noteStarved
  rw [same, show (onArc g s).arc.starved = s.arc.starved from starved]
  split
  · have flagged := h.flagged s.arc (s.arc.starved.put st true)
    show ({ s with arc := ({ g s.arc with starved := s.arc.starved.put st true } : Arc).raise .starved } : State) = _
    rw [← flagged, h.raise]
    rfl
  · rfl

theorem Arc.unseen_starved (p : PerStream Bool) : Arc.Unseen fun a => { a with starved := p } :=
  ⟨fun _ _ => rfl, fun _ _ _ => rfl, fun _ => ⟨rfl, rfl, rfl, rfl⟩⟩

/-- The starvation rule and a cause event, in either order. -/
theorem noteStarved_raise (st : Stream) (c : Cause) (s : State) : noteStarved st (raise c s) = raise c (noteStarved st s) := by
  have same : isStarved (raise c s) st = isStarved s st := by
    simp only [isStarved, raise_arc_enable, raise_arc_openSeg, raise_arc_lent, raise_stg, raise_jwr]
  have flags : (raise c s).arc.starved = s.arc.starved := by
    show (s.arc.raise c).starved = _
    rw [Arc.raise_frame]
  unfold noteStarved
  rw [same, flags]
  split
  · have flagged := (Arc.unseen_starved (s.arc.starved.put st true)).raise s.arc c
    show ({ s with arc := ({ s.arc.raise c with starved := s.arc.starved.put st true } : Arc).raise .starved } : State) = _
    rw [← flagged, Arc.raise_comm]
    rfl
  · rfl

theorem checkStarved_apart {g : Arc → Arc} (h : Arc.Apart g) (s : State) : checkStarved (onArc g s) = onArc g (checkStarved s) := by
  simp only [checkStarved, noteStarved_apart h]

theorem checkStarved_raise (c : Cause) (s : State) : checkStarved (raise c s) = raise c (checkStarved s) := by
  simp only [checkStarved, noteStarved_raise]

/-! ### The HAND writes held back (R143) -/

theorem Arc.apart_refused (n : Nat) : Arc.Apart fun a => { a with lastRefused := n } :=
  ⟨⟨fun _ _ => rfl, fun _ _ _ => rfl, fun _ => ⟨rfl, rfl, rfl, rfl⟩⟩, fun _ _ => rfl, fun _ => ⟨rfl, rfl, rfl, rfl⟩⟩

theorem Arc.apart_taken (i : Fin 64) : Arc.Apart fun a => { a with hand := some i, handRead := some (entryBase a.area i) } :=
  ⟨⟨fun _ _ => rfl, fun _ _ _ => rfl, fun _ => ⟨rfl, rfl, rfl, rfl⟩⟩, fun _ _ => rfl, fun _ => ⟨rfl, rfl, rfl, rfl⟩⟩

theorem Arc.apart_held (l : List Nat) : Arc.Apart fun a => { a with handHeld := l } :=
  ⟨⟨fun _ _ => rfl, fun _ _ _ => rfl, fun _ => ⟨rfl, rfl, rfl, rfl⟩⟩, fun _ _ => rfl, fun _ => ⟨rfl, rfl, rfl, rfl⟩⟩

/-- The list of writes held back replaced. -/
def withHeld (l : List Nat) : State → State := onArc fun a => { a with handHeld := l }

theorem withHeld_withHeld (l m : List Nat) (s : State) : withHeld l (withHeld m s) = withHeld l s := rfl

theorem withHeld_self (h : s.arc.handHeld = l) : withHeld l s = s := by
  subst h
  rfl

theorem checkStarved_withHeld (l : List Nat) (s : State) : checkStarved (withHeld l s) = withHeld l (checkStarved s) :=
  checkStarved_apart (Arc.apart_held l) s

theorem refuseHand_withHeld (l : List Nat) (n : Nat) (s : State) : refuseHand n (withHeld l s) = withHeld l (refuseHand n s) :=
  congrArg (fun a => { s with arc := a })
    ((Arc.apart_held l).raise { s.arc with lastRefused := if n < 256 then n else 255 } .handRefused)

theorem checkStarved_refuseHand (n : Nat) (s : State) : checkStarved (refuseHand n s) = refuseHand n (checkStarved s) := by
  rw [refuseHand, checkStarved_raise, checkStarved_apart (Arc.apart_refused _)]
  rfl

theorem takeHand_withHeld (l : List Nat) (n : Nat) (s : State) : takeHand n (withHeld l s) = withHeld l (takeHand n s) := by
  by_cases beyond : 63 < n
  · rw [takeHand_beyond beyond, takeHand_beyond beyond, refuseHand_withHeld]
  · obtain ⟨i, named⟩ : ∃ i : Fin 64, n = i.val := ⟨⟨n, by omega⟩, rfl⟩
    by_cases free : s.arc.copies[i] = none
    · rw [takeHand_free named free, takeHand_free named (s := withHeld l s) free]
      rfl
    · rw [takeHand_held named free, takeHand_held named (s := withHeld l s) free, refuseHand_withHeld]

theorem checkStarved_takeHand (n : Nat) (s : State) : checkStarved (takeHand n s) = takeHand n (checkStarved s) := by
  by_cases beyond : 63 < n
  · rw [takeHand_beyond beyond, takeHand_beyond beyond, checkStarved_refuseHand]
  · obtain ⟨i, named⟩ : ∃ i : Fin 64, n = i.val := ⟨⟨n, by omega⟩, rfl⟩
    have copies : (checkStarved s).arc.copies = s.arc.copies := checkStarved_arc_copies s
    by_cases free : s.arc.copies[i] = none
    · rw [takeHand_free named free, takeHand_free named (s := checkStarved s) (by rw [copies]; exact free)]
      exact checkStarved_apart (Arc.apart_taken i) s
    · rw [takeHand_held named free, takeHand_held named (s := checkStarved s) (by rw [copies]; exact free), checkStarved_refuseHand]

theorem hostOpen_checkStarved (s : State) : hostOpen (checkStarved s) = hostOpen s := by
  rw [hostOpen, checkStarved_arc_enable, checkStarved_arc_linkReset, hostOpen]

theorem takeHeld_withHeld (l : List Nat) (vs : List Nat) (s : State) : takeHeld vs (withHeld l s) = takeHeld vs s := by
  induction vs generalizing s with
  | nil => rfl
  | cons v vs ih =>
    unfold takeHeld
    rw [show hostOpen (withHeld l s) = hostOpen s from rfl, takeHand_withHeld]
    dsimp only
    rw [show (withHeld l (takeHand v s)).arc.hand = (takeHand v s).arc.hand from rfl, ih]
    rfl

theorem checkStarved_takeHeld (vs : List Nat) (s : State) : checkStarved (takeHeld vs s) = takeHeld vs (checkStarved s) := by
  induction vs generalizing s with
  | nil => exact checkStarved_withHeld [] s
  | cons v vs ih =>
    unfold takeHeld
    dsimp only
    rw [hostOpen_checkStarved, ← checkStarved_takeHand, checkStarved_arc_hand]
    split
    · split
      · exact checkStarved_withHeld vs _
      · exact ih _
    · exact checkStarved_withHeld [] s

theorem takeHand_arc (n : Nat) (s : State) :
    (takeHand n s).arc.enable = s.arc.enable ∧ (takeHand n s).arc.linkReset = s.arc.linkReset
      ∧ (takeHand n s).arc.handHeld = s.arc.handHeld := by
  by_cases beyond : 63 < n
  · rw [takeHand_beyond beyond, refuseHand_eq, Arc.raise_frame]
    exact ⟨rfl, rfl, rfl⟩
  · obtain ⟨i, named⟩ : ∃ i : Fin 64, n = i.val := ⟨⟨n, by omega⟩, rfl⟩
    by_cases free : s.arc.copies[i] = none
    · rw [takeHand_free named free]
      exact ⟨rfl, rfl, rfl⟩
    · rw [takeHand_held named free, refuseHand_eq, Arc.raise_frame]
      exact ⟨rfl, rfl, rfl⟩

theorem handWrite_exec (run : s.osc.phase = .running) (v : RegWord) : exec (.handWrite v) s = .next (handWrite v s) :=
  exec_running run

/-- Writes that come while one is in progress are held back. -/
theorem follows_heldBack (vs : List RegWord) (run : s.osc.phase = .running)
    (runs : s.arc.enable = true ∧ s.arc.linkReset = none) (busy : s.arc.hand.isSome) :
    Follows (vs.map Instr.handWrite) s (withHeld (s.arc.handHeld ++ vs.map BitVec.toNat) s) := by
  induction vs generalizing s with
  | nil => exact withHeld_self (List.append_nil _).symm
  | cons v vs ih =>
    refine ⟨withHeld (s.arc.handHeld ++ [v.toNat]) s, ?_, ?_⟩
    · rw [handWrite_exec run, handWrite_heldBack v runs busy]
      rfl
    · have rest := ih (s := withHeld (s.arc.handHeld ++ [v.toNat]) s) run runs busy
      rw [withHeld_withHeld, show (withHeld (s.arc.handHeld ++ [v.toNat]) s).arc.handHeld = s.arc.handHeld ++ [v.toNat] from rfl,
        List.append_assoc] at rest
      exact rest

/-- Writes that come while the host-facing side is shut are ignored. -/
theorem follows_ignored (vs : List RegWord) (run : s.osc.phase = .running)
    (shut : ¬(s.arc.enable = true ∧ s.arc.linkReset = none)) : Follows (vs.map Instr.handWrite) s s := by
  induction vs with
  | nil => rfl
  | cons v vs ih => exact ⟨s, by rw [handWrite_exec run, handWrite_ignored v shut], ih⟩

/-- The writes held back are taken as if they came then. -/
theorem follows_takeHeld (vs : List RegWord) (run : s.osc.phase = .running) (idle : s.arc.hand = none) (empty : s.arc.handHeld = []) :
    Follows (vs.map Instr.handWrite) s (takeHeld (vs.map BitVec.toNat) s) := by
  induction vs generalizing s with
  | nil => exact withHeld_self empty
  | cons v vs ih =>
    have follows : Follows ((v :: vs).map Instr.handWrite) s (if hostOpen s then
        if (takeHand v.toNat s).arc.hand.isSome then withHeld (vs.map BitVec.toNat) (takeHand v.toNat s)
        else takeHeld (vs.map BitVec.toNat) (takeHand v.toNat s) else withHeld [] s) := by
      by_cases opened : hostOpen s = true
      · have runs := (hostOpen_iff s).mp opened
        obtain ⟨enable, linkReset, held⟩ := takeHand_arc v.toNat s
        have still : (takeHand v.toNat s).osc.phase = .running := by rwa [takeHand_osc]
        rw [if_pos opened]
        refine ⟨takeHand v.toNat s, by rw [handWrite_exec run, handWrite_taken v runs idle], ?_⟩
        split
        · next busy =>
          have rest := follows_heldBack vs still (by rwa [enable, linkReset]) busy
          rwa [held, empty, List.nil_append] at rest
        · next free => exact ih still (Option.not_isSome_iff_eq_none.mp free) (held.trans empty)
      · rw [if_neg opened, withHeld_self empty]
        exact follows_ignored (v :: vs) run fun runs => opened ((hostOpen_iff s).mpr runs)
    exact follows

/-! ### The HAND decided (R142, R144, R145) -/

theorem decideHand_withHeld (l : List Nat) (i : Fin 64) (entry : Option (List Byte)) (s : State) :
    decideHand i entry (withHeld l s) = withHeld l (decideHand i entry s) := by
  have refused : ∀ reason, refuseEntry i reason (withHeld l s) = withHeld l (refuseEntry i reason s) := fun reason => by
    rw [refuseEntry, refuseEntry, ← refuseHand_withHeld]
    rfl
  unfold decideHand
  cases entry with
  | none => exact refused .fetch
  | some e =>
    dsimp only
    rw [show checkEntry (withHeld l s) (readEntry e) = checkEntry s (readEntry e) from rfl]
    cases checkEntry s (readEntry e) with
    | inl reason => exact refused reason
    | inr c =>
      dsimp only
      cases c.kind <;> rfl

theorem refuseEntry_arc (i : Fin 64) (reason : SegReason) (s : State) : (refuseEntry i reason s).arc =
    ({ s.arc with
        lastRefused := min 255 i.val, entryWrites := s.arc.entryWrites ++
          [cellsFrom (entryAddr s.arc.area i) (entryBytes .refused reason 0 none none)] } : Arc).raise .handRefused := by
  rw [refuseEntry, refuseHand_eq]
  rfl

/-- A decision changes the segments, the lists, the index refused and the cause bits of the area controller. -/
theorem decideHand_frame (i : Fin 64) (entry : Option (List Byte)) (s : State) : (decideHand i entry s).arc = { s.arc with
    copies := (decideHand i entry s).arc.copies, lent := (decideHand i entry s).arc.lent
    requests := (decideHand i entry s).arc.requests, starved := (decideHand i entry s).arc.starved
    entryWrites := (decideHand i entry s).arc.entryWrites, lastRefused := (decideHand i entry s).arc.lastRefused
    cause := (decideHand i entry s).arc.cause, messages := (decideHand i entry s).arc.messages
    messaged := (decideHand i entry s).arc.messaged } := by
  have refused : ∀ reason, (refuseEntry i reason s).arc = { s.arc with
      copies := (refuseEntry i reason s).arc.copies, lent := (refuseEntry i reason s).arc.lent
      requests := (refuseEntry i reason s).arc.requests, starved := (refuseEntry i reason s).arc.starved
      entryWrites := (refuseEntry i reason s).arc.entryWrites, lastRefused := (refuseEntry i reason s).arc.lastRefused
      cause := (refuseEntry i reason s).arc.cause, messages := (refuseEntry i reason s).arc.messages
      messaged := (refuseEntry i reason s).arc.messaged } := fun reason => by
    rw [refuseEntry_arc, Arc.raise_frame]
  unfold decideHand
  cases entry with
  | none => exact refused .fetch
  | some e =>
    dsimp only
    cases checkEntry s (readEntry e) with
    | inl reason => exact refused reason
    | inr c =>
      dsimp only
      cases c.kind <;> rfl

theorem decideHand_has (i : Fin 64) (entry : Option (List Byte)) (s : State) {x : Cause} (other : x ≠ .handRefused) :
    (decideHand i entry s).arc.has x = s.arc.has x := by
  have refused : ∀ reason, (refuseEntry i reason s).arc.has x = s.arc.has x := fun reason => by
    rw [refuseEntry_arc, Arc.raise_has_other _ _ _ other]
    rfl
  unfold decideHand
  cases entry with
  | none => exact refused .fetch
  | some e =>
    dsimp only
    cases checkEntry s (readEntry e) with
    | inl reason => exact refused reason
    | inr c =>
      dsimp only
      cases c.kind <;> rfl

/-! ### The checks of an entry (R144) -/

section
variable {f : EntryFields} {kind : SegKind}

theorem segKindOf_none (h : ¬(1 ≤ f.kindCode ∧ f.kindCode ≤ 4)) : segKindOf f.kindCode = none := by
  unfold segKindOf
  split
  · omega
  · omega
  · omega
  · omega
  · rfl

theorem segKindOf_some (h : 1 ≤ f.kindCode ∧ f.kindCode ≤ 4) : ∃ kind, segKindOf f.kindCode = some kind := by
  obtain code | code | code | code : f.kindCode = 1 ∨ f.kindCode = 2 ∨ f.kindCode = 3 ∨ f.kindCode = 4 := by omega
  all_goals exact ⟨_, by rw [code]; rfl⟩

theorem checkEntry_capacity (known : segKindOf f.kindCode = some kind) (h : f.capacityLess1 + 1 < 16) :
    checkEntry s f = .inl .capacity := by
  rw [checkEntry, known]
  exact if_pos (by omega)

theorem checkEntry_align (known : segKindOf f.kindCode = some kind) (capacity : 16 ≤ f.capacityLess1 + 1) (h : f.base % 64 ≠ 0) :
    checkEntry s f = .inl .align := by
  rw [checkEntry, known]
  dsimp only
  rw [if_neg (by omega), if_pos h]

/-- The place of an accepted segment in its list, or the refusal of a full one. -/
def listed (s : State) (f : EntryFields) : SegKind → SegReason ⊕ SegCopy
  | .request => if 8 ≤ s.arc.requests.length then .inl .full
    else .inr ⟨.request, f.base, f.capacityLess1 + 1, f.count, f.tag, .queued⟩
  | .journal st => if 16 ≤ (s.arc.lent.get st).length then .inl .full
    else .inr ⟨.journal st, f.base, f.capacityLess1 + 1, f.count, f.tag, .lent⟩

/-- The checks that follow those of the capacity and of the address. -/
theorem checkEntry_listed (known : segKindOf f.kindCode = some kind) (capacity : 16 ≤ f.capacityLess1 + 1) (aligned : f.base % 64 = 0) :
    checkEntry s f = if kind = .request ∧ (f.count = 0 ∨ f.capacityLess1 + 1 < f.count) then .inl .count else listed s f kind := by
  rw [checkEntry, known]
  dsimp only
  rw [if_neg (by omega), if_neg (not_not.mpr aligned)]
  cases kind <;> rfl

end

/-! ### The read of an entry completes (R143, R144) -/

/-- The state in which a HAND is decided: the read of its entry is over. -/
def fetched (s : State) : State := onArc (fun a => { a with handRead := none, hand := none }) s

theorem handFetchComplete_decides {i : Fin 64} (read : s.arc.handRead.isSome) (hand : s.arc.hand = some i) (entry : Option (List Byte)) :
    handFetchComplete entry s = checkStarved (takeHeld s.arc.handHeld (decideHand i entry (fetched s))) := by
  rw [handFetchComplete, if_pos read, hand]
  rfl

theorem decideHand_refuses {i : Fin 64} {reason : SegReason} {e : List Byte} (h : checkEntry s (readEntry e) = .inl reason) :
    decideHand i (some e) s = refuseEntry i reason s := by
  simp only [decideHand, h]

theorem decideHand_queues {i : Fin 64} {c : SegCopy} {e : List Byte} (h : checkEntry s (readEntry e) = .inr c)
    (kind : c.kind = .request) : decideHand i (some e) s = acceptRequests i c s := by
  simp only [decideHand, h, kind]

theorem decideHand_lends {i : Fin 64} {c : SegCopy} {e : List Byte} {st : Stream} (h : checkEntry s (readEntry e) = .inr c)
    (kind : c.kind = .journal st) : decideHand i (some e) s = acceptJournal i st c s := by
  simp only [decideHand, h, kind]

/-- A refused HAND: its reason is written, and no segment moves. -/
theorem checkStarved_refused {i : Fin 64} {reason : SegReason} {x : State} (h : x = refuseEntry i reason (fetched s)) :
    (checkStarved x).arc.entryWrites
        = s.arc.entryWrites ++ [cellsFrom (entryAddr s.arc.area i) (entryBytes .refused reason 0 none none)]
    ∧ (checkStarved x).arc.has .handRefused = true ∧ StarvationNoted s.arc.starved s (checkStarved x)
    ∧ (checkStarved x).arc.lastRefused = i.val ∧ (checkStarved x).arc.lent = s.arc.lent
    ∧ (checkStarved x).arc.requests = s.arc.requests ∧ (checkStarved x).arc.copies = s.arc.copies := by
  have arc : x.arc = _ := (congrArg State.arc h).trans (refuseEntry_arc i reason (fetched s))
  have index : min 255 i.val = i.val := by omega
  have has : x.arc.has .handRefused = true := by rw [arc, Arc.raise_has]
  have starved : x.arc.has .starved = s.arc.has .starved := by
    rw [arc, Arc.raise_has_other _ _ _ (by decide)]
    rfl
  rw [index, Arc.raise_frame] at arc
  refine ⟨?_, ?_, checkStarved_noted ?_ starved, ?_, ?_, ?_, ?_⟩
  · rw [checkStarved_arc_entryWrites, arc]
    rfl
  · rw [checkStarved_has_other _ _ (by decide), has]
  · rw [arc]
    rfl
  · rw [checkStarved_arc_lastRefused, arc]
  · rw [checkStarved_arc_lent, arc]
    rfl
  · rw [checkStarved_arc_requests, arc]
    rfl
  · rw [checkStarved_arc_copies, arc]
    rfl

/-- A HAND accepted for requests: QUEUED at the tail of the request queue. -/
theorem checkStarved_queued {i : Fin 64} {c : SegCopy} {x : State} (h : x = acceptRequests i c (fetched s)) :
    (checkStarved x).arc.entryWrites = s.arc.entryWrites ++ [cellsFrom (entryAddr s.arc.area i) (entryBytes .queued .none 0 none none)]
    ∧ ((checkStarved x).arc.copies = s.arc.copies.set i (some c) ∧ (checkStarved x).arc.has .handRefused = s.arc.has .handRefused
      ∧ (checkStarved x).arc.lastRefused = s.arc.lastRefused)
    ∧ StarvationNoted s.arc.starved s (checkStarved x) ∧ (checkStarved x).arc.requests = s.arc.requests ++ [i]
    ∧ (checkStarved x).arc.lent = s.arc.lent := by
  subst h
  refine ⟨?_, ⟨?_, ?_, ?_⟩, checkStarved_noted rfl rfl, ?_, ?_⟩
  · rw [checkStarved_arc_entryWrites]
    rfl
  · rw [checkStarved_arc_copies]
    rfl
  · rw [checkStarved_has_other _ _ (by decide)]
    rfl
  · rw [checkStarved_arc_lastRefused]
    rfl
  · rw [checkStarved_arc_requests]
    rfl
  · rw [checkStarved_arc_lent]
    rfl

/-- A HAND accepted for a stream: LENT at the tail of its list, which ends the stream's spell. -/
theorem checkStarved_lent {i : Fin 64} {st : Stream} {c : SegCopy} {x : State} (h : x = acceptJournal i st c (fetched s)) :
    (checkStarved x).arc.entryWrites = s.arc.entryWrites ++ [cellsFrom (entryAddr s.arc.area i) (entryBytes .lent .none 0 none none)]
    ∧ ((checkStarved x).arc.copies = s.arc.copies.set i (some c) ∧ (checkStarved x).arc.has .handRefused = s.arc.has .handRefused
      ∧ (checkStarved x).arc.lastRefused = s.arc.lastRefused)
    ∧ (checkStarved x).arc.lent = s.arc.lent.put st (s.arc.lent.get st ++ [i]) ∧ (checkStarved x).arc.starved.get st = false
    ∧ StarvationNoted (s.arc.starved.put st false) s (checkStarved x) ∧ (checkStarved x).arc.requests = s.arc.requests := by
  have lent : x.arc.lent.get st ≠ [] := by
    rw [h]
    show (s.arc.lent.put st (s.arc.lent.get st ++ [i])).get st ≠ []
    rw [PerStream.get_put_same]
    exact List.append_ne_nil_of_right_ne_nil _ nofun
  have fed : isStarved x st = false := Bool.eq_false_iff.mpr fun starved => by
    obtain ⟨_, _, _, none⟩ := (isStarved_iff x st).mp starved
    exact lent none
  have flags : x.arc.starved = s.arc.starved.put st false := by rw [h]; rfl
  refine ⟨?_, ⟨?_, ?_, ?_⟩, ?_, ?_, checkStarved_noted flags (by rw [h]; rfl), ?_⟩
  · rw [checkStarved_arc_entryWrites, h]
    rfl
  · rw [checkStarved_arc_copies, h]
    rfl
  · rw [checkStarved_has_other _ _ (by decide), h]
    rfl
  · rw [checkStarved_arc_lastRefused, h]
    rfl
  · rw [checkStarved_arc_lent, h]
    rfl
  · rw [checkStarved_flag, flags, fed, PerStream.get_put_same]
    rfl
  · rw [checkStarved_arc_requests, h]
    rfl

theorem segKindOf_journal (st : Stream) : segKindOf (match st with | .arrival => 2 | .auction => 3 | .evidence => 4)
    = some (.journal st) := by
  cases st <;> rfl

/-- Settles O52: the HAND in progress decided on its entry, and the writes held back behind it. -/
theorem hand_fetch_decides_the_segment : Obligations.hand_fetch_decides_the_segment := by
  refine ⟨fun s entry run => ⟨fun none => ?_, fun dropped => ?_, fun held read busy list => ?_⟩, fun s i entry run read hand empty => ?_⟩
  · have row : exec (.handFetchComplete entry) s = .next (handFetchComplete entry s) := exec_running run
    rw [row, handFetchComplete, none]
    rfl
  · have row : exec (.handFetchComplete entry) s = .next (handFetchComplete entry s) := exec_running run
    rw [row]
    by_cases read : s.arc.handRead.isSome
    · rw [handFetchComplete, if_pos read, dropped]
      exact congrArg (fun h => Host.Outcome.next { s with arc := { s.arc with handRead := none, hand := h } }) dropped.symm
    · rw [handFetchComplete, if_neg read]
      exact congrArg (fun r => Host.Outcome.next { s with arc := { s.arc with handRead := r } })
        (Option.not_isSome_iff_eq_none.mp read)
  · obtain ⟨i, hand⟩ := Option.isSome_iff_exists.mp busy
    let x := decideHand i entry (fetched s)
    let u := withHeld [] (checkStarved x)
    have first : exec (.handFetchComplete entry) (withHeld [] s) = .next u := by
      have decided : handFetchComplete entry (withHeld [] s) = u := by
        rw [handFetchComplete_decides (s := withHeld [] s) read hand]
        show checkStarved (withHeld [] (decideHand i entry (withHeld [] (fetched s)))) = _
        rw [checkStarved_withHeld, decideHand_withHeld, checkStarved_withHeld]
        rfl
      rw [← decided]
      exact exec_running run
    have second : exec (.handFetchComplete entry) s = .next (takeHeld (held.map BitVec.toNat) u) := by
      have decided : handFetchComplete entry s = takeHeld (held.map BitVec.toNat) u := by
        rw [handFetchComplete_decides read hand, list, checkStarved_takeHeld, takeHeld_withHeld]
      rw [← decided]
      exact exec_running run
    refine ⟨u, _, first, second, follows_takeHeld held ?_ ?_ rfl⟩
    · show (checkStarved x).osc.phase = _
      simpa [x, fetched, onArc] using run
    · show (checkStarved x).arc.hand = none
      rw [checkStarved_arc_hand, decideHand_frame]
      rfl
  · have empty_after : (decideHand i entry (fetched s)).arc.handHeld = [] := by
      rw [decideHand_frame]
      exact empty
    have decided : handFetchComplete entry s = checkStarved (decideHand i entry (fetched s)) := by
      rw [handFetchComplete_decides read hand, empty]
      exact congrArg checkStarved (withHeld_self empty_after)
    have row : exec (.handFetchComplete entry) s = .next (checkStarved (decideHand i entry (fetched s))) := by
      rw [← decided]
      exact exec_running run
    have frame := decideHand_frame i entry (fetched s)
    have has : ∀ c : Cause, c ≠ .handRefused → (decideHand i entry (fetched s)).arc.has c = s.arc.has c := fun c other =>
      decideHand_has i entry (fetched s) other
    refine ⟨_, row, ?_, ?_, fun c refused starved => ?_, fun none => ?_, fun e some => ?_⟩
    · refine State.eq_of_fields ?_ ?_ ?_ ?_ ?_ ?_ ?_ ?_ ?_ ?_ rfl ?_ ?_ <;> simp [fetched, onArc]
    · rw [checkStarved_arc_copies, checkStarved_arc_lent, checkStarved_arc_requests, checkStarved_arc_entryWrites,
        checkStarved_arc_lastRefused]
      conv_lhs => rw [checkStarved_frame, frame]
      rw [← empty]
      rfl
    · rw [checkStarved_has_other _ _ starved, has c refused]
    · exact checkStarved_refused (by rw [none]; rfl)
    · subst some
      have refuses : ∀ reason, checkEntry (fetched s) (readEntry e) = .inl reason → _ := fun reason h =>
        checkStarved_refused (decideHand_refuses (i := i) h)
      refine ⟨fun unknown => ?_, fun known small => ?_, fun known large odd => ?_, fun large aligned => ⟨fun code => ?_, fun st code => ?_⟩⟩
      · refine refuses .kind ?_
        rw [checkEntry, segKindOf_none unknown]
      · obtain ⟨kind, known⟩ := segKindOf_some known
        exact refuses .capacity (checkEntry_capacity known small)
      · obtain ⟨kind, known⟩ := segKindOf_some known
        exact refuses .align (checkEntry_align known large odd)
      · have check : _ = if _ then _ else listed s (readEntry e) .request := checkEntry_listed (s := fetched s) (by rw [code]; rfl) large aligned
        refine ⟨fun bad => ?_, fun some fits full => ?_, fun some fits room => ?_⟩
        · exact refuses .count (by rw [check, if_pos ⟨rfl, bad⟩])
        · exact refuses .full (by rw [check, if_neg (by omega), listed, if_pos full])
        · have accepted := check.trans (if_neg (by omega))
          rw [listed, if_neg (Nat.not_le_of_lt room)] at accepted
          exact checkStarved_queued (decideHand_queues accepted rfl)
      · have check : _ = if _ then _ else listed s (readEntry e) (.journal st) :=
          checkEntry_listed (s := fetched s) (by rw [code]; exact segKindOf_journal st) large aligned
        refine ⟨fun full => ?_, fun room => ?_⟩
        · exact refuses .full (by rw [check, if_neg (by simp), listed, if_pos full])
        · have accepted := check.trans (if_neg (by simp))
          rw [listed, if_neg (Nat.not_le_of_lt room)] at accepted
          exact checkStarved_lent (decideHand_lends accepted rfl)

end Sys2Proof.Machine
end

section
/-! SUPPORT. Link resets, and their statement (R135, R157 to R159, R177, R178). -/

namespace Sys2Proof.Machine

variable {s t : State}

theorem beginLinkReset_joins {old : LinkCauses} (h : s.arc.linkReset = some old) (causes : LinkCauses) :
    beginLinkReset causes s
      = { s with arc := { s.arc with linkReset := some ⟨old.hot || causes.hot, old.soft || causes.soft⟩ } } := by
  rw [beginLinkReset, h]
  rfl

theorem beginLinkReset_begins (h : s.arc.linkReset = none) (causes : LinkCauses) : beginLinkReset causes s = { s with
    arc := { s.arc with linkReset := some causes, hand := none, handHeld := [] }
    rqp := s.rqp.withdraw, evu := s.evu.unask } := by
  rw [beginLinkReset, h]

theorem Rqp.withdraw_phase (r : Rqp) :
    (r.phase = .offered ∨ (∃ st, r.phase = .answering (.cutBurst st)) → r.withdraw.phase = .idle)
    ∧ (r.phase ≠ .offered → (∀ st, r.phase ≠ .answering (.cutBurst st)) → r.withdraw.phase = r.phase) := by
  refine ⟨fun left => ?_, fun offered cut => ?_⟩
  · obtain offered | ⟨st, cut⟩ := left
    · rw [withdraw, offered]
    · rw [withdraw, cut]
  · unfold withdraw
    dsimp only
    split
    · next h => exact absurd h offered
    · next st h => exact absurd h (cut st)
    · rfl

theorem BurstPhase.busy_iff (p : BurstPhase) : p.busy = true ↔ ∃ st, p = .inFlight st := by
  cases p <;> simp [busy]

theorem SlotPhase.busy_iff (p : SlotPhase) : p.busy = true ↔ p = .reading ∨ ∃ o w, p = .writing o w := by
  cases p <;> simp [busy]

/-- What a link reset waits for. -/
def LinkBusy (s : State) : Prop :=
  (∃ st, s.jwr.phase = .inFlight st) ∨ (∃ st, s.arc.closing.get st ≠ []) ∨ s.arc.status.inFlight ≠ none
    ∨ s.arc.entryWrites ≠ [] ∨ s.arc.handRead ≠ none ∨ s.rqp.phase = .reading ∨ (∃ o w, s.rqp.phase = .writing o w)
    ∨ s.rqp.lateWrites ≠ []

theorem linkQuiet_iff (s : State) : linkQuiet s = true ↔ ¬LinkBusy s := by
  have closing : (∃ st, s.arc.closing.get st ≠ []) ↔
      s.arc.closing.arrival ≠ [] ∨ s.arc.closing.auction ≠ [] ∨ s.arc.closing.evidence ≠ [] := by
    constructor
    · rintro ⟨st, some⟩
      cases st with
      | arrival => exact .inl some
      | auction => exact .inr (.inl some)
      | evidence => exact .inr (.inr some)
    · rintro (some | some | some)
      · exact ⟨.arrival, some⟩
      · exact ⟨.auction, some⟩
      · exact ⟨.evidence, some⟩
  have burst := BurstPhase.busy_iff s.jwr.phase
  have slot := SlotPhase.busy_iff s.rqp.phase
  rw [LinkBusy, closing, ← burst, or_assoc (a := s.rqp.phase = .reading) |>.symm, ← slot]
  simp [linkQuiet, Rqp.busy, and_assoc]

theorem linkResetTakesEffect_waits (h : LinkBusy s) : linkResetTakesEffect s = s := by
  unfold linkResetTakesEffect
  split
  · rfl
  · exact if_neg fun quiet => (linkQuiet_iff s).mp quiet h

/-- The RESET record of a link reset, with room. -/
theorem linkResetRecord_room (room : hasEvidenceRoom s) (c : LinkCauses) : linkResetRecord c s = { s with
    evu := { s.evu with
      queue := s.evu.queue ++ [⟨⟨s.tsu.xt, s.tsu.leap, s.div.cls, s.tsu.state⟩, s.osc.tick,
        .reset (ResetCauses.adding s.evu.pendingReset c) s.osc.state, false⟩], pendingReset := none }
    stg := { s.stg with reserved := s.stg.reserved + 1 } } := by
  unfold linkResetRecord
  rw [if_pos ((evidenceRoom_iff_has s).mpr room)]
  rfl

theorem linkResetRecord_full (full : ¬hasEvidenceRoom s) (c : LinkCauses) : linkResetRecord c s =
    { s with evu := { s.evu with pendingReset := some (ResetCauses.adding s.evu.pendingReset c) } } := by
  unfold linkResetRecord
  rw [if_neg ((evidenceRoom_iff_has s).not.mpr full)]

/-- The area controller when a link reset has taken effect, nothing being in flight. -/
theorem linkCleared_eq {a : Arc} (entries : a.entryWrites = []) (read : a.handRead = none) :
    a.linkCleared = { Arc.cleared a.messages with messaged := a.messaged, status := { a.status with due := false } } := by
  rw [Arc.linkCleared, entries, read]
  rfl

/-- Settles O53: a link reset begins, joins, waits and takes effect. -/
theorem link_reset_begins_joins_and_takes_effect : Obligations.link_reset_begins_joins_and_takes_effect := by
  intro s v run
  have effect : exec .linkResetTakesEffect s = .next (linkResetTakesEffect s) := exec_running run
  refine ⟨fun c causes cause => ?_, fun none => ?_, fun busy => ?_,
    fun c reset burst closing status entries read reading writing late => ?_⟩
  · have row : exec c s = .next (beginLinkReset causes s) := by
      obtain ⟨rfl, rfl⟩ | ⟨rfl, rfl⟩ := cause
      · exact exec_running run
      · exact exec_running run
    obtain ⟨idles, stays⟩ := Rqp.withdraw_phase s.rqp
    refine ⟨fun old h => by rw [row, beginLinkReset_joins h], fun h => ⟨_, row, ?_⟩⟩
    rw [beginLinkReset_begins h]
    exact ⟨rfl, rfl, idles, stays, rfl, rfl⟩
  · rw [effect, linkResetTakesEffect, none]
  · rw [effect, linkResetTakesEffect_waits busy]
  · have quiet : linkQuiet s = true := (linkQuiet_iff s).mpr fun busy => by
      obtain ⟨st, h⟩ | ⟨st, h⟩ | h | h | h | h | ⟨o, w, h⟩ | h := busy
      · exact burst st h
      · rw [closing] at h
        cases st <;> exact h rfl
      · exact h status
      · exact h entries
      · exact h read
      · exact reading h
      · exact writing o w h
      · exact h late
    have taken : linkResetTakesEffect s = linkResetRecord c { s with arc := s.arc.linkCleared, rqp := s.rqp.abandon } := by
      rw [linkResetTakesEffect, reset]
      exact if_pos quiet
    have cleared := linkCleared_eq entries read
    dsimp only
    rw [effect, taken]
    by_cases room : hasEvidenceRoom s
    · rw [linkResetRecord_room (s := { s with arc := s.arc.linkCleared, rqp := s.rqp.abandon }) room]
      exact ⟨_, rfl, cleared, rfl, fun _ => ⟨rfl, rfl⟩, fun full => absurd room full, rfl⟩
    · rw [linkResetRecord_full (s := { s with arc := s.arc.linkCleared, rqp := s.rqp.abandon }) room]
      exact ⟨_, rfl, cleared, rfl, fun some => absurd some room, fun _ => ⟨rfl, rfl⟩, rfl⟩

end Sys2Proof.Machine
end
section
/-! SUPPORT. The request processor, and its statement (R155, R157, R161 to R165, R176, R177, R182). -/

namespace Sys2Proof.Machine

variable {s t : State} {i : Fin 64}

/-! ### The bytes of an answer (R162, R182) -/

theorem cellsFrom_length (addr : Nat) (bs : List Byte) : (cellsFrom addr bs).length = bs.length := by
  induction bs generalizing addr with
  | nil => rfl
  | cons b bs ih => rw [cellsFrom, List.length_cons, ih, List.length_cons]

theorem cellsFrom_getElem? (addr : Nat) (bs : List Byte) (k : Nat) : (cellsFrom addr bs)[k]? = bs[k]?.map fun b => (addr + k, b) := by
  induction bs generalizing addr k with
  | nil => rfl
  | cons b bs ih =>
    cases k with
    | zero => rfl
    | succ k =>
      rw [cellsFrom, List.getElem?_cons_succ, List.getElem?_cons_succ, ih]
      have place : addr + 1 + k = addr + (k + 1) := by omega
      rw [place]

theorem sliceAt_layout_length (fs : List Field) {off n : Nat} (inside : off + n ≤ 64) : (sliceAt (layout 64 fs) off n).length = n := by
  simp only [sliceAt, layout, List.length_take, List.length_drop, List.length_map, List.length_range]
  omega

theorem sliceAt_layout_getElem? (fs : List Field) {off n k : Nat} (inside : off + n ≤ 64) (h : k < n) :
    (sliceAt (layout 64 fs) off n)[k]? = some (layoutByte fs (off + k)) := by
  rw [sliceAt, List.getElem?_take_of_lt h, List.getElem?_drop, layout, List.getElem?_map, List.getElem?_range (by omega)]
  rfl

/-- The two writes of an answer: the result area, and then the outcome. -/
theorem answer_eq (o : ReqOutcome) (fs : List Field) (s : State) : answer o fs s = { s with rqp := { s.rqp with
    phase := .writing o [cellsFrom (slotAddr s + 2) (sliceAt (layout 64 fs) 2 6)
      ++ cellsFrom (slotAddr s + 16) (sliceAt (layout 64 fs) 16 48), [(slotAddr s + 1, BitVec.ofNat 8 o.code)]] } } := rfl

theorem slotAddr_of {c : SegCopy} (cur : s.rqp.cur = some i) (copy : s.arc.copies[i] = some c) :
    slotAddr s = c.base + 64 * s.rqp.slot := by
  rw [slotAddr, cur]
  dsimp only
  rw [copy]

theorem layoutByte_eq (fs : List Field) (k : Nat) : layoutByte fs k =
    match fs.find? fun f => decide (f.off ≤ k ∧ k < f.off + f.size) with
    | some f => BitVec.ofNat 8 (f.val / 256 ^ (k - f.off))
    | none => 0#8 := by
  have covers : (fun f : Field => decide (f.off ≤ k ∧ k < f.off + f.size))
      = fun f => decide (f.off ≤ k) && decide (k < f.off + f.size) := funext fun f => Bool.decide_and _ _
  rw [covers]
  rfl

/-! ### Segments taken and ended (R161, R163, R164) -/

theorem requestSegmentTake_idle (h : s.rqp.cur.isSome ∨ s.arc.requests = []) : requestSegmentTake s = s := by
  unfold requestSegmentTake
  split
  · next cur requests =>
    obtain busy | none := h
    · rw [cur] at busy
      exact nomatch busy
    · exact nomatch requests.symm.trans none
  · rfl

theorem takeSegment_eq {c : SegCopy} (copy : s.arc.copies[i] = some c) : takeSegment i s = { s with
    rqp := { s.rqp with cur := some i, slot := 0, done := 0, phase := .reading }
    arc := { s.arc with copies := s.arc.copies.set i (some { c with held := .running })
                        entryWrites := s.arc.entryWrites ++
                          [cellsFrom (entryAddr s.arc.area i) (entryBytes .running .none 0 none none)] } } := by
  unfold takeSegment
  rw [Arc.hold_of_copy copy]
  rfl

/-- What the end of a segment leaves. -/
def SegmentEnded (s t : State) (i : Fin 64) (state : EntryState) (reason : SegReason) (fill : Nat) : Prop :=
  t.rqp.cur = none ∧ t.rqp.phase = .idle ∧ t.arc.requests = s.arc.requests.filter (· ≠ i)
    ∧ t.arc.copies = s.arc.copies.set i none
    ∧ t.arc.entryWrites = s.arc.entryWrites ++ [cellsFrom (entryAddr s.arc.area i) (entryBytes state reason fill none none)]
    ∧ t.arc.has .reqDone = true
    ∧ (∀ x : Cause, x ≠ .reqDone → x ≠ .writeFault → t.arc.has x = s.arc.has x)
    ∧ t = { s with rqp := t.rqp, arc := { s.arc with
        requests := t.arc.requests, copies := t.arc.copies, entryWrites := t.arc.entryWrites, cause := t.arc.cause,
        messages := t.arc.messages, messaged := t.arc.messaged } }

/-- The end of a segment, from a controller that may have noted a write fault and a processor that may have counted a slot. -/
theorem endSegment_ended (i : Fin 64) (state : EntryState) (reason : SegReason) (fill : Nat) (r : Rqp) {a : Arc}
    (frame : a = { s.arc with cause := a.cause, messages := a.messages, messaged := a.messaged })
    (has : ∀ x : Cause, x ≠ .writeFault → a.has x = s.arc.has x) :
    let t := endSegment i state reason fill { s with rqp := r, arc := a }
    SegmentEnded s t i state reason fill ∧ t.arc.has .writeFault = a.has .writeFault ∧ t.rqp.lateWrites = r.lateWrites := by
  let ended : Arc := { a with
    requests := a.requests.filter (· ≠ i), copies := a.copies.set i none
    entryWrites := a.entryWrites ++ [cellsFrom (entryAddr a.area i) (entryBytes state reason fill none none)] }
  have arc : (endSegment i state reason fill { s with rqp := r, arc := a }).arc = ended.raise .reqDone := rfl
  have shown := Arc.raise_frame ended .reqDone
  refine ⟨⟨rfl, rfl, ?_, ?_, ?_, ?_, fun x done fault => ?_, ?_⟩, ?_, rfl⟩
  · rw [arc, shown, show ended.requests = a.requests.filter (· ≠ i) from rfl, frame]
  · rw [arc, shown, show ended.copies = a.copies.set i none from rfl, frame]
  · rw [arc, shown]
    show a.entryWrites ++ [cellsFrom (entryAddr a.area i) _] = _
    rw [frame]
  · rw [arc, Arc.raise_has]
  · rw [arc, Arc.raise_has_other _ _ _ done]
    exact has x fault
  · refine State.eq_of_fields rfl rfl rfl rfl rfl rfl rfl rfl rfl rfl ?_ rfl rfl
    rw [arc, shown]
    dsimp only [ended]
    rw [frame]
  · rw [arc, Arc.raise_has_other _ _ _ (by decide)]
    rfl

theorem endCurrent_of (cur : s.rqp.cur = some i) (state : EntryState) (reason : SegReason) (fill : Nat) :
    endCurrent state reason fill s = endSegment i state reason fill s := by
  rw [endCurrent, cur]

/-! ### Slot writes (R162 to R164, R177) -/

theorem slotWriteComplete_late {n : Nat} (late : n < s.rqp.lateWrites.length) (ok : Bool) : slotWriteComplete n ok s =
    noteWrite ok { s with rqp := { s.rqp with lateWrites := s.rqp.lateWrites.eraseIdx n } } := if_pos late

/-- The completion of a write of the current slot. -/
theorem slotWriteComplete_current {o : ReqOutcome} {w : List LinkWrite} {n : Nat} (writing : s.rqp.phase = .writing o w) (inside : n < w.length)
    (ok : Bool) : slotWriteComplete (s.rqp.lateWrites.length + n) ok s =
      if s.rqp.tickResult = none then currentWriteComplete o (w.eraseIdx n) ok s else s := by
  unfold slotWriteComplete
  dsimp only
  rw [if_neg (by omega), writing]
  dsimp only
  rw [Nat.add_sub_cancel_left]
  simp only [inside, true_and]

theorem slotWriteComplete_beyond {n : Nat} (h : (slotWrites s).length ≤ n) (ok : Bool) : slotWriteComplete n ok s = s := by
  unfold slotWrites at h
  rw [List.length_append] at h
  unfold slotWriteComplete
  dsimp only
  rw [if_neg (by omega)]
  split
  · next o w writing =>
    rw [writing] at h
    dsimp only at h
    exact if_neg fun inside => by omega
  · rfl
  · rfl
  · rfl
  · rfl

theorem slotCount_of {c : SegCopy} (cur : s.rqp.cur = some i) (copy : s.arc.copies[i] = some c) : slotCount s = c.count := by
  rw [slotCount, cur]
  dsimp only
  rw [copy]

theorem slotDone_next {c : SegCopy} (cur : s.rqp.cur = some i) (copy : s.arc.copies[i] = some c) (more : s.rqp.done + 1 < c.count) :
    slotDone s = { s with
      rqp := { s.rqp with done := s.rqp.done + 1, slot := s.rqp.slot + 1, phase := if hostOpen s then .reading else .idle } } := by
  unfold slotDone
  dsimp only
  rw [slotCount_of cur copy, if_pos more]

theorem slotDone_last {c : SegCopy} (cur : s.rqp.cur = some i) (copy : s.arc.copies[i] = some c) (last : c.count ≤ s.rqp.done + 1) :
    slotDone s = endSegment i .done .none (s.rqp.done + 1) { s with rqp := { s.rqp with done := s.rqp.done + 1 } } := by
  unfold slotDone
  dsimp only
  rw [slotCount_of cur copy, if_neg (Nat.not_lt_of_le last)]
  exact endCurrent_of (s := { s with rqp := { s.rqp with done := s.rqp.done + 1 } }) cur ..

/-- Settles O54: request slots read, run and written. -/
theorem request_slots_are_read_run_and_written : Obligations.request_slots_are_read_run_and_written := by
  intro s run
  have take : exec .requestSegmentTake s = .next (requestSegmentTake s) := exec_running run
  have read : ∀ bytes, exec (.slotReadComplete bytes) s = .next (slotReadComplete bytes s) := fun bytes => exec_running run
  have write : ∀ n ok, exec (.slotWriteComplete ⟨n, ok⟩) s = .next (slotWriteComplete n ok s) := fun n ok => exec_running run
  dsimp only
  refine ⟨fun i rest c idle queue copy => ?_, fun idle => by rw [take, requestSegmentTake_idle idle], fun bytes reading => ?_,
    fun o fields i c cur copy => ?_, fun i c reading cur copy => ?_, fun n ok => ⟨?_, fun beyond => ?_, fun late => ⟨?_, ?_⟩⟩,
    fun o w i c n writing cur copy inside => ?_⟩
  · have taken : requestSegmentTake s = if hostOpen s then takeSegment i s else s := by
      rw [requestSegmentTake, idle, queue]
    rw [take, taken]
    refine ⟨fun shut => ?_, fun runs => ?_⟩
    · rw [if_neg fun opened => shut ((hostOpen_iff s).mp opened)]
    · rw [if_pos ((hostOpen_iff s).mpr runs), takeSegment_eq copy]
  · rw [read]
    unfold slotReadComplete
    rw [if_pos reading]
    refine ⟨fun withdrawn => ?_, fun here b some => ⟨fun known => ?_, fun unknown => ?_⟩, fun here none i cur => ?_⟩
    · rw [if_pos withdrawn]
      rfl
    · rw [if_neg (by simp [here]), some]
      dsimp only
      rw [if_pos known]
      rfl
    · rw [if_neg (by simp [here]), some]
      dsimp only
      rw [if_neg unknown]
    · rw [if_neg (by simp [here]), none]
      dsimp only
      rw [endCurrent_of cur]
      exact ⟨_, rfl, endSegment_ended i .faulted .slotRead s.rqp.done s.rqp (a := s.arc) rfl fun _ _ => rfl⟩
  · rw [answer_eq, slotAddr_of cur copy]
    refine ⟨_, rfl, ?_, fun k h => ?_, fun k h => ?_⟩
    · rw [List.length_append, cellsFrom_length, cellsFrom_length, sliceAt_layout_length fields (by decide),
        sliceAt_layout_length fields (by decide)]
    · rw [List.getElem?_append_left, cellsFrom_getElem?, sliceAt_layout_getElem? fields (by decide) h, layoutByte_eq]
      · rfl
      · rwa [cellsFrom_length, sliceAt_layout_length fields (by decide)]
    · have six : (cellsFrom (c.base + 64 * s.rqp.slot + 2) (sliceAt (layout 64 fields) 2 6)).length = 6 := by
        rw [cellsFrom_length, sliceAt_layout_length fields (by decide)]
      rw [List.getElem?_append_right (by rw [six]; omega), six, Nat.add_sub_cancel_left, cellsFrom_getElem?,
        sliceAt_layout_getElem? fields (by decide) h, layoutByte_eq]
      rfl
  · rw [slotRead, if_pos reading, slotAddr_of cur copy]
  · rw [slotWrites]
    cases s.rqp.phase <;> rfl
  · rw [write, slotWriteComplete_beyond beyond]
  · rw [write, slotWriteComplete_late late]
    rfl
  · rw [write, slotWriteComplete_late late]
    rfl
  · have row : ∀ ok, s.rqp.tickResult = none → exec (.slotWriteComplete ⟨s.rqp.lateWrites.length + n, ok⟩) s
        = .next (currentWriteComplete o (w.eraseIdx n) ok s) := fun ok formed => by
      rw [write, slotWriteComplete_current writing inside, if_pos formed]
    refine ⟨fun forming ok => ?_, fun formed => ⟨fun withdrawn => ⟨?_, ?_⟩, fun here left => ?_, fun here none more => ?_,
      fun here none last => ?_, fun here => ?_⟩⟩
    · rw [write, slotWriteComplete_current writing inside, if_neg forming]
    · rw [row true formed, currentWriteComplete, if_pos withdrawn]
      simp only [List.isEmpty_iff]
      rfl
    · rw [row false formed, currentWriteComplete, if_pos withdrawn]
      simp only [List.isEmpty_iff]
      rfl
    · rw [row true formed, currentWriteComplete, if_neg (by simp [here]), if_pos rfl, if_neg (by simpa using left)]
      rfl
    · rw [row true formed, currentWriteComplete, if_neg (by simp [here]), if_pos rfl, if_pos (by simpa using none),
        slotDone_next cur copy more]
      simp only [hostOpen_iff]
    · rw [row true formed, currentWriteComplete, if_neg (by simp [here]), if_pos rfl, if_pos (by simpa using none),
        slotDone_last cur copy last]
      exact ⟨_, rfl, endSegment_ended i .done .none (s.rqp.done + 1) { s.rqp with done := s.rqp.done + 1 } (a := s.arc) rfl
        fun _ _ => rfl⟩
    · rw [row false formed, currentWriteComplete, if_neg (by simp [here]), if_neg Bool.false_ne_true]
      refine ⟨_, rfl, ?_⟩
      have ended := endSegment_ended i .faulted .slotWrite s.rqp.done { s.rqp with lateWrites := s.rqp.lateWrites ++ w.eraseIdx n }
        (Arc.raise_frame s.arc .writeFault) fun x fault => Arc.raise_has_other s.arc .writeFault x fault
      rw [Arc.raise_has] at ended
      rw [endCurrent_of (s := raise .writeFault { s with rqp := { s.rqp with lateWrites := s.rqp.lateWrites ++ w.eraseIdx n } }) cur]
      exact ended

end Sys2Proof.Machine
end
